-- ==== Sys2Proof/Word.lean ====
section
/-! DEFINITION. The number types of the KV2408 manual (spec/00_scope.md, "Numbering"): bytes of the link, and the
index of each fixed collection. Counts, timers and scores are natural numbers; only what the manual combines bit by
bit (bytes of the link, sets of flags, masks, stamps) is a bit vector. -/

namespace Sys2Proof

/-- One byte of a frame (R174, R188). -/
abbrev Byte := BitVec 8

/-- A switch, 0 to 127: column × 8 + row. -/
abbrev SwitchNo := Fin 128

/-- A ball device, 0 to 7; device 0 is the trough and device 1 the shooter lane. -/
abbrev DevNo := Fin 8

/-- An eject slot, 0 to 7. -/
abbrev SlotNo := Fin 8

/-- A coil, 0 to 23. -/
abbrev CoilNo := Fin 24

/-- A player and that player's page, 0 to 3. -/
abbrev PlayerNo := Fin 4

/-- The place of devices 2 to 7 in the records kept per lock device: device d has place d − 2 (R89, R97). -/
abbrev LockNo := Fin 6

/-- A 32-bit count of scan frames (R2). -/
abbrev Stamp := BitVec 32

end Sys2Proof
end

