-- ==== Sys2Proof/Config.lean ====
section
/-! DEFINITION. What the part fixes (the numbers of R187's capability record and of the rules), and the FREE values: what the
manual leaves unstated after a request or event that goes on. A free value is an opaque constant: no proof can learn
it, so whatever is proved holds for every value. The log (notes/assumptions) names each one. -/

namespace Sys2Proof.Config

/-- The most balls that can be installed (R62). -/
def maxInstalled : Nat := 16
/-- The largest score and mode total (R124, R129). -/
def maxScore : Nat := 999999999999
/-- The largest award base, jackpot or hurry-up value (R110, R131, R132). -/
def maxValue : Nat := 99999999
/-- What a ROLL takes off an overflowing sum (R127). -/
def rollModulus : Nat := 1000000000000
/-- The largest 16-bit time (R158). -/
def maxTime : Nat := 65535
/-- The most contexts on one stack (R143). -/
def maxDepth : Nat := 8
/-- The clamp of the multiplier product (R125). -/
def maxProduct : Nat := 99
/-- The largest request body (R174). -/
def maxBody : Nat := 60
/-- The byte shifted out wherever no reply is (R188). -/
def filler : Byte := 0xFF
/-- The byte that means none, or PLAYFIELD in a target (R189). -/
def noneByte : Byte := 0xFF

/-- FREE (log 9): the eject coil that SET_DEVICE stores for kind UNUSED when the coil byte is one that the skipped
check of R19 would have refused. -/
opaque unusedDeviceCoil : Byte → CoilNo

/-- FREE (log 9): the eject target that SET_DEVICE stores for kind UNUSED when the target byte is one that the
skipped checks would have refused; 8 and above stand for PLAYFIELD. -/
opaque unusedDeviceTarget : Byte → Nat

/-- FREE (log 10): whether a byte that R189 refuses, but that the owning rule's table does not list, is refused
before the table's own checks (true) or after them (false). -/
opaque encodingCheckFirst : Bool

/-- FREE (log 11): the score result that ADVANCE_MODE's reply carries when no bonus has been added; the argument is
the model's counter of free values. -/
opaque absentResult : Nat → Byte

end Sys2Proof.Config
end

