-- ==== Sys2Proof/Syntax.lean ====
section
/-! DEFINITION. The commands of the KV2408: one constructor of `Instr` for each row of spec/opcode_table.json.
The table gives its rows no fields. A request carries the body of its frame, byte for byte, since R178 judges the
body's length and R190 lays its parameters out; an event carries the number of the record it happens to. -/

namespace Sys2Proof

/-- A power group (R47). -/
inductive Group
  | a | b
  deriving DecidableEq, Repr

/-- An event of the part that is not a request: the expiry of one timer, or a grant. Each is a row of the table in
its own right; as a type of their own they let SCAN_FRAME say which of them are taken between its ticks and its
switch readings, because "either may be taken first" (R118, R147, R153, R167). -/
inductive Event
  | evaluation (d : DevNo)
  | confirmTimer (d : DevNo)
  | saucerHold (d : DevNo)
  | grant (g : Group)
  | priorityAging (c : CoilNo)
  | pulseEnd (c : CoilNo)
  | holdWindow (c : CoilNo)
  | interval (c : CoilNo)
  | recovery (c : CoilNo)
  | gap (g : Group)
  | flight (position : Nat)
  | saveTimer
  | idleTimer
  | searchTimer
  | pfMultTimer
  | modeTimer (modeId : Nat)
  | hurryPeriod (modeId : Nat)
  | swingTimer
  deriving DecidableEq, Repr

/-- One constructor per row of spec/opcode_table.json, in the table's order. -/
inductive Instr
  /-- POWER_ON_RESET (R59). -/
  | powerOnReset
  /-- SCAN_FRAME (R2): `raw` holds one raw reading per switch, bit n set when switch n reads closed; `early` names
  the events taken after the frame's ticks and before its switch readings. -/
  | scanFrame (raw : BitVec 128) (early : List Event)
  /-- EVALUATION (R21): device `d`'s settle timer expires. -/
  | evaluation (d : DevNo)
  /-- CONFIRM_TIMER_EXPIRY (R33). -/
  | confirmTimerExpiry (d : DevNo)
  /-- SAUCER_HOLD_EXPIRY (R37). -/
  | saucerHoldExpiry (d : DevNo)
  /-- GRANT (R50): power group `g` grants a waiting coil. -/
  | grant (g : Group)
  /-- PRIORITY_AGING (R49). -/
  | priorityAging (c : CoilNo)
  /-- PULSE_END (R51). -/
  | pulseEnd (c : CoilNo)
  /-- HOLD_WINDOW_EXPIRY (R53). -/
  | holdWindowExpiry (c : CoilNo)
  /-- INTERVAL_EXPIRY (R52). -/
  | intervalExpiry (c : CoilNo)
  /-- RECOVERY_EXPIRY (R51). -/
  | recoveryExpiry (c : CoilNo)
  /-- GAP_EXPIRY (R47). -/
  | gapExpiry (g : Group)
  /-- FLIGHT_EXPIRY (R64): the in-flight record at `position` of the list, the oldest at 0. -/
  | flightExpiry (position : Nat)
  /-- SAVE_TIMER_EXPIRY (R77). -/
  | saveTimerExpiry
  /-- IDLE_TIMER_EXPIRY (R80). -/
  | idleTimerExpiry
  /-- SEARCH_TIMER_EXPIRY (R81). -/
  | searchTimerExpiry
  /-- PF_MULT_TIMER_EXPIRY (R133). -/
  | pfMultTimerExpiry
  /-- MODE_TIMER_EXPIRY (R147): the context of that id on the current player's stack. -/
  | modeTimerExpiry (modeId : Nat)
  /-- HURRY_PERIOD_EXPIRY (R132). -/
  | hurryPeriodExpiry (modeId : Nat)
  /-- SWING_TIMER_EXPIRY (R167). -/
  | swingTimerExpiry
  /-- FETCH (R177): a good fetch frame after whose CRC byte the host clocks `clocked` complete bytes. -/
  | fetch (clocked : Nat)
  /-- BAD_FRAME (R176): the complete bytes of a frame that fails a check of R176. -/
  | badFrame (frame : List Byte)
  /-- OVERRUN (R179): a frame of `clocked` complete bytes begun during an execution. -/
  | overrun (clocked : Nat)
  /-- UNKNOWN_REQUEST (R178): a good frame whose code names no request, or a fetch code with a body. -/
  | unknownRequest (code : Byte) (body : List Byte)
  | setSwitch (body : List Byte)
  | readSwitch (body : List Byte)
  | readSwitches (body : List Byte)
  | readActivity (body : List Byte)
  | setDevice (body : List Byte)
  | enableDevices (body : List Byte)
  | disableDevices (body : List Byte)
  | eject (body : List Byte)
  | cancelEjects (body : List Byte)
  | clearJam (body : List Byte)
  | readDevice (body : List Byte)
  | readSlot (body : List Byte)
  | setCoil (body : List Byte)
  | pulseCoil (body : List Byte)
  | readCoil (body : List Byte)
  | readGroups (body : List Byte)
  | recount (body : List Byte)
  | serve (body : List Byte)
  | setBallSave (body : List Byte)
  | startSearch (body : List Byte)
  | readAccounting (body : List Byte)
  | readFlights (body : List Byte)
  | lightLock (body : List Byte)
  | startMultiball (body : List Byte)
  | readPlayer (body : List Byte)
  | readLocks (body : List Byte)
  | setWindow (body : List Byte)
  | setAward (body : List Byte)
  | readWindow (body : List Byte)
  | readAward (body : List Byte)
  | readAwardHits (body : List Byte)
  | addPoints (body : List Byte)
  | setPfMult (body : List Byte)
  | readMultiplier (body : List Byte)
  | setTemplate (body : List Byte)
  | readTemplate (body : List Byte)
  | pushMode (body : List Byte)
  | retireMode (body : List Byte)
  | pauseMode (body : List Byte)
  | resumeMode (body : List Byte)
  | addModeTime (body : List Byte)
  | advanceMode (body : List Byte)
  | readMode (body : List Byte)
  | openSession (body : List Byte)
  | addPlayer (body : List Byte)
  | setPlayer (body : List Byte)
  | closeSession (body : List Byte)
  | gameReset (body : List Byte)
  | readSession (body : List Byte)
  | readNotices (body : List Byte)
  | clearNotices (body : List Byte)
  | setNoticeEnable (body : List Byte)
  | setNoticeRoute (body : List Byte)
  | setGameOptions (body : List Byte)
  | readGameOptions (body : List Byte)
  | readCapability (body : List Byte)
  /-- EXECUTION_END (R178). -/
  | executionEnd
  deriving DecidableEq, Repr

end Sys2Proof
end

