-- ==== Sys2Proof/Machine/Types.lean ====
section
/-! DEFINITION. The records of the KV2408, as plain data: the enumerations of R189 and one structure per record of
the manual. Nothing here computes; the power-on values stand in Machine/PowerOn.lean. -/

namespace Sys2Proof.Machine

/-! ### Enumerations of R189 -/

inductive SwitchClass
  | unused | playfield | device | tilt | slam | cabinet
  deriving DecidableEq, Repr

inductive EdgeSelection
  | none | close | opening | both
  deriving DecidableEq, Repr

inductive EdgeFilter
  | close | opening | either
  deriving DecidableEq, Repr

/-- Debounced level: OPEN or CLOSED. -/
inductive Level
  | opened | closed
  deriving DecidableEq, Repr

/-- The direction of an accepted edge: CLOSE or OPEN (R4). -/
inductive Direction
  | closing | opening
  deriving DecidableEq, Repr

inductive DeviceKind
  | unused | trough | shooter | saucer | lock
  deriving DecidableEq, Repr

inductive DeviceState
  | disabled | idle | ejecting | confirming | jammed
  deriving DecidableEq, Repr

inductive SlotState
  | idle | queued | active
  deriving DecidableEq, Repr

inductive SlotResult
  | none | done | short | jammed | cancelled
  deriving DecidableEq, Repr

inductive Profile
  | pulse | repeating | holdRelease
  deriving DecidableEq, Repr

inductive CoilState
  | idle | waiting | firing | holding | recovering
  deriving DecidableEq, Repr

inductive Cause
  | eject | launch | unprompted
  deriving DecidableEq, Repr

inductive PlayPhase
  | noPlay | serving | launchWait | play | ended
  deriving DecidableEq, Repr

inductive LockPolicy
  | purge | keep
  deriving DecidableEq, Repr

inductive LockOutcome
  | none | captured | rejected
  deriving DecidableEq, Repr

inductive LockReason
  | none | notPlay | tilted | deviceBusy | notLit
  deriving DecidableEq, Repr

inductive Stacking
  | exclusive | stacking
  deriving DecidableEq, Repr

inductive Scope
  | localScope | globalScope
  deriving DecidableEq, Repr

/-- Derived state of a context (R145). -/
inductive RunState
  | running | suspended | paused
  deriving DecidableEq, Repr

inductive EndReason
  | none | completed | timedOut | drained | tilted | retired | closed
  deriving DecidableEq, Repr

inductive AwardKind
  | points | advance | jackpotBuild | jackpotCollect | hurryCollect | lightLock | startMode | startMultiball
  | pfMult | notify
  deriving DecidableEq, Repr

inductive Arbitration
  | fixed | rotate
  deriving DecidableEq, Repr

inductive ScorePolicy
  | saturate | roll
  deriving DecidableEq, Repr

inductive ScoreResult
  | stored | saturated | rolled
  deriving DecidableEq, Repr

inductive LinkCause
  | none | badLength | shortFrame | badCrc | overrun
  deriving DecidableEq, Repr

/-- Requesting class (R48). -/
inductive ReqClass
  | eject | search | direct
  deriving DecidableEq, Repr

inductive GroupState
  | free | busy | gap
  deriving DecidableEq, Repr

inductive SaveState
  | off | active | grace
  deriving DecidableEq, Repr

inductive SearchState
  | idle | searching
  deriving DecidableEq, Repr

inductive SessionState
  | closed | opened
  deriving DecidableEq, Repr

inductive TiltStatus
  | normal | warned | tilted
  deriving DecidableEq, Repr

inductive MultTimerState
  | counting | holding | untimed
  deriving DecidableEq, Repr

inductive Status
  | ok | refusedState | refusedFull | refusedDuplicate | refusedBusy | notFound | badValue | badFrame
  | unknownRequest | noReply
  deriving DecidableEq, Repr

/-- The 22 notice kinds, in the order of R190's notice set. -/
inductive Notice
  | switchActivity | ejectFinished | deviceJammed | doubleEject | ballMissing | ballFound | extraBall | ballSaved
  | ballEnded | multiballStarted | multiballEnded | searchStarted | lockCaptured | lockRejected | awardHit
  | modeRefused | modeEnded | scoreRollover | tiltWarning | tilted | slam | linkError
  deriving DecidableEq, Repr

/-! ### Records -/

/-- A count that runs or stands (spec/00_scope.md, "Time"). `due` is set by the tick that leaves one unit to take
off; the expiry event takes that unit, so a timer whose expiry is not taken "holds above 0" (R147). -/
structure Timer where
  count   : Nat
  running : Bool
  due     : Bool
  deriving DecidableEq, Repr

/-- A switch record (R1). -/
structure SwitchRec where
  cls           : SwitchClass
  closeDebounce : Nat
  openDebounce  : Nat
  selection     : EdgeSelection
  level         : Level
  pendingFrames : Nat
  lastClose     : Stamp
  lastOpen      : Stamp
  deriving DecidableEq, Repr

/-- Where a ball goes: the open playfield or a device. -/
inductive Target
  | playfield
  | device (d : DevNo)
  deriving DecidableEq, Repr

/-- The order a device works on (R18). -/
inductive Order
  | none
  | slot (n : SlotNo)
  | owed
  deriving DecidableEq, Repr

/-- The configuration part of a device record (R17). -/
structure DeviceConfig where
  kind           : DeviceKind
  configured     : Bool
  capacity       : Nat
  positions      : List SwitchNo
  entry          : Option SwitchNo
  coil           : CoilNo
  target         : Target
  settleTime     : Nat
  confirmTimeout : Nat
  maxAttempts    : Nat
  flightTime     : Nat
  holdTime       : Nat
  policy         : LockPolicy
  searchFlag     : Bool
  deriving DecidableEq, Repr

/-- The live part of a device record (R18). `intended` is the number of balls the attempt intends (R30, R31). -/
structure DeviceLive where
  state            : DeviceState
  occupancy        : Nat
  entriesSeen      : Nat
  owed             : Nat
  order            : Order
  attemptCount     : Nat
  attemptExits     : Nat
  attemptConfirmed : Bool
  exitsInOrder     : Nat
  stopPending      : Bool
  countFault       : Bool
  settle           : Timer
  confirm          : Timer
  hold             : Timer
  intended         : Nat
  deriving DecidableEq, Repr

structure Device where
  cfg  : DeviceConfig
  live : DeviceLive
  deriving DecidableEq, Repr

/-- An eject slot (R26). -/
structure Slot where
  state     : SlotState
  device    : DevNo
  requested : Nat
  ejected   : Nat
  result    : SlotResult
  issue     : Nat
  deriving DecidableEq, Repr

/-- The configuration part of a coil record (R44). -/
structure CoilConfig where
  group        : Group
  pulseWidth   : Nat
  recovery     : Nat
  profile      : Profile
  repeatPeriod : Nat
  repeatLimit  : Nat
  holdWindow   : Nat
  searchFlag   : Bool
  deriving DecidableEq, Repr

/-- Whose work a coil serves (R45). -/
inductive Owner
  | device (d : DevNo)
  | search
  | host
  deriving DecidableEq, Repr

/-- The live part of a coil record (R45). `ageDue` marks that the age reaches 8 and the lowering of R49 is not yet
taken; `ending` marks that the owner has ended the request while its pulse fires (R54). -/
structure CoilLive where
  state      : CoilState
  owner      : Option Owner
  cls        : Option ReqClass
  priority   : Nat
  age        : Nat
  ageDue     : Bool
  held       : Option DevNo
  grantWidth : Nat
  pulses     : Nat
  interval   : Bool
  ending     : Bool
  timer      : Timer
  deriving DecidableEq, Repr

structure Coil where
  cfg  : CoilConfig
  live : CoilLive
  deriving DecidableEq, Repr

/-- A power group (R47). -/
structure GroupRec where
  state : GroupState
  gap   : Timer
  last  : CoilNo
  deriving DecidableEq, Repr

/-- An in-flight record (R63). `due` marks that its flight time reaches 0 and the expiry is not yet taken. -/
structure FlightRec where
  source    : DevNo
  target    : Target
  stamp     : Stamp
  remaining : Nat
  cause     : Cause
  due       : Bool
  deriving DecidableEq, Repr

/-- The accounting record (R61). `searchSlow` tells which of its two units the search timer counts in: the slow
round interval of R82 (100 ms) or the pulse spacing of R81 (10 ms). -/
structure Accounting where
  installed   : Nat
  live        : Nat
  missing     : Nat
  flights     : List FlightRec
  phase       : PlayPhase
  serveLaunch : Bool
  inPlay      : Nat
  multiball   : Bool
  saveState   : SaveState
  saveTimer   : Timer
  savesUsed   : Nat
  search      : SearchState
  round       : Nat
  idleTimer   : Timer
  searchTimer : Timer
  searchSlow  : Bool
  lastSearch  : Option CoilNo
  deriving DecidableEq, Repr

/-- A mode template (R140). -/
structure Template where
  stacking      : Stacking
  scope         : Scope
  multiplier    : Nat
  goal          : Nat
  initialTimer  : Nat
  jackpotBase   : Nat
  jackpotStep   : Nat
  jackpotMax    : Nat
  hurryStart    : Nat
  hurryStep     : Nat
  hurryFloor    : Nat
  hurryPeriod   : Nat
  completionPct : Nat
  endOnDrain    : Bool
  endOnTilt     : Bool
  next          : Nat
  deriving DecidableEq, Repr

/-- A mode context (R142): its own copy of the template's fields, and what it gathers. The derived state is computed
from the stack (R145), not stored. The two `due` fields mark expiries not yet taken. -/
structure Context where
  id             : Nat
  tpl            : Template
  timed          : Bool
  timer          : Nat
  timerDue       : Bool
  paused         : Bool
  progress       : Nat
  jackpot        : Nat
  hurry          : Nat
  hurryRemaining : Nat
  hurryDue       : Bool
  total          : Nat
  deriving DecidableEq, Repr

/-- A last-ended record (R151); mode id 0 means none. -/
structure LastEnded where
  id     : Nat
  reason : EndReason
  total  : Nat
  deriving DecidableEq, Repr

/-- A player page (R89). `lit` and `credits` are indexed by device − 2. The stack runs from bottom to top. -/
structure Page where
  score    : Nat
  rollover : Nat
  lit      : Vector Nat 6
  credits  : Vector Nat 6
  stack    : List Context
  last     : LastEnded
  deriving DecidableEq, Repr

/-- A lock decision record (R97). -/
structure LockDecision where
  outcome : LockOutcome
  reason  : LockReason
  player  : PlayerNo
  stamp   : Stamp
  deriving DecidableEq, Repr

/-- A routing window (R107); base and mask are combined position by position. -/
structure Window where
  enabled   : Bool
  base      : BitVec 7
  mask      : BitVec 7
  filter    : EdgeFilter
  translate : Bool
  target    : BitVec 8
  deriving DecidableEq, Repr

/-- An award entry (R110). -/
structure AwardEntry where
  kind            : AwardKind
  base            : Nat
  scope           : Nat
  requiresRunning : Bool
  argument        : Byte
  notify          : Bool
  deriving DecidableEq, Repr

/-- The session record (R162). -/
structure Session where
  state    : SessionState
  players  : Nat
  current  : PlayerNo
  tilt     : TiltStatus
  warnings : Nat
  swing    : Timer
  deriving DecidableEq, Repr

/-- The notice set (R181): a member bit per kind, at its position in R190; a route bit set means B. -/
structure Notices where
  pending : BitVec 22
  enable  : BitVec 22
  route   : BitVec 22
  deriving DecidableEq, Repr

/-- A reply, before its length and CRC bytes are put to it (R188). -/
structure Reply where
  status : Status
  body   : List Byte
  deriving DecidableEq, Repr

/-- The link (R174 to R180): the reply in preparation while a request executes, the waiting reply, the bytes the part
shifted out during the latest frame, and the link error record. -/
structure Link where
  executing  : Option Reply
  waiting    : Option Reply
  shifted    : List Byte
  lastCause  : LinkCause
  errorCount : Nat
  deriving DecidableEq, Repr

/-- The game options record (R185), in the order of its table. -/
structure Options where
  arbitration    : Arbitration
  ejectPriority  : Nat
  searchPriority : Nat
  directPriority : Nat
  groupGap       : Nat
  pfMultTime     : Nat
  multiballSave  : Nat
  graceTime      : Nat
  saveLimit      : Nat
  searchDelay    : Nat
  searchSpacing  : Nat
  roundLimit     : Nat
  slowInterval   : Nat
  tiltLimit      : Nat
  swingWindow    : Nat
  policy         : ScorePolicy
  deriving DecidableEq, Repr

end Sys2Proof.Machine
end

