-- ==== Sys2Proof/Machine/Bytes.lean ====
section
/-! DEFINITION. The encodings of R189 (binary integers, packed BCD, enumerations, flags, none and PLAYFIELD, sets) and the
CRC-8 of R175. -/

namespace Sys2Proof.Machine

/-! ### Binary integers, most significant byte first -/

/-- A number as one byte. -/
def byte (n : Nat) : Byte := BitVec.ofNat 8 n

/-- A number as two bytes. -/
def bytes16 (n : Nat) : List Byte := [byte (n / 256), byte n]

/-- A number as four bytes. -/
def bytes32 (n : Nat) : List Byte := [byte (n / 16777216), byte (n / 65536), byte (n / 256), byte n]

/-- The number two bytes carry. -/
def word16 (hi lo : Byte) : Nat := hi.toNat * 256 + lo.toNat

/-! ### Packed BCD -/

/-- A number as `2 * k` decimal digits in `k` bytes, most significant digits first. -/
def bcdBytes : Nat → Nat → List Byte
  | 0, _ => []
  | k + 1, n => bcdBytes k (n / 100) ++ [byte (n % 100 / 10 * 16 + n % 10)]

/-- Whether every half-byte holds a digit 0 to 9. -/
def bcdValid (bs : List Byte) : Bool := bs.all fun b => b.toNat / 16 ≤ 9 && b.toNat % 16 ≤ 9

/-- The number that packed BCD bytes carry. -/
def bcdValue (bs : List Byte) : Nat :=
  bs.foldl (fun n b => n * 100 + (b.toNat / 16 * 10 + b.toNat % 16)) 0

/-! ### Flags, none, sets -/

/-- A flag as a byte. -/
def flagByte (b : Bool) : Byte := if b then 1 else 0

/-- A flag byte of a request; above 01 there is none. -/
def flagOf (b : Byte) : Option Bool := if b = 0 then some false else if b = 1 then some true else none

/-- A number, or FF for none. -/
def optByte : Option Nat → Byte
  | some n => byte n
  | none => Config.noneByte

/-- The number whose bit k is the k-th flag of the list. -/
def setOfFlags (l : List Bool) : Nat := l.foldr (fun b n => 2 * n + b.toNat) 0

/-- A set, given as a number whose bit k stands for member k, in `k` bytes: member k at byte k / 8, bit k % 8. -/
def setBytes (k n : Nat) : List Byte := (List.range k).map fun i => byte (n / 256 ^ i)

/-- The set that bytes carry, as a number. -/
def setValue (bs : List Byte) : Nat := bs.foldr (fun b n => 256 * n + b.toNat) 0

/-! ### Indices in range -/

/-- A byte as an index below `n`. -/
def indexOf (n : Nat) (b : Byte) : Option (Fin n) := if h : b.toNat < n then some ⟨b.toNat, h⟩ else none

/-- The indices below `n`, in ascending order. -/
def indices (n : Nat) : List (Fin n) := List.finRange n

/-! ### Enumerations: the position of the name in the table of R189 -/

/-- The byte of a name, given the names in the table's order. -/
def nameByte {α : Type} [DecidableEq α] (names : List α) (x : α) : Byte := byte (names.idxOf x)

/-- The name at a byte's position; beyond the last name there is none. -/
def nameOf {α : Type} (names : List α) (b : Byte) : Option α := names[b.toNat]?

def SwitchClass.names : List SwitchClass := [.unused, .playfield, .device, .tilt, .slam, .cabinet]
def EdgeSelection.names : List EdgeSelection := [.none, .close, .opening, .both]
def EdgeFilter.names : List EdgeFilter := [.close, .opening, .either]
def Level.names : List Level := [.opened, .closed]
def DeviceKind.names : List DeviceKind := [.unused, .trough, .shooter, .saucer, .lock]
def DeviceState.names : List DeviceState := [.disabled, .idle, .ejecting, .confirming, .jammed]
def SlotState.names : List SlotState := [.idle, .queued, .active]
def SlotResult.names : List SlotResult := [.none, .done, .short, .jammed, .cancelled]
def groupNames : List Group := [.a, .b]
def Profile.names : List Profile := [.pulse, .repeating, .holdRelease]
def CoilState.names : List CoilState := [.idle, .waiting, .firing, .holding, .recovering]
def Cause.names : List Cause := [.eject, .launch, .unprompted]
def PlayPhase.names : List PlayPhase := [.noPlay, .serving, .launchWait, .play, .ended]
def LockPolicy.names : List LockPolicy := [.purge, .keep]
def LockOutcome.names : List LockOutcome := [.none, .captured, .rejected]
def LockReason.names : List LockReason := [.none, .notPlay, .tilted, .deviceBusy, .notLit]
def Stacking.names : List Stacking := [.exclusive, .stacking]
def Scope.names : List Scope := [.localScope, .globalScope]
def RunState.names : List RunState := [.running, .suspended, .paused]
def EndReason.names : List EndReason := [.none, .completed, .timedOut, .drained, .tilted, .retired, .closed]
def AwardKind.names : List AwardKind :=
  [.points, .advance, .jackpotBuild, .jackpotCollect, .hurryCollect, .lightLock, .startMode, .startMultiball,
    .pfMult, .notify]
def Arbitration.names : List Arbitration := [.fixed, .rotate]
def ScorePolicy.names : List ScorePolicy := [.saturate, .roll]
def ScoreResult.names : List ScoreResult := [.stored, .saturated, .rolled]
def LinkCause.names : List LinkCause := [.none, .badLength, .shortFrame, .badCrc, .overrun]
def ReqClass.names : List ReqClass := [.eject, .search, .direct]
def GroupState.names : List GroupState := [.free, .busy, .gap]
def SaveState.names : List SaveState := [.off, .active, .grace]
def SearchState.names : List SearchState := [.idle, .searching]
def SessionState.names : List SessionState := [.closed, .opened]
def TiltStatus.names : List TiltStatus := [.normal, .warned, .tilted]
def MultTimerState.names : List MultTimerState := [.counting, .holding, .untimed]
def Status.names : List Status :=
  [.ok, .refusedState, .refusedFull, .refusedDuplicate, .refusedBusy, .notFound, .badValue, .badFrame,
    .unknownRequest, .noReply]
def Notice.names : List Notice :=
  [.switchActivity, .ejectFinished, .deviceJammed, .doubleEject, .ballMissing, .ballFound, .extraBall, .ballSaved,
    .ballEnded, .multiballStarted, .multiballEnded, .searchStarted, .lockCaptured, .lockRejected, .awardHit,
    .modeRefused, .modeEnded, .scoreRollover, .tiltWarning, .tilted, .slam, .linkError]

/-! ### Encodings that R189 gives one by one -/

/-- An eject target or in-flight target: FF for PLAYFIELD. -/
def targetByte : Target → Byte
  | .playfield => Config.noneByte
  | .device d => byte d.val

/-- The current order: FF for NONE, 00 to 07 for a slot, 08 for OWED. -/
def orderByte : Order → Byte
  | .none => Config.noneByte
  | .slot n => byte n.val
  | .owed => 8

/-- The owner of a coil: 00 to 07 for a device, 08 for SEARCH, 09 for HOST, FF for none. -/
def ownerByte : Option Owner → Byte
  | some (.device d) => byte d.val
  | some .search => 8
  | some .host => 9
  | none => Config.noneByte

/-- A requesting class: FF for none. -/
def classByte : Option ReqClass → Byte
  | some c => nameByte ReqClass.names c
  | none => Config.noneByte

/-! ### CRC-8 (R175) -/

/-- One shift of the register: when the bit shifted out was 1 the register is combined with 07. -/
def crcShift (r : Byte) : Byte := if r.getLsbD 7 then (r <<< 1) ^^^ 0x07 else r <<< 1

/-- One byte into the register: combine it, then shift eight times. -/
def crcByte (r b : Byte) : Byte :=
  crcShift (crcShift (crcShift (crcShift (crcShift (crcShift (crcShift (crcShift (r ^^^ b))))))))

/-- The CRC-8 of a list of bytes: the register starts at 0. -/
def crc8 (bs : List Byte) : Byte := bs.foldl crcByte 0

/-! ### Timers as replies show them -/

/-- A one-byte time field, whose count a stopped timer keeps (spec/00_scope.md, "Time"), and the flag that is 01 while
it runs (R190). -/
def Timer.bytes (t : Timer) : List Byte := [byte t.count, flagByte t.running]

end Sys2Proof.Machine
end

