-- ==== Sys2Proof/Machine/Frames.lean ====
section
/-! DEFINITION. Frames (R174 to R178, R188): the judgement of a frame's complete bytes, the request codes, and the bytes
of a reply. -/

namespace Sys2Proof.Machine

/-- The checks of R176, in order, on the complete bytes of a frame: body length above 60, the CRC byte position not
complete, the CRC not that of the preceding bytes. The first failure is the cause. A frame of a single byte fails
the second check; a frame of none is no frame at all (R174). -/
def frameCause : List Byte → Option LinkCause
  | [] => none
  | [_] => some .shortFrame
  | code :: len :: rest =>
    if Config.maxBody < len.toNat then some .badLength
    else match rest[len.toNat]? with
      | none => some .shortFrame
      | some crc => if crc = crc8 (code :: len :: rest.take len.toNat) then none else some .badCrc

/-- The codes of the requests of the part, in the order of R188's code table. -/
def requestCodes : List Byte :=
  [0x10, 0x11, 0x12, 0x13, 0x20, 0x21, 0x22, 0x23, 0x24, 0x25, 0x26, 0x27, 0x30, 0x31, 0x32, 0x33, 0x40, 0x41,
    0x42, 0x43, 0x44, 0x45, 0x50, 0x51, 0x52, 0x53, 0x60, 0x61, 0x62, 0x63, 0x64, 0x70, 0x71, 0x72, 0x80, 0x81,
    0x82, 0x83, 0x84, 0x85, 0x86, 0x87, 0x88, 0x90, 0x91, 0x92, 0x93, 0x94, 0x95, 0xA0, 0xA1, 0xA2, 0xA3, 0xA4,
    0xA5, 0xA6]

/-- The code of the fetch (R188). -/
def fetchCode : Byte := 0x00

/-- Whether a good frame's code names no request, or is the fetch code with a body (R178). -/
def isUnknown (code : Byte) (body : List Byte) : Bool :=
  if code = fetchCode then !body.isEmpty else !requestCodes.contains code

/-- A request frame: code, length, body, CRC (R188). -/
def requestFrame (code : Byte) (body : List Byte) : List Byte :=
  let head := code :: byte body.length :: body
  head ++ [crc8 head]

/-- A reply as it is shifted out: status, length, body, CRC (R188). -/
def Reply.bytes (r : Reply) : List Byte :=
  let head := nameByte Status.names r.status :: byte r.body.length :: r.body
  head ++ [crc8 head]

/-- A reply of a status alone. -/
def Reply.plain (st : Status) : Reply := { status := st, body := [] }

end Sys2Proof.Machine
end

