-- ==== Sys2Proof/Decode.lean ====
section
/-! DEFINITION. The commands that bits spell. spec/opcode_table.json gives no row any bits, so no table word spells a
command. The link does give its frames bits (R174 to R178, R188): `writeFrame` is a request as the host writes it,
and `readFrame` is what the part makes of the complete bytes of a frame that begins while no request executes. -/

namespace Sys2Proof

/-- The command a table word spells: none, since no row of the table gives bits. -/
def decodeTableWord (_ _ : Nat) : Option Instr := none

/-! ### Codes (R188) -/

/-- The code table of R188, in its order; the fetch code stands apart. -/
def requestTable : List (Byte × (List Byte → Instr)) :=
   [(0x10, .setSwitch), (0x11, .readSwitch), (0x12, .readSwitches), (0x13, .readActivity), (0x20, .setDevice),
    (0x21, .enableDevices), (0x22, .disableDevices), (0x23, .eject), (0x24, .cancelEjects), (0x25, .clearJam),
    (0x26, .readDevice), (0x27, .readSlot), (0x30, .setCoil), (0x31, .pulseCoil), (0x32, .readCoil),
    (0x33, .readGroups), (0x40, .recount), (0x41, .serve), (0x42, .setBallSave), (0x43, .startSearch),
    (0x44, .readAccounting), (0x45, .readFlights), (0x50, .lightLock), (0x51, .startMultiball),
    (0x52, .readPlayer), (0x53, .readLocks), (0x60, .setWindow), (0x61, .setAward), (0x62, .readWindow),
    (0x63, .readAward), (0x64, .readAwardHits), (0x70, .addPoints), (0x71, .setPfMult), (0x72, .readMultiplier),
    (0x80, .setTemplate), (0x81, .readTemplate), (0x82, .pushMode), (0x83, .retireMode), (0x84, .pauseMode),
    (0x85, .resumeMode), (0x86, .addModeTime), (0x87, .advanceMode), (0x88, .readMode), (0x90, .openSession),
    (0x91, .addPlayer), (0x92, .setPlayer), (0x93, .closeSession), (0x94, .gameReset), (0x95, .readSession),
    (0xA0, .readNotices), (0xA1, .clearNotices), (0xA2, .setNoticeEnable), (0xA3, .setNoticeRoute),
    (0xA4, .setGameOptions), (0xA5, .readGameOptions), (0xA6, .readCapability)]

/-- The request a code names, with a body; none for a code that names no request. -/
def requestOf (code : Byte) (body : List Byte) : Option Instr :=
  (requestTable.find? fun r => r.1 == code).map fun r => r.2 body

/-- The code and the body of a request; none for a command that is no request. -/
def codeOf : Instr → Option (Byte × List Byte)
  | .setSwitch body => some (0x10, body)
  | .readSwitch body => some (0x11, body)
  | .readSwitches body => some (0x12, body)
  | .readActivity body => some (0x13, body)
  | .setDevice body => some (0x20, body)
  | .enableDevices body => some (0x21, body)
  | .disableDevices body => some (0x22, body)
  | .eject body => some (0x23, body)
  | .cancelEjects body => some (0x24, body)
  | .clearJam body => some (0x25, body)
  | .readDevice body => some (0x26, body)
  | .readSlot body => some (0x27, body)
  | .setCoil body => some (0x30, body)
  | .pulseCoil body => some (0x31, body)
  | .readCoil body => some (0x32, body)
  | .readGroups body => some (0x33, body)
  | .recount body => some (0x40, body)
  | .serve body => some (0x41, body)
  | .setBallSave body => some (0x42, body)
  | .startSearch body => some (0x43, body)
  | .readAccounting body => some (0x44, body)
  | .readFlights body => some (0x45, body)
  | .lightLock body => some (0x50, body)
  | .startMultiball body => some (0x51, body)
  | .readPlayer body => some (0x52, body)
  | .readLocks body => some (0x53, body)
  | .setWindow body => some (0x60, body)
  | .setAward body => some (0x61, body)
  | .readWindow body => some (0x62, body)
  | .readAward body => some (0x63, body)
  | .readAwardHits body => some (0x64, body)
  | .addPoints body => some (0x70, body)
  | .setPfMult body => some (0x71, body)
  | .readMultiplier body => some (0x72, body)
  | .setTemplate body => some (0x80, body)
  | .readTemplate body => some (0x81, body)
  | .pushMode body => some (0x82, body)
  | .retireMode body => some (0x83, body)
  | .pauseMode body => some (0x84, body)
  | .resumeMode body => some (0x85, body)
  | .addModeTime body => some (0x86, body)
  | .advanceMode body => some (0x87, body)
  | .readMode body => some (0x88, body)
  | .openSession body => some (0x90, body)
  | .addPlayer body => some (0x91, body)
  | .setPlayer body => some (0x92, body)
  | .closeSession body => some (0x93, body)
  | .gameReset body => some (0x94, body)
  | .readSession body => some (0x95, body)
  | .readNotices body => some (0xA0, body)
  | .clearNotices body => some (0xA1, body)
  | .setNoticeEnable body => some (0xA2, body)
  | .setNoticeRoute body => some (0xA3, body)
  | .setGameOptions body => some (0xA4, body)
  | .readGameOptions body => some (0xA5, body)
  | .readCapability body => some (0xA6, body)
  | .powerOnReset => none
  | .scanFrame _ _ => none
  | .evaluation _ => none
  | .confirmTimerExpiry _ => none
  | .saucerHoldExpiry _ => none
  | .grant _ => none
  | .priorityAging _ => none
  | .pulseEnd _ => none
  | .holdWindowExpiry _ => none
  | .intervalExpiry _ => none
  | .recoveryExpiry _ => none
  | .gapExpiry _ => none
  | .flightExpiry _ => none
  | .saveTimerExpiry => none
  | .idleTimerExpiry => none
  | .searchTimerExpiry => none
  | .pfMultTimerExpiry => none
  | .modeTimerExpiry _ => none
  | .hurryPeriodExpiry _ => none
  | .swingTimerExpiry => none
  | .fetch _ => none
  | .badFrame _ => none
  | .overrun _ => none
  | .unknownRequest _ _ => none
  | .executionEnd => none

/-! ### Frames (R174 to R178) -/

/-- A request as the host writes it. -/
def writeFrame (i : Instr) : Option (List Byte) := (codeOf i).map fun c => Machine.requestFrame c.1 c.2

/-- What a good frame is: a fetch, a request, or an unknown request. `extra` counts the bytes after the CRC byte. -/
def goodFrame (code : Byte) (body : List Byte) (extra : Nat) : Instr :=
  if code = Machine.fetchCode ∧ body = [] then .fetch extra
  else (requestOf code body).getD (.unknownRequest code body)

/-- What the part makes of the complete bytes of a frame that begins while no request executes; a frame with no
complete byte is disregarded. -/
def readFrame (bytes : List Byte) : Option Instr :=
  match bytes with
  | [] => none
  | [_] => some (.badFrame bytes)
  | code :: len :: rest =>
    match Machine.frameCause bytes with
    | some _ => some (.badFrame bytes)
    | none => some (goodFrame code (rest.take len.toNat) (rest.length - (len.toNat + 1)))

end Sys2Proof
end

