-- ==== Sys2Proof/Machine/PowerOn.lean ====
section
/-! DEFINITION. The value of every record after power-on reset (R15, R17, R18, R26, R43 to R45, R47, R59, R61, R87,
R89, R91, R97, R107, R110, R123, R124, R139, R140, R161, R162, R173, R180, R181, R185). -/

namespace Sys2Proof.Machine

/-- A timer that stands at 0, stopped. -/
def Timer.stopped : Timer := ⟨0, false, false⟩

/-- R1, R15. -/
def SwitchRec.powerOn : SwitchRec :=
  { cls := .unused, closeDebounce := 1, openDebounce := 1, selection := .none, level := .opened, pendingFrames := 0,
    lastClose := 0, lastOpen := 0 }

/-- R17: TROUGH, SHOOTER, UNUSED ×6. -/
def DeviceConfig.powerOn (d : DevNo) : DeviceConfig :=
  { kind := if d = 0 then .trough else if d = 1 then .shooter else .unused, configured := false, capacity := 1,
    positions := [], entry := none, coil := 0, target := .playfield, settleTime := 1, confirmTimeout := 1,
    maxAttempts := 1, flightTime := 1, holdTime := 0, policy := .purge, searchFlag := false }

/-- R18. -/
def DeviceLive.powerOn : DeviceLive :=
  { state := .disabled, occupancy := 0, entriesSeen := 0, owed := 0, order := .none, attemptCount := 0,
    attemptExits := 0, attemptConfirmed := false, exitsInOrder := 0, stopPending := false, countFault := false,
    settle := .stopped, confirm := .stopped, hold := .stopped, intended := 0 }

def Device.powerOn (d : DevNo) : Device := { cfg := .powerOn d, live := .powerOn }

/-- R26. -/
def Slot.powerOn : Slot :=
  { state := .idle, device := 0, requested := 0, ejected := 0, result := .none, issue := 0 }

/-- R44. -/
def CoilConfig.powerOn : CoilConfig :=
  { group := .a, pulseWidth := 1, recovery := 0, profile := .pulse, repeatPeriod := 2, repeatLimit := 1,
    holdWindow := 0, searchFlag := false }

/-- R45. -/
def CoilLive.powerOn : CoilLive :=
  { state := .idle, owner := none, cls := none, priority := 0, age := 0, ageDue := false, held := none,
    grantWidth := 1, pulses := 0, interval := false, ending := false, timer := .stopped }

def Coil.powerOn : Coil := { cfg := .powerOn, live := .powerOn }

/-- R47, R59. -/
def GroupRec.powerOn : GroupRec := { state := .free, gap := .stopped, last := 23 }

/-- R61, R87. -/
def Accounting.powerOn : Accounting :=
  { installed := 0, live := 0, missing := 0, flights := [], phase := .noPlay, serveLaunch := false, inPlay := 0,
    multiball := false, saveState := .off, saveTimer := .stopped, savesUsed := 0, search := .idle, round := 0,
    idleTimer := .stopped, searchTimer := .stopped, searchSlow := false, lastSearch := none }

/-- R151. -/
def LastEnded.none : LastEnded := { id := 0, reason := .none, total := 0 }

/-- R89; also what clearing a page leaves (R90). -/
def Page.clear : Page :=
  { score := 0, rollover := 0, lit := .replicate 6 0, credits := .replicate 6 0, stack := [], last := .none }

/-- R97. -/
def LockDecision.powerOn : LockDecision := { outcome := .none, reason := .none, player := 0, stamp := 0 }

/-- R107, R123. -/
def Window.powerOn : Window :=
  { enabled := false, base := 0, mask := 0, filter := .close, translate := false, target := 0 }

/-- R110, R123. -/
def AwardEntry.powerOn : AwardEntry :=
  { kind := .notify, base := 0, scope := 0, requiresRunning := false, argument := 0, notify := false }

/-- R162, R173. -/
def Session.powerOn : Session :=
  { state := .closed, players := 1, current := 0, tilt := .normal, warnings := 0, swing := .stopped }

/-- R181. -/
def Notices.powerOn : Notices := { pending := 0, enable := 0, route := 0 }

/-- R178, R180: no reply waiting, no cause, no errors. -/
def Link.powerOn : Link :=
  { executing := none, waiting := none, shifted := [], lastCause := .none, errorCount := 0 }

/-- R185. -/
def Options.powerOn : Options :=
  { arbitration := .fixed, ejectPriority := 2, searchPriority := 10, directPriority := 6, groupGap := 2,
    pfMultTime := 3000, multiballSave := 1000, graceTime := 200, saveLimit := 0, searchDelay := 100,
    searchSpacing := 25, roundLimit := 3, slowInterval := 50, tiltLimit := 3, swingWindow := 100,
    policy := .saturate }

end Sys2Proof.Machine
end

