-- ==== Sys2Proof/Machine/State.lean ====
section
/-! DEFINITION. The state of the KV2408 (every record of chapters 1 to 10), the queue of waiting commands, the state
after power-on reset, and the reasons a step can stop. The output lines are functions of this state: the coil
enables (R45), RDY (R178) and ATTN_A and ATTN_B (R181) stand in Machine/Ops.lean. -/

namespace Sys2Proof.Machine

/-- The machine. `pending` and `freeIndex` are the MODEL's own fields; `tickPhase` counts scan frames modulo 100 so
that every tenth frame since reset is a 10 ms tick and every tenth of those a 100 ms tick (spec/00_scope.md). -/
structure State where
  pending    : List Instr
  freeIndex  : Nat
  tickPhase  : Nat
  frameCount : Stamp
  switches   : Vector SwitchRec 128
  activity   : BitVec 128
  devices    : Vector Device 8
  slots      : Vector Slot 8
  coils      : Vector Coil 24
  groupA     : GroupRec
  groupB     : GroupRec
  acct       : Accounting
  pages      : Vector Page 4
  decisions  : Vector LockDecision 6
  windows    : Vector Window 32
  awards     : Vector AwardEntry 256
  awardHits  : BitVec 256
  pfMult     : Nat
  pfTimer    : Nat
  pfDue      : Bool
  templates  : Vector (Option Template) 63
  session    : Session
  notices    : Notices
  link       : Link
  options    : Options
  deriving DecidableEq, Repr

/-- The machine right after power-on reset, with nothing waiting. -/
def State.reset : State :=
  { pending := [], freeIndex := 0, tickPhase := 0, frameCount := 0,
    switches := .replicate 128 .powerOn, activity := 0,
    devices := Vector.ofFn Device.powerOn, slots := .replicate 8 .powerOn,
    coils := .replicate 24 .powerOn, groupA := .powerOn, groupB := .powerOn,
    acct := .powerOn, pages := .replicate 4 .clear, decisions := .replicate 6 .powerOn,
    windows := .replicate 32 .powerOn, awards := .replicate 256 .powerOn, awardHits := 0,
    pfMult := 1, pfTimer := 0, pfDue := false, templates := .replicate 63 none,
    session := .powerOn, notices := .powerOn, link := .powerOn, options := .powerOn }

/-- The block stops on nothing: every request is answered with a status and every event has an effect or does not
occur, so there is no fault for anyone to raise (safe: nothing is hidden behind one). -/
inductive Fault
  deriving DecidableEq, Repr

/-- Why a command has no meaning. -/
inductive Refusal
  /-- Raised by an arm of `exec` for a command without a meaning yet; safe, since nothing is concluded about it. No
  arm raises it. -/
  | notModelled (mnemonic : String)
  deriving DecidableEq, Repr

end Sys2Proof.Machine
end

