-- ==== Sys2Proof/Machine/Ops.lean ====
section
/-! DEFINITION. The named operations every block uses: reading and writing one record of each collection, timers,
notices, and the output lines. -/

namespace Sys2Proof.Machine

/-! ### One record of a collection -/

def State.modDevice (s : State) (d : DevNo) (f : Device → Device) : State :=
  { s with devices := s.devices.set d (f s.devices[d]) }

/-- Changes the live part of a device record. -/
def State.modLive (s : State) (d : DevNo) (f : DeviceLive → DeviceLive) : State :=
  s.modDevice d fun v => { v with live := f v.live }

def State.modSlot (s : State) (n : SlotNo) (f : Slot → Slot) : State :=
  { s with slots := s.slots.set n (f s.slots[n]) }

def State.modCoil (s : State) (c : CoilNo) (f : Coil → Coil) : State :=
  { s with coils := s.coils.set c (f s.coils[c]) }

/-- Changes the live part of a coil record. -/
def State.modCoilLive (s : State) (c : CoilNo) (f : CoilLive → CoilLive) : State :=
  s.modCoil c fun v => { v with live := f v.live }

def State.modPage (s : State) (p : PlayerNo) (f : Page → Page) : State :=
  { s with pages := s.pages.set p (f s.pages[p]) }

def State.modAcct (s : State) (f : Accounting → Accounting) : State := { s with acct := f s.acct }

def State.group (s : State) : Group → GroupRec
  | .a => s.groupA
  | .b => s.groupB

def State.modGroup (s : State) (g : Group) (f : GroupRec → GroupRec) : State :=
  match g with
  | .a => { s with groupA := f s.groupA }
  | .b => { s with groupB := f s.groupB }

/-- The trough (device 0). -/
def trough : DevNo := 0

/-- The shooter lane (device 1). -/
def shooter : DevNo := 1

/-- The place of a device 2 to 7 in the records kept per lock device. -/
def lockNo (d : DevNo) : Option LockNo := if h : 2 ≤ d.val then some ⟨d.val - 2, by omega⟩ else none

/-- The device of a place in those records. -/
def lockDevice (k : LockNo) : DevNo := ⟨k.val + 2, by omega⟩

/-! ### Timers (spec/00_scope.md, "Time") -/

/-- A timer loaded with a count, running. -/
def Timer.load (n : Nat) : Timer := ⟨n, true, false⟩

/-- Stops a timer where it stands. -/
def Timer.halt (t : Timer) : Timer := { t with running := false, due := false }

/-- One tick of a running timer: the last unit makes its expiry due, and the expiry event takes that unit. -/
def Timer.tick (t : Timer) : Timer :=
  if !t.running || t.due then t
  else if t.count ≤ 1 then { t with due := true }
  else { t with count := t.count - 1 }

/-- Drops a tick whose expiry was not taken before the counting condition failed: the timer holds above 0 (R147). -/
def Timer.keepIf (ok : Bool) (t : Timer) : Timer := { t with due := t.due && ok }

/-! ### Notices (R181) -/

/-- The member position of a kind in a notice set (R190). -/
def Notice.position (k : Notice) : Nat := Notice.names.idxOf k

/-- The notice set that holds one kind. -/
def Notice.set (k : Notice) : BitVec 22 := 1#22 <<< k.position

/-- Raises a kind: its pending flag is set, whatever its enable flag. -/
def State.raise (s : State) (k : Notice) : State :=
  { s with notices := { s.notices with pending := s.notices.pending ||| k.set } }

/-- Raises a kind when a condition holds. -/
def State.raiseIf (s : State) (c : Bool) (k : Notice) : State := if c then s.raise k else s

/-- Whether a kind is pending. -/
def State.isPending (s : State) (k : Notice) : Bool := s.notices.pending.getLsbD k.position

/-! ### Output lines -/

/-- ATTN_A is active exactly when some kind is pending, enabled and routed to A (R181). -/
def Notices.attnA (n : Notices) : Bool := n.pending &&& n.enable &&& ~~~n.route != 0

/-- ATTN_B is active exactly when some kind is pending, enabled and routed to B (R181). -/
def Notices.attnB (n : Notices) : Bool := n.pending &&& n.enable &&& n.route != 0

/-- RDY is active exactly while a reply is waiting (R178). -/
def State.rdy (s : State) : Bool := s.link.waiting.isSome

/-- The enable of a coil is driven active while it is FIRING or HOLDING (R45). -/
def State.coilEnable (s : State) (c : CoilNo) : Bool :=
  s.coils[c].live.state == .firing || s.coils[c].live.state == .holding

/-! ### Small readings of the state -/

/-- Whether the devices are enabled: some device is not DISABLED. -/
def State.devicesEnabled (s : State) : Bool := (indices 8).any fun d => s.devices[d].live.state != .disabled

/-- Whether the session is OPEN. -/
def State.isOpen (s : State) : Bool := s.session.state == .opened

/-- Whether the game is tilted. -/
def State.isTilted (s : State) : Bool := s.session.tilt == .tilted

/-- The current player's page. -/
def State.page (s : State) : Page := s.pages[s.session.current]

/-- The number of a device's position switches whose debounced level is CLOSED (R21). -/
def State.closedCount (s : State) (d : DevNo) : Nat :=
  s.devices[d].cfg.positions.countP fun n => s.switches[n].level == .closed

/-- Whether any device record names the switch, as a position switch or as its entry switch (R6, R11). -/
def Device.names (v : Device) (n : SwitchNo) : Bool := v.cfg.positions.contains n || v.cfg.entry == some n

end Sys2Proof.Machine
end

