-- ==== Sys2Proof/Machine/Arbiter.lean ====
section
/-! DEFINITION. The Kick Arbiter (chapter 3): requests, the grant, the ends of pulses and holds, and ending or
withdrawing a request. What a device does when its coil reports to it stands in Machine/Devices.lean. -/

namespace Sys2Proof.Machine

/-- The initial priority of a class in the game options; above 15 it is held at 15 (R48, R58). -/
def Options.initialPriority (o : Options) : ReqClass → Nat
  | .eject => min 15 o.ejectPriority
  | .search => min 15 o.searchPriority
  | .direct => min 15 o.directPriority

/-- A request enters WAITING (R48). -/
def enterWaiting (c : CoilNo) (owner : Owner) (cls : ReqClass) (s : State) : State :=
  s.modCoilLive c fun l =>
    { l with state := .waiting, owner := some owner, cls := some cls, priority := s.options.initialPriority cls,
             age := 0, ageDue := false, pulses := 0, interval := false, ending := false, timer := .stopped }

/-- A coil enters IDLE; a held request enters WAITING at that moment (R48, R51). -/
def enterIdle (c : CoilNo) (s : State) : State :=
  let held := s.coils[c].live.held
  let s := s.modCoilLive c fun l =>
    { l with state := .idle, owner := none, cls := none, priority := 0, age := 0, ageDue := false, held := none,
             interval := false, ending := false, timer := l.timer.halt }
  match held with
  | some d => enterWaiting c (.device d) .eject s
  | none => s

/-- A coil's work ends: RECOVERING for its recovery, or IDLE at once when the recovery is 0 (R51). -/
def enterRecovering (c : CoilNo) (s : State) : State :=
  let r := s.coils[c].cfg.recovery
  if r = 0 then enterIdle c (s.modCoilLive c fun l => { l with timer := .stopped })
  else s.modCoilLive c fun l =>
    { l with state := .recovering, interval := false, ending := false, ageDue := false, timer := .load r }

/-- An EJECT request from device `d`: WAITING on an IDLE coil, otherwise held (R48). -/
def requestEject (c : CoilNo) (d : DevNo) (s : State) : State :=
  if s.coils[c].live.state = .idle then enterWaiting c (.device d) .eject s
  else s.modCoilLive c fun l => { l with held := some d }

/-- A SEARCH request: accepted on an IDLE coil, otherwise refused (R48); the Bool tells which. -/
def requestSearch (c : CoilNo) (s : State) : State × Bool :=
  if s.coils[c].live.state = .idle then (enterWaiting c .search .search s, true) else (s, false)

/-! ### The grant (R50) -/

/-- The waiting set of a group: its WAITING coils in ascending number. -/
def State.waitingSet (s : State) (g : Group) : List CoilNo :=
  (indices 24).filter fun c => s.coils[c].live.state == .waiting && s.coils[c].cfg.group == g

/-- The lowest current priority among coils. -/
def State.lowestPriority (s : State) : List CoilNo → Nat
  | [] => 0
  | c :: cs => cs.foldl (fun m c => min m s.coils[c].live.priority) s.coils[c].live.priority

/-- How many steps counting upward from the last granted coil plus 1, going on from 23 to 0, meets coil `c`: the
last granted coil itself is met last (R50). -/
def rotateDistance (last c : CoilNo) : Nat := (c.val + 24 - (last.val + 1)) % 24

/-- The winner among the waiting coils: the lowest priority, ties broken by the arbitration mode. -/
def State.winner (s : State) (g : Group) : Option CoilNo :=
  let cs := s.waitingSet g
  let low := s.lowestPriority cs
  let tied := cs.filter fun c => s.coils[c].live.priority ≤ low
  match s.options.arbitration with
  | .fixed => tied.head?
  | .rotate => tied.foldl (fun best c =>
      match best with
      | none => some c
      | some b => if rotateDistance (s.group g).last c < rotateDistance (s.group g).last b then some c else some b) none

/-- The winner enters FIRING and its group BUSY (R50). A DIRECT pulse keeps the width PULSE_COIL gave it (R56). -/
def fire (g : Group) (c : CoilNo) (s : State) : State :=
  let s := s.modCoil c fun v =>
    let w := if v.live.cls = some .direct then v.live.grantWidth else v.cfg.pulseWidth
    { v with live := { v.live with state := .firing, grantWidth := w, timer := .load w, pulses := v.live.pulses + 1,
                                   ageDue := false, ending := false } }
  s.modGroup g fun r => { r with state := .busy, last := c }

/-- GRANT: a FREE group whose waiting set is not empty grants its winner. -/
def takeGrant (g : Group) (s : State) : State :=
  if (s.group g).state = .free then
    match s.winner g with
    | some c => fire g c s
    | none => s
  else s

/-- PRIORITY_AGING: a waiting coil's age reaches 8 and its priority falls by 1 (R49). -/
def takePriorityAging (c : CoilNo) (s : State) : State :=
  let l := s.coils[c].live
  if l.state = .waiting ∧ l.ageDue then
    s.modCoilLive c fun l => { l with age := 0, ageDue := false, priority := l.priority - 1 }
  else s

/-- GAP_EXPIRY: the gap timer expires and the group enters FREE (R47). -/
def takeGapExpiry (g : Group) (s : State) : State :=
  if (s.group g).state = .gap ∧ (s.group g).gap.due then
    s.modGroup g fun r => { r with state := .free, gap := .stopped }
  else s

/-- A pulse of the group ends: GAP with the group gap loaded, or FREE at once when the gap is 0 (R47). -/
def groupPulseEnd (g : Group) (s : State) : State :=
  if s.options.groupGap = 0 then s.modGroup g fun r => { r with state := .free }
  else s.modGroup g fun r => { r with state := .gap, gap := .load s.options.groupGap }

/-- RECOVERY_EXPIRY: a coil's recovery expires (R51). -/
def takeRecoveryExpiry (c : CoilNo) (s : State) : State :=
  let l := s.coils[c].live
  if l.state = .recovering ∧ ¬ l.interval ∧ l.timer.due then
    enterIdle c (s.modCoilLive c fun l => { l with timer := .stopped })
  else s

/-- INTERVAL_EXPIRY: a REPEAT coil re-enters WAITING at its class's initial priority with age 0, keeping its owner
and its count of pulses given (R52). -/
def takeIntervalExpiry (c : CoilNo) (s : State) : State :=
  let l := s.coils[c].live
  if l.state = .recovering ∧ l.interval ∧ l.timer.due then
    s.modCoilLive c fun l =>
      { l with state := .waiting, interval := false, age := 0, ageDue := false, timer := .stopped,
               priority := s.options.initialPriority (l.cls.getD .eject) }
  else s

/-! ### Ending and withdrawing (R54) -/

/-- Where the open request of device `d` on its coil stands. -/
inductive Stage
  /-- Waiting or held, with no pulse given in the request. -/
  | queued
  /-- A REPEAT with a pulse given and none firing: in its interval, or waiting for its next pulse. -/
  | between
  /-- A pulse granted and firing. -/
  | firing
  /-- A HOLD_RELEASE coil holding. -/
  | holding
  /-- No request of the device is open. -/
  | closed
  deriving DecidableEq, Repr

/-- The stage of device `d`'s request on coil `c`. -/
def State.stage (s : State) (c : CoilNo) (d : DevNo) : Stage :=
  let l := s.coils[c].live
  if l.held = some d then .queued
  else if l.owner ≠ some (.device d) then .closed
  else match l.state with
    | .waiting => if l.pulses = 0 then .queued else .between
    | .firing => .firing
    | .holding => .holding
    | .recovering => if l.interval then .between else .closed
    | .idle => .closed

/-- The owner `d` withdraws its request or ends its coil's work, by the table of R54. A pulse that fires completes;
the mark `ending` makes its end the end of a REPEAT or of a pull-in. -/
def endRequest (c : CoilNo) (d : DevNo) (s : State) : State :=
  let l := s.coils[c].live
  if l.held = some d then s.modCoilLive c fun l => { l with held := none }
  else if l.owner ≠ some (.device d) then s
  else match l.state with
    | .waiting => if l.pulses = 0 then enterIdle c s else enterRecovering c s
    | .firing => s.modCoilLive c fun l => { l with ending := true }
    | .holding => enterRecovering c s
    | .recovering => if l.interval then enterRecovering c s else s
    | .idle => s

/-- Withdraws the waiting requests of class SEARCH, or of SEARCH and DIRECT (R54, R60, R83). -/
def withdrawWaiting (classes : List ReqClass) (s : State) : State :=
  (indices 24).foldl (fun s c =>
    let l := s.coils[c].live
    if l.state = .waiting ∧ classes.any (fun k => l.cls == some k) then enterIdle c s else s) s

end Sys2Proof.Machine
end

