-- ==== Sys2Proof/Machine/Devices.lean ====
section
/-! DEFINITION. The eject work of the ball devices (chapter 2): slots, taking and ending orders, starting a ball, what
a device does at its coil's reports, cancelling, jamming. The evaluation stands in Machine/Evaluate.lean. -/

namespace Sys2Proof.Machine

/-! ### Timers of a device -/

/-- Starts or restarts the settle timer, loaded with the settle time (R20). -/
def restartSettle (d : DevNo) (s : State) : State :=
  s.modDevice d fun v => { v with live := { v.live with settle := .load v.cfg.settleTime } }

/-- Enters CONFIRMING with the confirm timer started (R28 to R30). -/
def enterConfirming (d : DevNo) (s : State) : State :=
  s.modDevice d fun v =>
    { v with live := { v.live with state := .confirming, confirm := .load v.cfg.confirmTimeout } }

/-! ### Eject slots (R26) -/

/-- A slot leaves QUEUED: the younger QUEUED slots of its device close up. -/
def leaveQueue (n : SlotNo) (s : State) : State :=
  let t := s.slots[n]
  { s with slots := s.slots.map fun x =>
      if x.state = .queued ∧ x.device = t.device ∧ t.issue < x.issue then { x with issue := x.issue - 1 } else x }

/-- A slot passes from QUEUED or ACTIVE to IDLE with a result, and EJECT_FINISHED is raised. -/
def finishSlot (n : SlotNo) (r : SlotResult) (s : State) : State :=
  let s := if s.slots[n].state = .queued then leaveQueue n s else s
  (s.modSlot n fun x => { x with state := .idle, result := r }).raise .ejectFinished

/-- Each QUEUED slot of a device goes to IDLE with result CANCELLED (R38, R41, R43). -/
def cancelQueued (d : DevNo) (s : State) : State :=
  (indices 8).foldl (fun s n =>
    if s.slots[n].state = .queued ∧ s.slots[n].device = d then finishSlot n .cancelled s else s) s

/-- The oldest QUEUED slot of a device: issue number 0. -/
def State.oldestQueued (s : State) (d : DevNo) : Option SlotNo :=
  (indices 8).find? fun n => s.slots[n].state == .queued && s.slots[n].device == d && s.slots[n].issue == 0

/-- The number of QUEUED slots of a device. -/
def State.queuedCount (s : State) (d : DevNo) : Nat :=
  (indices 8).countP fun n => s.slots[n].state == .queued && s.slots[n].device == d

/-- The lowest-numbered IDLE slot. -/
def State.idleSlot (s : State) : Option SlotNo := (indices 8).find? fun n => s.slots[n].state == .idle

/-! ### Orders -/

/-- The balls the current order still needs (R27). -/
def State.needs (s : State) (d : DevNo) : Nat :=
  match s.devices[d].live.order with
  | .none => 0
  | .slot n => s.slots[n].requested - s.slots[n].ejected
  | .owed => s.devices[d].live.owed

/-- The profile of a device's eject coil. -/
def State.profile (s : State) (d : DevNo) : Profile := s.coils[s.devices[d].cfg.coil].cfg.profile

/-- Starts a ball with the given attempt count: the attempt fields are set, the arbiter is handed a request of class
EJECT, and the device enters EJECTING (R28). The attempt intends one ball, or for HOLD_RELEASE the balls the order
needs (R30, R31). -/
def startBall (d : DevNo) (attempt : Nat) (s : State) : State :=
  let intended := if s.profile d = .holdRelease then s.needs d else 1
  let s := s.modLive d fun l =>
    { l with state := .ejecting, attemptCount := attempt, attemptExits := 0, attemptConfirmed := false,
             intended := intended }
  requestEject s.devices[d].cfg.coil d s

/-- An order is taken: exits in order becomes 0 and stop pending is cleared (R27). -/
def beginOrder (d : DevNo) (o : Order) (s : State) : State :=
  s.modLive d fun l => { l with order := o, exitsInOrder := 0, stopPending := false }

/-- A device in IDLE looks for an order (R27): OWED first, then its oldest QUEUED slot; a slot order taken with
occupancy 0 ends at once with result SHORT and the device looks again. `fuel` bounds the slots it can look at. -/
def takeOrderFuel : Nat → DevNo → State → State
  | 0, _, s => s
  | fuel + 1, d, s =>
    let l := s.devices[d].live
    if l.state ≠ .idle then s
    else if 1 ≤ l.owed ∧ 1 ≤ l.occupancy then startBall d 1 (beginOrder d .owed s)
    else match s.oldestQueued d with
      | none => s
      | some n =>
        let s := (leaveQueue n s).modSlot n fun x => { x with state := .active }
        if l.occupancy = 0 then
          let s := (beginOrder d .none s).modSlot n fun x => { x with ejected := 0 }
          takeOrderFuel fuel d (finishSlot n .short s)
        else startBall d 1 (beginOrder d (.slot n) s)

/-- A device looks for an order; eight slots and one more look are the most it can need. -/
def takeOrder (d : DevNo) (s : State) : State := takeOrderFuel 9 d s

/-- The owed-eject count rises by 1, held at 8; an addition to a DISABLED device is discarded (R25). -/
def addOwedCount (d : DevNo) (s : State) : State :=
  s.modLive d fun l => if l.state = .disabled then l else { l with owed := min 8 (l.owed + 1) }

/-- Adds one owed eject; a device in IDLE looks for an order at once (R25). -/
def addOwed (d : DevNo) (s : State) : State := takeOrder d (addOwedCount d s)

/-- The ending steps of R33: the slot of the order ends with result `r`, the order and the attempt fields are cleared,
the confirm timer stops, and the device enters IDLE and looks for its next order. -/
def endOrder (d : DevNo) (r : Slot → SlotResult) (s : State) : State :=
  let s := match s.devices[d].live.order with
    | .slot n => finishSlot n (r s.slots[n]) s
    | _ => s
  let s := s.modLive d fun l =>
    { l with order := .none, attemptCount := 0, attemptExits := 0, attemptConfirmed := false, exitsInOrder := 0,
             confirm := l.confirm.halt, state := .idle }
  takeOrder d s

/-- The result of an order ended by R33: DONE when the ejected count equals the requested count, else SHORT. -/
def resultAtConfirm (x : Slot) : SlotResult := if x.ejected = x.requested then .done else .short

/-- The result of an order ended by a cancel (R38): DONE likewise, else CANCELLED. -/
def resultAtCancel (x : Slot) : SlotResult := if x.ejected = x.requested then .done else .cancelled

/-- A device enters JAMMED (R35). -/
def jam (d : DevNo) (s : State) : State :=
  let s := s.raise .deviceJammed
  let s := match s.devices[d].live.order with
    | .slot n => finishSlot n .jammed s
    | _ => s
  s.modLive d fun l =>
    { l with state := .jammed, order := .none, attemptCount := 0, attemptExits := 0, attemptConfirmed := false,
             confirm := l.confirm.halt }

/-- A failed attempt: with stop pending the order ends, below the maximum attempts the ball is started again, and at
the maximum the device enters JAMMED (R33, R34). -/
def failedAttempt (d : DevNo) (s : State) : State :=
  let v := s.devices[d]
  if v.live.stopPending then endOrder d resultAtCancel s
  else if v.live.attemptCount < v.cfg.maxAttempts then startBall d (v.live.attemptCount + 1) s
  else jam d s

/-! ### Reports of the arbiter -/

/-- A device receives a release of its coil (R30): the settle timer restarts, and from EJECTING it enters CONFIRMING
when the release is its open request's (`own`). A DISABLED device disregards it (R41). -/
def deviceRelease (own : Bool) (d : DevNo) (s : State) : State :=
  if s.devices[d].live.state = .disabled then s
  else
    let s := restartSettle d s
    if s.devices[d].live.state = .ejecting ∧ own then enterConfirming d s else s

/-- A device receives a pulse end of its coil (R28 to R30). `last` tells that its open request is over with this pulse:
always for PULSE, at the repeat limit or after the device's own end for REPEAT, never for a HOLD_RELEASE pull-in, whose
release follows on its own, and never for a pulse of an older request. -/
def devicePulseEnd (last : Bool) (d : DevNo) (s : State) : State :=
  if s.devices[d].live.state = .disabled then s
  else
    let s := restartSettle d s
    if s.devices[d].live.state = .ejecting ∧ last then enterConfirming d s else s

/-- Hands a report of coil `c`, whose live part was `l`, to the device that owns its work. Only a device whose eject
coil `c` still is hears of it (R20, R41). A device whose request is held on the coil has opened it after the work
reported: that request is not over, so the report is not its `own` and restarts its settle timer only (log 19). -/
def reportToOwner (c : CoilNo) (l : CoilLive) (report : Bool → DevNo → State → State) (s : State) : State :=
  match l.owner with
  | some (.device d) => if s.devices[d].cfg.coil = c then report (l.held != some d) d s else s
  | _ => s

/-- PULSE_END: the coil timer of a FIRING coil expires (R51 to R53). The enable is released or, for a hold, kept; the
group leaves BUSY; the device whose eject coil it is hears of it. -/
def takePulseEnd (c : CoilNo) (s : State) : State :=
  let v := s.coils[c]
  if v.live.state = .firing ∧ v.live.timer.due then
    let s := groupPulseEnd v.cfg.group s
    let limit := v.cfg.repeatLimit ≤ v.live.pulses
    let ejecting := v.live.cls = some .eject
    let repeats := ejecting ∧ v.cfg.profile = .repeating
    let holds := ejecting ∧ v.cfg.profile = .holdRelease
    let requestOver : Bool := if repeats then v.live.ending || limit else !decide holds
    let released : Bool := holds ∧ (v.live.ending ∨ v.cfg.holdWindow = 0)
    let s :=
      if requestOver || released then enterRecovering c s
      else if holds then
        s.modCoilLive c fun l => { l with state := .holding, timer := .load v.cfg.holdWindow }
      else
        s.modCoilLive c fun l =>
          { l with state := .recovering, interval := true, timer := .load (v.cfg.repeatPeriod - v.cfg.pulseWidth) }
    reportToOwner c v.live (fun own d s =>
      let s := devicePulseEnd (own && requestOver) d s
      if released then deviceRelease own d s else s) s
  else s

/-- HOLD_WINDOW_EXPIRY: the hold window of a HOLDING coil expires and its owner receives the release (R53). -/
def takeHoldWindowExpiry (c : CoilNo) (s : State) : State :=
  let l := s.coils[c].live
  if l.state = .holding ∧ l.timer.due then reportToOwner c l deviceRelease (enterRecovering c s) else s

/-! ### Cancelling (R38) -/

/-- Marks the order to end once its current ball is finished. -/
def setStopPending (d : DevNo) (s : State) : State := s.modLive d fun l => { l with stopPending := true }

/-- The treatment of the current order by the table of R38. -/
def cancelOrder (d : DevNo) (s : State) : State :=
  let v := s.devices[d]
  match v.live.state with
  | .ejecting =>
    match s.stage v.cfg.coil d with
    | .queued => endOrder d resultAtCancel (endRequest v.cfg.coil d s)
    | .closed => endOrder d resultAtCancel s
    | .between => enterConfirming d (endRequest v.cfg.coil d (setStopPending d s))
    | .firing => endRequest v.cfg.coil d (setStopPending d s)
    | .holding => deviceRelease true d (endRequest v.cfg.coil d (setStopPending d s))
  | .confirming => setStopPending d s
  | _ => s

/-- CANCEL_EJECTS's effect on a device: queued slots, optionally the owed ejects, then the current order. -/
def cancelEjects (d : DevNo) (includeOwed : Bool) (s : State) : State :=
  let s := cancelQueued d s
  let s := if includeOwed then s.modLive d fun l => { l with owed := 0 } else s
  cancelOrder d s

/-- CONFIRM_TIMER_EXPIRY (R33): in CONFIRMING the order ends or the attempt has failed; in EJECTING the expiry only
closes the fallback window of R34. -/
def takeConfirmTimerExpiry (d : DevNo) (s : State) : State :=
  let l := s.devices[d].live
  if l.confirm.running ∧ l.confirm.due then
    let s := s.modLive d fun l => { l with confirm := .stopped }
    if l.state = .confirming then
      if l.attemptConfirmed then
        if l.stopPending then endOrder d resultAtCancel s else endOrder d resultAtConfirm s
      else failedAttempt d s
    else s
  else s

/-- SAUCER_HOLD_EXPIRY (R37): the hold timer stops and one owed eject is added. -/
def takeSaucerHoldExpiry (d : DevNo) (s : State) : State :=
  let l := s.devices[d].live
  if l.hold.running ∧ l.hold.due then addOwed d (s.modLive d fun l => { l with hold := .stopped }) else s

end Sys2Proof.Machine
end

