-- ==== Sys2Proof/Machine/Modes.lean ====
section
/-! DEFINITION. The Mode Stack Engine and the Score Arithmetic Unit (chapters 7 and 8): derived states, the multiplier
product, the additions, pushes, ends and completions. -/

namespace Sys2Proof.Machine

/-! ### Derived states (R145) -/

/-- The derived state of a context with the contexts `above` it on its stack. -/
def runState (c : Context) (above : List Context) : RunState :=
  if c.paused then .paused else if above.any (fun x => x.tpl.stacking == .exclusive) then .suspended else .running

/-- A stack, bottom to top, each context with its derived state. -/
def derived : List Context → List (Context × RunState)
  | [] => []
  | c :: above => (c, runState c above) :: derived above

/-- The context of an id on a stack, with its derived state. -/
def contextOf (stack : List Context) (id : Nat) : Option (Context × RunState) :=
  (derived stack).find? fun x => x.1.id == id

/-- The context of an id when it stands on the stack and is RUNNING (R113). -/
def runningContext (stack : List Context) (id : Nat) : Option Context :=
  ((derived stack).find? fun x => x.1.id == id && x.2 == .running).map (·.1)

/-- The RUNNING GLOBAL contexts of a stack, bottom to top (R125). -/
def globals (stack : List Context) : List Context :=
  ((derived stack).filter fun x => x.2 == .running && x.1.tpl.scope == .globalScope).map (·.1)

/-! ### Counting conditions -/

/-- The counting conditions of modes that do not depend on the context (R146). -/
def State.modesCount (s : State) : Bool :=
  s.isOpen && s.acct.phase == .play && decide (1 ≤ s.acct.live) && !s.isTilted

/-- Whether a context's hurry period runs (R132). -/
def Context.hurryRuns (c : Context) : Bool := decide (c.tpl.hurryFloor < c.hurry) && decide (0 < c.tpl.hurryStep)

/-- Whether ball save's timer counts (R77). -/
def State.saveCounts (s : State) : Bool :=
  match s.acct.saveState with
  | .off => false
  | .active => decide (1 ≤ s.acct.live) && !s.isTilted
  | .grace => true

/-- Whether the search idle timer counts (R80). -/
def State.idleCounts (s : State) : Bool :=
  s.acct.phase == .play && s.acct.search == .idle && decide (1 ≤ s.acct.live + s.acct.missing)

/-- Whether the playfield multiplier timer counts (R133). -/
def State.pfCounts (s : State) : Bool := decide (1 ≤ s.acct.live) && !s.isTilted

/-- The contexts of a stack that is counted (`ok`), or is not: an expiry not yet taken of a context that does not
count any more is dropped, and its timer holds above 0 (R145, R147). -/
def holdStack (ok : Bool) (stack : List Context) : List Context :=
  (derived stack).map fun x =>
    let runs := ok && x.2 == .running
    { x.1 with timerDue := x.1.timerDue && runs, hurryDue := x.1.hurryDue && runs && x.1.hurryRuns }

/-- After a change of any counting condition: every timer whose condition fails holds its value. -/
def holdTimers (s : State) : State :=
  { s with
    pages := Vector.ofFn fun p : Fin 4 =>
      { s.pages[p] with stack := holdStack (s.modesCount && p == s.session.current) s.pages[p].stack },
    pfDue := s.pfDue && s.pfCounts,
    acct := { s.acct with saveTimer := s.acct.saveTimer.keepIf s.saveCounts,
                          idleTimer := s.acct.idleTimer.keepIf s.idleCounts } }

/-- Ends, pushes, pauses and resumes change a stack and rederive it (R145). -/
def setStack (p : PlayerNo) (stack : List Context) (s : State) : State :=
  holdTimers (s.modPage p fun g => { g with stack := stack })

/-- Changes the context of an id in place. -/
def modContext (p : PlayerNo) (id : Nat) (f : Context → Context) (s : State) : State :=
  s.modPage p fun g => { g with stack := g.stack.map fun c => if c.id = id then f c else c }

/-! ### The multiplier product and the award value (R125, R126) -/

/-- The scoped factor h: the multiplier of a LOCAL scoped mode, otherwise 1. -/
def scopedFactor : Option Context → Nat
  | some c => if c.tpl.scope = .localScope then c.tpl.multiplier else 1
  | none => 1

/-- The exact product of the factors. -/
def exactProduct (f : Nat) (gs : List Context) (h : Nat) : Nat :=
  f * (gs.map fun c => c.tpl.multiplier).foldl (· * ·) 1 * h

/-- The product M for an award with the given scoped mode, on the current player's stack. -/
def State.product (s : State) (mode : Option Context) : Nat :=
  min Config.maxProduct (exactProduct s.pfMult (globals s.page.stack) (scopedFactor mode))

/-! ### Additions (R127, R129, R130) -/

/-- Adds a value to a page's score under the score policy. -/
def addScore (p : PlayerNo) (v : Nat) (s : State) : State × ScoreResult :=
  let g := s.pages[p]
  let sum := g.score + v
  if sum ≤ Config.maxScore then (s.modPage p fun g => { g with score := sum }, .stored)
  else
    let saturated := (s.modPage p fun g => { g with score := Config.maxScore }, ScoreResult.saturated)
    match s.options.policy with
    | .saturate => saturated
    | .roll =>
      if g.rollover < 9 then
        ((s.modPage p fun g => { g with score := sum - Config.rollModulus, rollover := g.rollover + 1 }).raise
          .scoreRollover, .rolled)
      else saturated

/-- Adds a value to the total of a context; it saturates whatever the score policy (R129). -/
def addTotal (p : PlayerNo) (id v : Nat) (s : State) : State :=
  modContext p id (fun c => { c with total := min Config.maxScore (c.total + v) }) s

/-- The completion bonus of a total and a percentage (R130). -/
def completionBonus (total pct : Nat) : Nat := total * pct / 100 / 10 * 10

/-! ### Pushing (R142 to R144) -/

/-- The template of an id, when the id is 1 to 63 and the template is defined. -/
def State.template (s : State) (id : Nat) : Option Template :=
  if h : 1 ≤ id ∧ id ≤ 63 then s.templates[id - 1] else none

/-- A context built from a template (R142). -/
def Context.build (id : Nat) (t : Template) : Context :=
  { id := id, tpl := t, timed := decide (0 < t.initialTimer), timer := t.initialTimer, timerDue := false,
    paused := false, progress := 0, jackpot := t.jackpotBase, hurry := t.hurryStart,
    hurryRemaining := t.hurryPeriod, hurryDue := false, total := 0 }

/-- A push of mode `id` on page `p`'s stack: OK, or the refusal of R144's table. -/
def push (p : PlayerNo) (id : Nat) (s : State) : State × Status :=
  let stack := s.pages[p].stack
  match s.template id with
  | none => (s, .notFound)
  | some t =>
    if stack.any (fun c => c.id == id) then (s, .refusedDuplicate)
    else if Config.maxDepth ≤ stack.length then (s, .refusedFull)
    else if !s.isOpen then (s, .refusedState)
    else (setStack p (stack ++ [Context.build id t]) s, .ok)

/-! ### Ending (R148 to R154) -/

/-- A context ends for a reason other than CLOSED (R148): it leaves its stack, the stack is rederived, the last-ended
record is written and MODE_ENDED is raised. -/
def endContext (p : PlayerNo) (id : Nat) (r : EndReason) (s : State) : State :=
  match contextOf s.pages[p].stack id with
  | none => s
  | some (c, _) =>
    let s := setStack p (s.pages[p].stack.filter fun x => x.id != id) s
    (s.modPage p fun g => { g with last := { id := id, reason := r, total := c.total } }).raise .modeEnded

/-- What a completion did: the bonus, the result of its addition, and the chained push with its outcome. -/
structure Completion where
  bonus  : Nat
  result : ScoreResult
  chain  : Option (Nat × Status)
  deriving DecidableEq, Repr

/-- A context completes (R149): bonus, removal, chained push. A refused chain raises MODE_REFUSED (R150). -/
def complete (p : PlayerNo) (c : Context) (s : State) : State × Completion :=
  let bonus := completionBonus c.total c.tpl.completionPct
  let (s, r) := addScore p bonus s
  let s := endContext p c.id .completed s
  if c.tpl.next = 0 then (s, { bonus := bonus, result := r, chain := none })
  else
    let (s, st) := push p c.tpl.next s
    (s.raiseIf (st != .ok) .modeRefused, { bonus := bonus, result := r, chain := some (c.tpl.next, st) })

/-- Raises a context's progress by `n`, held at its goal, and completes it at a goal above 0 (R114, R159). The
progress after it is given back with what the completion did. -/
def advance (p : PlayerNo) (id n : Nat) (s : State) : State × Nat × Option Completion :=
  match contextOf s.pages[p].stack id with
  | none => (s, 0, none)
  | some (c, _) =>
    let progress := min c.tpl.goal (c.progress + n)
    let s := modContext p id (fun x => { x with progress := progress }) s
    if 0 < c.tpl.goal ∧ progress = c.tpl.goal then
      let (s, done) := complete p c s
      (s, progress, some done)
    else (s, progress, none)

/-- Ends the contexts of the current player's stack that a test names, from the top down (R152, R153). -/
def endMarked (test : Context → Bool) (r : EndReason) (s : State) : State :=
  let p := s.session.current
  ((s.pages[p].stack.reverse.filter test).map fun c => c.id).foldl (fun s id => endContext p id r s) s

/-- The ball has ended (R152). -/
def endOnDrain (s : State) : State := endMarked (fun c => c.tpl.endOnDrain) .drained s

/-- The game has tilted (R153). -/
def endOnTilt (s : State) : State := endMarked (fun c => c.tpl.endOnTilt) .tilted s

/-- A page whose contexts all end with reason CLOSED, the bottom one last (R154). -/
def Page.closeStack (g : Page) : Page :=
  match g.stack with
  | [] => g
  | c :: _ => { g with stack := [], last := { id := c.id, reason := .closed, total := c.total } }

/-- Every context of every page ends with reason CLOSED; MODE_ENDED is raised once when at least one ended (R154). -/
def closeModes (s : State) : State :=
  let anyEnded := (indices 4).any fun p => !s.pages[p].stack.isEmpty
  { s with pages := s.pages.map Page.closeStack }.raiseIf anyEnded .modeEnded

/-! ### Expiries (R132, R133, R147) -/

/-- MODE_TIMER_EXPIRY: the context of that id on the current player's stack ends TIMED_OUT. -/
def takeModeTimerExpiry (id : Nat) (s : State) : State :=
  let p := s.session.current
  match contextOf s.pages[p].stack id with
  | some (c, _) => if c.timed ∧ c.timerDue then endContext p id .timedOut s else s
  | none => s

/-- A context whose hurry period has expired: the value falls by the step to the floor, and the period reloads while
the value stands above the floor (R132). -/
def Context.hurryStep (c : Context) : Context :=
  let v := max (c.hurry - c.tpl.hurryStep) c.tpl.hurryFloor
  { c with hurry := v, hurryRemaining := if c.tpl.hurryFloor < v then c.tpl.hurryPeriod else 0, hurryDue := false }

/-- HURRY_PERIOD_EXPIRY. -/
def takeHurryPeriodExpiry (id : Nat) (s : State) : State :=
  let p := s.session.current
  match contextOf s.pages[p].stack id with
  | some (c, _) => if c.hurryDue then modContext p id Context.hurryStep s else s
  | none => s

/-- PF_MULT_TIMER_EXPIRY: the multiplier returns to 1 (R133). -/
def takePfMultTimerExpiry (s : State) : State :=
  if s.pfDue then { s with pfMult := 1, pfTimer := 0, pfDue := false } else s

/-- Sets the playfield multiplier and its timer (R133 to R135). -/
def setPfMult (m t : Nat) (s : State) : State := { s with pfMult := m, pfTimer := t, pfDue := false }

/-- SWING_TIMER_EXPIRY (R167). -/
def takeSwingTimerExpiry (s : State) : State :=
  if s.session.swing.running ∧ s.session.swing.due then { s with session := { s.session with swing := .stopped } }
  else s

end Sys2Proof.Machine
end

