-- ==== Sys2Proof/Machine/Play.lean ====
section
/-! DEFINITION. The Ball Accounting Unit outside the evaluation (chapter 4): balls in play, the close of an event, the
end of play, ball save, playfield activity, flight expiry and ball search. -/

namespace Sys2Proof.Machine

/-! ### The search (R80 to R84) -/

/-- The search delay, a value below 10 taken as 10 (R80). -/
def Options.idleDelay (o : Options) : Nat := max 10 o.searchDelay

/-- Loads the idle timer with the search delay (R80). -/
def loadIdle (s : State) : State := s.modAcct fun a => { a with idleTimer := .load s.options.idleDelay }

/-- Stops the idle timer. -/
def stopIdle (s : State) : State := s.modAcct fun a => { a with idleTimer := a.idleTimer.halt }

/-- The search ends (R83): its waiting requests are withdrawn, the search timer stops, the round number becomes 0 and
the last search coil none, and the idle timer is reloaded. An IDLE search is left as it is. -/
def endSearch (s : State) : State :=
  if s.acct.search = .idle then s
  else
    let s := withdrawWaiting [.search] s
    loadIdle (s.modAcct fun a =>
      { a with search := .idle, round := 0, searchTimer := a.searchTimer.halt, searchSlow := false,
               lastSearch := none })

/-- A device whose search flag makes a coil a member of the round (R81). -/
def State.searchDevice (s : State) (c : CoilNo) : Option DevNo :=
  (indices 8).find? fun d =>
    s.devices[d].live.state != .disabled && s.devices[d].cfg.searchFlag && s.devices[d].cfg.coil == c

/-- Whether a coil is a member of every round (R81). -/
def State.isMember (s : State) (c : CoilNo) : Bool := s.coils[c].cfg.searchFlag || (s.searchDevice c).isSome

/-- Whether a member is passed over: its own search-coil flag is 0, and its device is not IDLE or is a LOCK holding
a ball (R81). -/
def State.passedOver (s : State) (c : CoilNo) : Bool :=
  !s.coils[c].cfg.searchFlag &&
    match s.searchDevice c with
    | some d => s.devices[d].live.state != .idle ||
        (s.devices[d].cfg.kind == .lock && decide (1 ≤ s.devices[d].live.occupancy))
    | none => false

/-- The members above the last search coil, in ascending coil number. -/
def State.membersLeft (s : State) : List CoilNo :=
  (indices 24).filter fun c => s.isMember c &&
    match s.acct.lastSearch with
    | some l => decide (l < c)
    | none => true

/-- Takes members one after another until one is requested and accepted; the Bool tells whether one was (R81). -/
def searchSteps : List CoilNo → State → State × Bool
  | [], s => (s, false)
  | c :: rest, s =>
    let s := s.modAcct fun a => { a with lastSearch := some c }
    if s.passedOver c then searchSteps rest s
    else
      let (s, accepted) := requestSearch c s
      if accepted then (s, true) else searchSteps rest s

/-- Starts the search timer with the pulse spacing (R81). -/
def startSpacing (s : State) : State :=
  s.modAcct fun a => { a with searchTimer := .load s.options.searchSpacing, searchSlow := false }

/-- Starts a round: last search coil none, the first step taken, and the spacing started whether or not a request was
accepted (R81). -/
def startRound (s : State) : State :=
  let s := s.modAcct fun a => { a with lastSearch := none }
  startSpacing (searchSteps s.membersLeft s).1

/-- A round ends (R82). -/
def endRound (s : State) : State :=
  let a := s.acct
  let s := s.modAcct fun a => { a with round := min 255 (a.round + 1), lastSearch := none }
  if a.round < s.options.roundLimit then startRound s
  else
    let s := if a.round = s.options.roundLimit then
        (s.modAcct fun a => { a with missing := a.missing + a.live, live := 0 }).raiseIf (decide (1 ≤ a.live))
          .ballMissing
      else s
    s.modAcct fun a => { a with searchTimer := .load s.options.slowInterval, searchSlow := true }

/-- The search starts with round 1 (R80, R84). -/
def startSearch (s : State) : State :=
  startRound ((s.modAcct fun a => { a with search := .searching, round := 1 }).raise .searchStarted)

/-! ### Balls in play and the close of an event (R71, R72, R76) -/

/-- The number of balls in play, over the terms as they stand (R71). -/
def State.ballsInPlay (s : State) : Nat :=
  s.acct.live + s.acct.missing + s.acct.flights.length + s.devices[shooter].live.occupancy +
    ((indices 8).map fun d =>
      if s.devices[d].cfg.kind = .saucer then s.devices[d].live.occupancy else 0).sum +
    s.devices[trough].live.owed

/-- The phase changes; timers whose counting condition fails hold (R77, R80, R146). -/
def setPhase (p : PlayPhase) (s : State) : State := s.modAcct fun a => { a with phase := p }

/-- Ball save goes OFF with its timer stopped at 0. Where the spec says "timer stopped" without the count, or only OFF
(the end of play, the tilt, the slam, SERVE with save time 0: R76, R168, R170, R73), the 0 is the model's choice
(log 35). -/
def saveOff (s : State) : State := s.modAcct fun a => { a with saveState := .off, saveTimer := .stopped }

/-- Ball save goes ACTIVE with its timer loaded. -/
def saveActive (t : Nat) (s : State) : State :=
  s.modAcct fun a => { a with saveState := .active, saveTimer := .load t }

/-- Play ends (R76): phase ENDED, BALL_ENDED, ball save OFF, the search ended, the idle timer stopped, and the
end-on-drain modes ended. The multiball flag has been cleared before (R72). -/
def endPlay (s : State) : State :=
  endOnDrain (stopIdle (endSearch (saveOff ((setPhase .ended s).raise .ballEnded))))

/-- P is formed anew and acted on (R71, R72, R76). -/
def formPlay (s : State) : State :=
  let p := s.ballsInPlay
  let s := s.modAcct fun a => { a with inPlay := p }
  match s.acct.phase with
  | .play =>
    let s :=
      if 2 ≤ p then
        if s.acct.multiball then s else (s.modAcct fun a => { a with multiball := true }).raise .multiballStarted
      else if s.acct.multiball then (s.modAcct fun a => { a with multiball := false }).raise .multiballEnded
      else s
    if p = 0 then endPlay s else s
  | .serving => if p = 0 then setPhase .noPlay s else s
  | .launchWait => if p = 0 then setPhase .noPlay s else s
  | _ => s

/-- The live and missing counts together. -/
def State.loose (s : State) : Nat := s.acct.live + s.acct.missing

/-- The close of an event that began at `before`: the search ends when live plus missing has fallen to 0 (R83), the
idle timer is loaded when it has risen from 0 (R80), P is formed and acted on (R71), and every timer whose counting
condition has failed holds. -/
def closeEvent (before s : State) : State :=
  let s := if before.loose ≠ 0 ∧ s.loose = 0 then endSearch s else s
  let s := if before.loose = 0 ∧ s.loose ≠ 0 then loadIdle s else s
  holdTimers (formPlay s)

/-- An event as a whole: its changes, then its close. -/
def event (f : State → State) (s : State) : State := closeEvent s (f s)

/-! ### Events of the accounting unit -/

/-- The position of the oldest in-flight record that a test names. -/
def oldestAt (test : FlightRec → Bool) (fs : List FlightRec) : Option Nat := fs.findIdx? test

/-- The position of the youngest in-flight record that a test names. -/
def youngestAt (test : FlightRec → Bool) (fs : List FlightRec) : Option Nat :=
  (fs.reverse.findIdx? test).map fun i => fs.length - 1 - i

/-- A record leaves the list; those behind it keep their order (R63). -/
def removeFlight (i : Nat) (s : State) : State := s.modAcct fun a => { a with flights := a.flights.eraseIdx i }

def FlightRec.toPlayfield (r : FlightRec) : Bool := r.target == .playfield

/-- What a playfield-activity event confirms (R65): the oldest PLAYFIELD record, or a missing ball, or nothing. -/
def confirmBall (s : State) : State :=
  match oldestAt FlightRec.toPlayfield s.acct.flights with
  | some i => (removeFlight i s).modAcct fun a => { a with live := a.live + 1 }
  | none =>
    if 1 ≤ s.acct.missing then
      (s.modAcct fun a => { a with missing := a.missing - 1, live := a.live + 1 }).raise .ballFound
    else s

/-- A playfield-activity event (R65, R80, R83). -/
def playfieldActivity (s : State) : State := event (fun s => loadIdle (endSearch (confirmBall s))) s

/-- What the expiry of the record at position `i` does (R64). -/
def expireFlight (i : Nat) (r : FlightRec) (s : State) : State :=
  let s := removeFlight i s
  match r.target with
  | .playfield => s.modAcct fun a => { a with live := a.live + 1 }
  | .device _ => (s.modAcct fun a => { a with missing := a.missing + 1 }).raise .ballMissing

/-- FLIGHT_EXPIRY (R64). -/
def takeFlightExpiry (i : Nat) (s : State) : State :=
  match s.acct.flights[i]? with
  | some r => if r.due then event (expireFlight i r) s else s
  | none => s

/-- SAVE_TIMER_EXPIRY (R77). -/
def takeSaveTimerExpiry (s : State) : State :=
  if s.acct.saveTimer.running ∧ s.acct.saveTimer.due then
    match s.acct.saveState with
    | .active =>
      if s.options.graceTime = 0 then saveOff s
      else s.modAcct fun a => { a with saveState := .grace, saveTimer := .load s.options.graceTime }
    | _ => saveOff s
  else s

/-- IDLE_TIMER_EXPIRY (R80): the timer stops and the search starts. -/
def takeIdleTimerExpiry (s : State) : State :=
  if s.acct.idleTimer.running ∧ s.acct.idleTimer.due then
    startSearch (s.modAcct fun a => { a with idleTimer := .stopped })
  else s

/-- SEARCH_TIMER_EXPIRY (R81, R82): after the slow interval the round starts; otherwise the next member is taken, and
when none remains the round ends. -/
def searchExpiry (s : State) : State :=
  let slow := s.acct.searchSlow
  let s := s.modAcct fun a => { a with searchTimer := .stopped, searchSlow := false }
  if slow then startRound s
  else
    let (s, accepted) := searchSteps s.membersLeft s
    if accepted then startSpacing s else endRound s

/-- SEARCH_TIMER_EXPIRY. -/
def takeSearchTimerExpiry (s : State) : State :=
  if s.acct.search = .searching ∧ s.acct.searchTimer.running ∧ s.acct.searchTimer.due then event searchExpiry s
  else s

end Sys2Proof.Machine
end

