-- ==== Sys2Proof/Machine/Locks.lean ====
section
/-! DEFINITION. The Lock and Page Unit (chapter 5): lit locks and credits, the capture decision, reconciliation and the
multiball start. -/

namespace Sys2Proof.Machine

/-- The lock place of a device whose kind is LOCK. -/
def State.lockOf (s : State) (d : DevNo) : Option LockNo :=
  if s.devices[d].cfg.kind = .lock then lockNo d else none

/-- The held balls of a lock: its occupancy less its owed ejects, not below 0 (R98). -/
def State.heldBalls (s : State) (d : DevNo) : Nat := s.devices[d].live.occupancy - s.devices[d].live.owed

/-- The current player's deficit at a lock: credits minus held balls when that is positive (R99). -/
def State.deficit (s : State) (d : DevNo) (k : LockNo) : Nat := s.page.credits[k] - s.heldBalls d

/-- Changes the current player's page. -/
def State.modCurrent (s : State) (f : Page → Page) : State := s.modPage s.session.current f

/-- Adds `n` owed ejects, one at a time (R25). -/
def addOwedTimes (d : DevNo) : Nat → State → State
  | 0, s => s
  | n + 1, s => addOwedTimes d n (addOwed d s)

/-! ### Lighting (R93) -/

/-- The room left for lit locks at a lock on the current page. -/
def State.lockRoom (s : State) (d : DevNo) (k : LockNo) : Nat :=
  s.devices[d].cfg.capacity - s.page.lit[k] - s.page.credits[k]

/-- Raises the current player's lit locks by the smaller of `n` and the room left. -/
def lightLock (d : DevNo) (k : LockNo) (n : Nat) (s : State) : State :=
  s.modCurrent fun g => { g with lit := g.lit.set k (g.lit[k] + min n (s.lockRoom d k)) }

/-- The award form of LIGHT_LOCK: an argument that names no LOCK device lights nothing (R93, R116). -/
def awardLightLock (argument : Byte) (s : State) : State :=
  match indexOf 8 argument with
  | none => s
  | some d =>
    match s.lockOf d with
    | none => s
    | some k => lightLock d k 1 s

/-! ### The capture decision (R94 to R97) -/

/-- The reason a ball entering lock `d` is rejected, or none when it is captured (R94). -/
def State.rejection (s : State) (d : DevNo) (k : LockNo) : Option LockReason :=
  if s.acct.phase ≠ .play then some .notPlay
  else if s.isTilted then some .tilted
  else if s.devices[d].live.order ≠ .none ∨ 0 < s.devices[d].live.owed then some .deviceBusy
  else if s.page.lit[k] = 0 then some .notLit
  else none

/-- Writes the lock decision record (R97). -/
def recordDecision (k : LockNo) (o : LockOutcome) (r : LockReason) (s : State) : State :=
  let entry : LockDecision := { outcome := o, reason := r, player := s.session.current, stamp := s.frameCount }
  { s with decisions := s.decisions.set k entry }

/-- A captured entry (R95): a lit lock becomes a credit, and when that leaves no ball in play the trough owes a
replacement. -/
def capture (k : LockNo) (s : State) : State :=
  let s := s.modCurrent fun g =>
    { g with lit := g.lit.set k (g.lit[k] - 1), credits := g.credits.set k (g.credits[k] + 1) }
  let s := (recordDecision k .captured .none s).raise .lockCaptured
  if s.ballsInPlay = 0 then addOwed trough s else s

/-- A rejected entry (R96): one owed eject for the lock, which it takes up when its evaluation is complete. -/
def reject (d : DevNo) (k : LockNo) (r : LockReason) (s : State) : State :=
  addOwedCount d ((recordDecision k .rejected r s).raise .lockRejected)

/-- The capture decision for one entry of a device: nothing unless it is a LOCK. -/
def captureDecision (d : DevNo) (s : State) : State :=
  match s.lockOf d with
  | none => s
  | some k =>
    match s.rejection d k with
    | none => capture k s
    | some r => reject d k r s

/-! ### Reconciliation on player change (R98) -/

/-- The owed ejects that reconciliation adds at a device: the excess of the held balls over the current player's
credits at a PURGE lock. -/
def State.excess (s : State) (d : DevNo) : Nat :=
  match s.lockOf d with
  | none => 0
  | some k => if s.devices[d].cfg.policy = .purge then s.heldBalls d - s.page.credits[k] else 0

/-- Reconciles every LOCK device in ascending number; the number of owed ejects actually added is given back. -/
def reconcile (s : State) : State × Nat :=
  (indices 8).foldl (fun (acc : State × Nat) d =>
    let s' := addOwedTimes d (acc.1.excess d) acc.1
    (s', acc.2 + (s'.devices[d].live.owed - acc.1.devices[d].live.owed))) (s, 0)

/-! ### Multiball (R100 to R103) -/

/-- What a multiball start did: the target after clamping, the balls the locks eject, the deficits, the extra, and
the owed ejects actually added to the trough. -/
structure MultiballStart where
  target    : Nat
  lockBalls : Nat
  deficits  : Nat
  extra     : Nat
  added     : Nat
  deriving DecidableEq, Repr

/-- One LOCK device of the mask (R101): r owed ejects, and the current player's credits there return to 0. -/
def sourceLock (d : DevNo) (k : LockNo) (s : State) : State :=
  let r := min s.page.credits[k] (s.heldBalls d)
  (addOwedTimes d r s).modCurrent fun g => { g with credits := g.credits.set k 0 }

/-- The LOCK devices of a mask, in ascending number, with their lock places. -/
def State.maskedLocks (s : State) (mask : Byte) : List (DevNo × LockNo) :=
  (indices 8).filterMap fun d => if mask.getLsbD d.val then (s.lockOf d).map fun k => (d, k) else none

/-- The start of a multiball (R101 to R103), its close included. -/
def startMultiball (targetGiven : Nat) (mask : Byte) (saveTime : Nat) (s : State) : State × MultiballStart :=
  let target := min 8 (max 2 targetGiven)
  let locks := s.maskedLocks mask
  let credits := (locks.map fun x => s.page.credits[x.2]).sum
  let lockBalls := (locks.map fun x => min s.page.credits[x.2] (s.heldBalls x.1)).sum
  let deficits := credits - lockBalls
  let extra := target - (s.acct.inPlay + credits)
  let sourced := locks.foldl (fun t x => sourceLock x.1 x.2 t) s
  let served := addOwedTimes trough (deficits + extra) sourced
  let saved := if 0 < saveTime then saveActive saveTime served else served
  (closeEvent s saved,
    { target := target, lockBalls := lockBalls, deficits := deficits, extra := extra,
      added := served.devices[trough].live.owed - sourced.devices[trough].live.owed })

/-- Whether a multiball start is accepted (R100). -/
def State.multiballAccepted (s : State) : Bool := s.acct.phase == .play && !s.isTilted

/-- The award form of START_MULTIBALL: every lock in the mask, the options' save time; disregarded where the start is
not accepted (R100, R116). -/
def awardStartMultiball (argument : Byte) (s : State) : State :=
  if s.multiballAccepted then (startMultiball argument.toNat 0xFC s.options.multiballSave s).1 else s

end Sys2Proof.Machine
end

