-- ==== Sys2Proof/Machine/Evaluate.lean ====
section
/-! DEFINITION. The evaluation of a ball device (R21 to R24, R29 to R37), the attribution of its entries (R66, R67) and
the rules that the entries meet in the accounting unit (R74, R75, R78). -/

namespace Sys2Proof.Machine

/-! ### Exits and entries (R22) -/

/-- Exits and entries for a device with an entry switch: c closed, a accounted, e entries seen. -/
def swapCount (c a e : Nat) : Nat × Nat :=
  let entries := max e (c - a)
  (entries + a - c, entries)

/-- Exits and entries for a device without an entry switch. -/
def netCount (c a : Nat) : Nat × Nat := (a - c, c - a)

/-! ### Exits (R23, R63) -/

/-- The cause of a device's exits: LAUNCH for the shooter, otherwise EJECT while it has an order. -/
def State.exitCause (s : State) (d : DevNo) : Cause :=
  if s.devices[d].cfg.kind = .shooter then .launch
  else if s.devices[d].live.order = .none then .unprompted else .eject

/-- The in-flight record of one exit (R63). -/
def State.exitRecord (s : State) (d : DevNo) : FlightRec :=
  { source := d, target := s.devices[d].cfg.target, stamp := s.frameCount,
    remaining := s.devices[d].cfg.flightTime, cause := s.exitCause d, due := false }

/-- Appends one record per exit at the tail of the in-flight list. -/
def handExits (d : DevNo) (n : Nat) (s : State) : State :=
  s.modAcct fun a => { a with flights := a.flights ++ List.replicate n (s.exitRecord d) }

/-- Whether exits of a device move the phase to PLAY at the close of the evaluation (R74): an exit of the trough in
SERVING to a target other than the shooter lane, or an exit of the shooter in LAUNCH_WAIT. The phase is the one that
stands before anything of the evaluation is handed (the model's choice, log 32). -/
def State.exitStartsPlay (s : State) (d : DevNo) (exits : Nat) : Bool :=
  decide (1 ≤ exits) &&
    ((s.acct.phase == .serving && d == trough && s.devices[d].cfg.target != .device shooter) ||
      (s.acct.phase == .launchWait && d == shooter))

/-! ### Attribution (R66, R67) -/

/-- The place that supplies an entry. -/
inductive Supply
  /-- Step 0: the youngest record whose source is the device, for a fallback entry. -/
  | returned
  /-- Step 1: the oldest record whose target is the device. -/
  | targeted
  /-- Step 2: the live count. -/
  | live
  /-- Step 3: the oldest PLAYFIELD record. -/
  | playfield
  /-- Step 4: the missing count. -/
  | missing
  /-- Step 5, first: the youngest record of the same evaluation. -/
  | ownExit
  /-- Step 5: a new ball. -/
  | newBall
  /-- The installed count is at its limit: the entry cannot be attributed. -/
  | unattributed
  deriving DecidableEq, Repr

/-- Removes the record at position `i`; `own` is the number of records of this evaluation, which stand at the tail. -/
def takeFlight (i own : Nat) (s : State) : State × Nat :=
  (removeFlight i s, if s.acct.flights.length ≤ i + own then own - 1 else own)

/-- Attributes one entry into device `d` (R66, R67); `own` counts the records of this evaluation still in the list. -/
def supplyEntry (d : DevNo) (fallback : Bool) (own : Nat) (s : State) : State × Nat × Supply :=
  let fs := s.acct.flights
  let step0 := if fallback then youngestAt (fun r => r.source == d) fs else none
  match step0 with
  | some i => let (s, own) := takeFlight i own s; (s, own, .returned)
  | none =>
    match oldestAt (fun r => r.target == .device d) fs with
    | some i => let (s, own) := takeFlight i own s; (s, own, .targeted)
    | none =>
      if 1 ≤ s.acct.live then (s.modAcct fun a => { a with live := a.live - 1 }, own, .live)
      else match oldestAt FlightRec.toPlayfield fs with
        | some i => let (s, own) := takeFlight i own s; (s, own, .playfield)
        | none =>
          if 1 ≤ s.acct.missing then
            ((s.modAcct fun a => { a with missing := a.missing - 1 }).raise .ballFound, own, .missing)
          else if 1 ≤ own then (removeFlight (fs.length - 1) s, own - 1, .ownExit)
          else if s.acct.installed < Config.maxInstalled then
            ((s.modAcct fun a => { a with installed := a.installed + 1 }).raise .extraBall, own, .newBall)
          else (s, own, .unattributed)

/-! ### What an attributed entry meets -/

/-- Whether a drain is saved (R78). -/
def State.savesDrain (s : State) : Bool :=
  s.acct.phase == .play && s.acct.saveState != .off && !s.isTilted &&
    (s.options.saveLimit == 0 || decide (s.acct.savesUsed < s.options.saveLimit))

/-- A drain into the trough: saved or not (R78). -/
def drain (s : State) : State :=
  if s.savesDrain then
    ((addOwedCount trough s).modAcct fun a => { a with savesUsed := min 255 (a.savesUsed + 1) }).raise .ballSaved
  else s

/-- A ball attributed into the shooter lane (R74, R75). -/
def shooterEntry (fallback : Bool) (s : State) : State :=
  match s.acct.phase with
  | .serving =>
    let s := setPhase .launchWait s
    if s.acct.serveLaunch && !fallback then addOwedCount shooter s else s
  | .play => if fallback then s else addOwedCount shooter s
  | _ => s

/-- The rules an attributed entry meets: the save test, the phase rules, the capture decision. A device's own owed
ejects are only counted here; it looks for an order when its evaluation is complete. -/
def entryRules (d : DevNo) (fallback : Bool) (from_ : Supply) (s : State) : State :=
  let s := if d = trough ∧ (from_ = .live ∨ from_ = .playfield) then drain s else s
  let s := if d = shooter then shooterEntry fallback s else s
  if fallback then s else captureDecision d s

/-- An entry that cannot be attributed (R24, R67): EXTRA_BALL when the count-fault flag is clear, and the flag set. -/
def countFault (d : DevNo) (s : State) : State :=
  let clear := !s.devices[d].live.countFault
  (s.modLive d fun l => { l with countFault := true }).raiseIf clear .extraBall

/-- The tally of an evaluation's entries: records of the evaluation still in the list, entries that could not be
attributed, and attributed entries other than a fallback entry. -/
structure Tally where
  own          : Nat
  unattributed : Nat
  ordinary     : Nat
  deriving DecidableEq, Repr

/-- Hands one entry: attributed, then met by the rules of the place it enters. -/
def handEntry (d : DevNo) (fallback : Bool) (t : Tally) (s : State) : State × Tally :=
  let (s, own, supply) := supplyEntry d fallback t.own s
  if supply = .unattributed then (countFault d s, { t with own := own, unattributed := t.unattributed + 1 })
  else (entryRules d fallback supply s,
    { t with own := own, ordinary := if fallback then t.ordinary else t.ordinary + 1 })

/-- Hands `n` entries one at a time; only the first can be a fallback entry (R23, R34). -/
def handEntries (d : DevNo) : Nat → Bool → Tally → State → State × Tally
  | 0, _, t, s => (s, t)
  | n + 1, fallback, t, s =>
    let (s, t) := handEntry d fallback t s
    handEntries d n false t s

/-- Hands exits, then entries, and sets the occupancy to the count less the entries not attributed (R21, R23, R24). -/
def recountDevice (d : DevNo) (counts : Nat × Nat) (c : Nat) (fallback : Bool) (s : State) : State × Tally :=
  let s := s.modLive d fun l => { l with entriesSeen := 0 }
  let s := handExits d counts.1 s
  let (s, t) := handEntries d counts.2 fallback { own := counts.1, unattributed := 0, ordinary := 0 } s
  (s.modLive d fun l => { l with occupancy := c - t.unattributed }, t)

/-! ### Acting on the result (R29 to R34, R37) -/

/-- Whether an evaluation that counts entries is a fallback evaluation (R34). -/
def DeviceLive.fallsBack (l : DeviceLive) (entries : Nat) : Bool :=
  decide (1 ≤ entries) && l.order != .none && decide (1 ≤ l.exitsInOrder) && l.confirm.running

/-- Confirms exits against the current order (R31): the slot's ejected count or the owed-eject count, exits in order,
the attempt fields, and DOUBLE_EJECT for a surplus. -/
def confirmExits (d : DevNo) (exits : Nat) (s : State) : State :=
  let s := match s.devices[d].live.order with
    | .slot n => s.modSlot n fun x => { x with ejected := min x.requested (x.ejected + exits) }
    | .owed => s.modLive d fun l => { l with owed := l.owed - exits }
    | .none => s
  let s := s.modLive d fun l =>
    { l with exitsInOrder := min 8 (l.exitsInOrder + exits), attemptExits := min 8 (l.attemptExits + exits),
             attemptConfirmed := true }
  s.raiseIf (decide (s.devices[d].live.intended < s.devices[d].live.attemptExits)) .doubleEject

/-- The ball of a fallback is taken as not ejected (R34). -/
def uncountExit (d : DevNo) (s : State) : State :=
  let s := match s.devices[d].live.order with
    | .slot n => s.modSlot n fun x => { x with ejected := x.ejected - 1 }
    | .owed => s.modLive d fun l => { l with owed := min 8 (l.owed + 1) }
    | .none => s
  s.modLive d fun l => { l with exitsInOrder := l.exitsInOrder - 1 }

/-- In CONFIRMING with the attempt confirmed: the next ball is started when the order still needs balls and the
device holds one (R31). -/
def nextBall (d : DevNo) (s : State) : State :=
  let l := s.devices[d].live
  if l.state = .confirming ∧ l.attemptConfirmed ∧ ¬ l.stopPending ∧ 0 < s.needs d ∧ 1 ≤ l.occupancy then
    startBall d 1 s
  else s

/-- The attempt fields serve the next ball of an open request (R32). With stop pending no further ball is started,
and they keep what the attempt has confirmed. The balls the attempt intends stay those taken when the request was
made, which R32 does not say for HOLD_RELEASE (the model's choice, log 30). -/
def reuseRequest (d : DevNo) (s : State) : State :=
  s.modLive d fun l => if l.stopPending then l else { l with attemptExits := 0, attemptConfirmed := false }

/-- Whether the pulse that the device's coil fires is not the first of its request. -/
def State.laterPulse (s : State) (c : CoilNo) : Bool := decide (2 ≤ s.coils[c].live.pulses)

/-- Exits counted in EJECTING, after they are confirmed (R29, R30, R32). -/
def actEjecting (d : DevNo) (s : State) : State :=
  let c := s.devices[d].cfg.coil
  let met := s.needs d = 0
  match s.stage c d with
  | .queued => if met then enterConfirming d (endRequest c d s) else reuseRequest d s
  | .between => nextBall d (enterConfirming d (endRequest c d s))
  | .firing =>
    match s.profile d with
    | .pulse => if met then s else reuseRequest d s
    | .repeating =>
      if s.laterPulse c ∨ met then endRequest c d s else reuseRequest d s
    | .holdRelease => if met then endRequest c d s else s
  | .holding => if met then deviceRelease true d (endRequest c d s) else s
  | .closed => s

/-- The device acts on a fallback (R34) once its counts are corrected: in CONFIRMING as on a failed attempt, in
EJECTING its open request goes on. -/
def actFallback (d : DevNo) (s : State) : State :=
  let s := uncountExit d s
  if s.devices[d].live.state = .confirming then failedAttempt d s else s

/-- The device acts on exits and on a fallback in the state and order it had at the evaluation (R31 to R34). An
evaluation without exits ends no hold, even when the order needs no more balls (the model's choice, log 31). -/
def actOnOrder (d : DevNo) (exits : Nat) (fallback : Bool) (s : State) : State :=
  let was := s.devices[d].live
  let s := if was.order ≠ .none ∧ 1 ≤ exits then confirmExits d exits s else s
  if was.state = .confirming ∧ was.stopPending ∧ (1 ≤ exits ∨ fallback) then
    endOrder d resultAtCancel (if fallback then uncountExit d s else s)
  else
    let s := if was.order ≠ .none ∧ was.state = .ejecting ∧ 1 ≤ exits then actEjecting d s else s
    let s := if was.state = .confirming ∧ ¬ (fallback ∧ exits = 0) then nextBall d s else s
    if fallback then actFallback d s else s

/-- The saucer hold (R37): an occupancy raised from 0 through an ordinary entry starts the hold timer, or adds the owed
eject when the hold time is 0; an occupancy back at 0 stops it. Two points are the model's choice: an occupancy that
was 0 already stops a running hold too (log 33), and one ordinary entry is enough where a fallback entry of the same
evaluation also raised the occupancy (log 34). -/
def saucerHold (d : DevNo) (before : Nat) (ordinary : Nat) (s : State) : State :=
  let v := s.devices[d]
  if v.cfg.kind ≠ .saucer then s
  else if v.live.occupancy = 0 then s.modLive d fun l => { l with hold := l.hold.halt }
  else if before = 0 ∧ 1 ≤ ordinary ∧ ¬ v.live.hold.running then
    if v.cfg.holdTime = 0 then addOwedCount d s else s.modLive d fun l => { l with hold := .load v.cfg.holdTime }
  else s

/-- The entry to PLAY loads the idle timer (R74, R80). -/
def enterPlay (s : State) : State := loadIdle (setPhase .play s)

/-- The evaluation of device `d` up to its close (R21). -/
def evaluate (d : DevNo) (s : State) : State :=
  let v := s.devices[d]
  let c := s.closedCount d
  let counts := if v.cfg.entry.isSome then swapCount c v.live.occupancy v.live.entriesSeen
    else netCount c v.live.occupancy
  let fallback := v.live.fallsBack counts.2
  let starts := s.exitStartsPlay d counts.1
  let s := s.modLive d fun l => { l with settle := .stopped }
  let (s, t) := recountDevice d counts c fallback s
  let s := actOnOrder d counts.1 fallback s
  let s := saucerHold d v.live.occupancy t.ordinary s
  let s := takeOrder d s
  if starts then enterPlay s else s

/-- EVALUATION: the settle timer of device `d` expires. -/
def takeEvaluation (d : DevNo) (s : State) : State :=
  let l := s.devices[d].live
  if l.settle.running ∧ l.settle.due then event (evaluate d) s else s

/-- The fresh evaluation of CLEAR_JAM up to its close (R39): counted without the entry switch, the count-fault flag
cleared before it, and the device left in IDLE to take its next order. It starts and stops no saucer hold (the model's
choice, log 8). -/
def clearJam (d : DevNo) (s : State) : State :=
  let c := s.closedCount d
  let counts := netCount c s.devices[d].live.occupancy
  let starts := s.exitStartsPlay d counts.1
  let s := s.modLive d fun l => { l with countFault := false, settle := l.settle.halt }
  let (s, _) := recountDevice d counts c false s
  let s := takeOrder d (s.modLive d fun l => { l with attemptCount := 0, state := .idle })
  if starts then enterPlay s else s

end Sys2Proof.Machine
end

