-- ==== Sys2Proof/Machine/Link.lean ====
section
/-! DEFINITION. What the Link Interface does with a frame (R174 to R180): executing a request, refusing it, and the bad,
overrun and fetch frames. -/

namespace Sys2Proof.Machine

/-- Changes the link's records. -/
def State.modLink (s : State) (f : Link → Link) : State := { s with link := f s.link }

/-- The part shifts filler throughout a frame of `n` bytes (R174, R188). -/
def shiftFiller (n : Nat) (s : State) : State :=
  s.modLink fun l => { l with shifted := List.replicate n Config.filler }

/-- LINK_ERROR with its cause recorded, the error count held at 255 (R180). -/
def linkError (c : LinkCause) (s : State) : State :=
  (s.modLink fun l => { l with lastCause := c, errorCount := min 255 (l.errorCount + 1) }).raise .linkError

/-- An overrun frame (R179): discarded, whatever it contains. -/
def overrunFrame (n : Nat) (s : State) : State := linkError .overrun (shiftFiller n s)

/-- A bad frame (R176): any waiting reply is discarded and a BAD_FRAME reply waits. -/
def badFrame (n : Nat) (c : LinkCause) (s : State) : State :=
  linkError c ((shiftFiller n s).modLink fun l => { l with waiting := some (.plain .badFrame) })

/-- A good frame starts an execution: any waiting reply is discarded and RDY goes inactive (R178). -/
def beginExecution (n : Nat) (s : State) : State :=
  (shiftFiller n s).modLink fun l => { l with waiting := none }

/-- The reply that the execution's end will store. -/
def prepare (r : Reply) (s : State) : State := s.modLink fun l => { l with executing := some r }

/-- A frame that reaches the part while a request executes is an overrun; any other is given to `f` (R176, R179). -/
def frame (n : Nat) (f : State → State) (s : State) : State :=
  if s.link.executing.isSome then overrunFrame n s else f s

/-- A good frame of a named request. A body above 60 bytes is a bad frame (R176); a body that is not of the request's
length is answered BAD_VALUE and not executed (R178). -/
def request (len : Nat) (body : List Byte) (run : List Byte → State → State × Reply) (s : State) :
    Host.Outcome State Fault Refusal :=
  .next (frame (body.length + 3) (fun s =>
    if Config.maxBody < body.length then badFrame (body.length + 3) .badLength s
    else
      let s := beginExecution (body.length + 3) s
      if body.length = len then
        let (t, r) := run body s
        prepare r t
      else prepare (.plain .badValue) s) s)

/-! ### What a request's owner answers -/

/-- Executed: OK with a body. -/
def ok (s : State) (body : List Byte) : State × Reply := (s, { status := .ok, body := body })

/-- Refused, or a body of the wrong length: nothing changes. -/
def refuse (s : State) (st : Status) : State × Reply := (s, .plain st)

/-- A byte that R189 refuses but that the owning rule's table does not list: BAD_VALUE when the owner's own checks
pass, and before them or after them as the part decides (log 10). -/
def withEncodingCheck (valid : Bool) (owner : Status) : Status :=
  if !valid && (Config.encodingCheckFirst || owner == .ok) then .badValue else owner

end Sys2Proof.Machine
end

