-- ==== Sys2Proof/Machine/Replies.lean ====
section
/-! DEFINITION. The bodies of the replies that carry records (R190): each in the order of its layout, or of its rule where
the chapter gives no layout. -/

namespace Sys2Proof.Machine

/-! ### Scanner -/

/-- READ_SWITCH (R12): the record, then the activity flag. -/
def State.switchBody (s : State) (n : SwitchNo) : List Byte :=
  let r := s.switches[n]
  [nameByte SwitchClass.names r.cls, byte r.closeDebounce, byte r.openDebounce,
    nameByte EdgeSelection.names r.selection, nameByte Level.names r.level, byte r.pendingFrames] ++
    bytes32 r.lastClose.toNat ++ bytes32 r.lastOpen.toNat ++ [flagByte (s.activity.getLsbD n.val)]

/-- READ_SWITCHES (R13): the levels as a set, then the frame count. -/
def State.levelsBody (s : State) : List Byte :=
  setBytes 16 (setOfFlags (s.switches.toList.map fun r => r.level == .closed)) ++ bytes32 s.frameCount.toNat

/-- READ_ACTIVITY (R14): the activity set, then the frame count. -/
def State.activityBody (s : State) : List Byte := setBytes 16 s.activity.toNat ++ bytes32 s.frameCount.toNat

/-! ### Devices -/

/-- A list of switch numbers in eight places, FF beyond its length. -/
def positionBytes (ps : List SwitchNo) : List Byte :=
  ps.map (fun n => byte n.val) ++ List.replicate (8 - ps.length) Config.noneByte

/-- READ_DEVICE (R42): the 38 bytes of the device record. -/
def State.deviceBody (s : State) (d : DevNo) : List Byte :=
  let c := s.devices[d].cfg
  let l := s.devices[d].live
  [byte d.val, nameByte DeviceKind.names c.kind, byte c.capacity, byte c.positions.length] ++
    positionBytes c.positions ++
  [optByte (c.entry.map (·.val)), byte c.coil.val, targetByte c.target, byte c.settleTime, byte c.confirmTimeout,
    byte c.maxAttempts, byte c.flightTime, byte c.holdTime, nameByte LockPolicy.names c.policy,
    flagByte c.searchFlag, flagByte c.configured, nameByte DeviceState.names l.state, byte l.occupancy,
    byte l.entriesSeen, byte l.owed, orderByte l.order, byte l.attemptCount, byte l.attemptExits,
    flagByte l.attemptConfirmed, byte l.exitsInOrder, flagByte l.stopPending, flagByte l.countFault,
    byte l.settle.count, byte l.confirm.count, byte l.hold.count,
    byte (setOfFlags [l.settle.running, l.confirm.running, l.hold.running])]

/-- READ_SLOT (R42): the slot record without its issue number. -/
def State.slotBody (s : State) (n : SlotNo) : List Byte :=
  let x := s.slots[n]
  [byte n.val, nameByte SlotState.names x.state, byte x.device.val, byte x.requested, byte x.ejected,
    nameByte SlotResult.names x.result]

/-! ### Coils -/

/-- READ_COIL (R57): configuration, live part, and the state of the power group. -/
def State.coilBody (s : State) (c : CoilNo) : List Byte :=
  let v := s.coils[c].cfg
  let l := s.coils[c].live
  [nameByte groupNames v.group, byte v.pulseWidth, byte v.recovery, nameByte Profile.names v.profile,
    byte v.repeatPeriod, byte v.repeatLimit, byte v.holdWindow, flagByte v.searchFlag,
    nameByte CoilState.names l.state, ownerByte l.owner, classByte l.cls, byte l.priority, byte l.age,
    optByte (l.held.map (·.val)), byte l.grantWidth, byte l.pulses, flagByte l.interval] ++ l.timer.bytes ++
  [nameByte GroupState.names (s.group v.group).state]

/-- The block of one group in READ_GROUPS: 53 bytes. -/
def State.groupBody (s : State) (g : Group) : List Byte :=
  let r := s.group g
  let cs := s.waitingSet g
  [nameByte GroupState.names r.state] ++ r.gap.bytes ++ [byte r.last.val, byte cs.length] ++
    cs.flatMap (fun c => [byte c.val, byte s.coils[c].live.priority]) ++
    List.replicate (2 * (24 - cs.length)) Config.noneByte

/-- READ_GROUPS (R57). -/
def State.groupsBody (s : State) : List Byte := s.groupBody .a ++ s.groupBody .b

/-! ### Accounting -/

/-- READ_ACCOUNTING (R85). -/
def State.accountingBody (s : State) : List Byte :=
  let a := s.acct
  [byte a.installed, byte a.live, byte a.missing, byte a.flights.length, nameByte PlayPhase.names a.phase,
    flagByte a.serveLaunch, byte a.inPlay, flagByte a.multiball, nameByte SaveState.names a.saveState] ++
  bytes16 a.saveTimer.count ++
  [flagByte a.saveTimer.running, byte a.savesUsed, nameByte SearchState.names a.search, byte a.round] ++
  a.idleTimer.bytes ++ a.searchTimer.bytes ++ [optByte (a.lastSearch.map (·.val))] ++
  (indices 8).map fun d => byte s.devices[d].live.occupancy

/-- One in-flight record: 8 bytes. -/
def FlightRec.bytes (r : FlightRec) : List Byte :=
  [byte r.source.val, targetByte r.target] ++ bytes32 r.stamp.toNat ++ [byte r.remaining, nameByte Cause.names r.cause]

/-- READ_FLIGHTS (R86): the total, the number returned, and up to eight records from a start position. -/
def State.flightsBody (s : State) (start : Nat) : List Byte :=
  let rs := (s.acct.flights.drop start).take 8
  [byte s.acct.flights.length, byte rs.length] ++ rs.flatMap FlightRec.bytes

/-! ### Pages and locks -/

/-- A last-ended record: mode id, reason, total. -/
def LastEnded.bytes (r : LastEnded) : List Byte :=
  [byte r.id, nameByte EndReason.names r.reason] ++ bcdBytes 6 r.total

/-- Eight pairs, 00 00 beyond the list. -/
def eightPairs (ps : List (Byte × Byte)) : List Byte :=
  ps.flatMap (fun p => [p.1, p.2]) ++ List.replicate (2 * (8 - ps.length)) 0

/-- READ_PLAYER (R105): the 46 bytes of the page summary. -/
def State.playerBody (s : State) (p : PlayerNo) : List Byte :=
  let g := s.pages[p]
  bcdBytes 6 g.score ++ [byte g.rollover] ++ g.lit.toList.map byte ++ g.credits.toList.map byte ++
    [byte g.stack.length] ++
    eightPairs ((derived g.stack).map fun x => (byte x.1.id, nameByte RunState.names x.2)) ++
    g.last.bytes ++ [byte s.session.current.val, byte s.session.players]

/-- The sum of the credits at a lock over the pages in use (R106). -/
def State.creditsInUse (s : State) (k : LockNo) : Nat :=
  ((indices 4).map fun p => if p.val < s.session.players then s.pages[p].credits[k] else 0).sum

/-- One lock decision record: outcome, reason, player, stamp. -/
def LockDecision.bytes (r : LockDecision) : List Byte :=
  [nameByte LockOutcome.names r.outcome, nameByte LockReason.names r.reason, byte r.player.val] ++
    bytes32 r.stamp.toNat

/-- The entry of one device in READ_LOCKS (R106). -/
def State.lockBody (s : State) (k : LockNo) : List Byte :=
  let d := lockDevice k
  let v := s.devices[d]
  let fields : List Byte :=
    if v.cfg.kind = .lock then
      [nameByte LockPolicy.names v.cfg.policy, byte v.live.occupancy, byte v.live.owed, byte (s.heldBalls d),
        byte s.page.lit[k], byte s.page.credits[k], byte (s.deficit d k), byte (s.creditsInUse k)]
    else List.replicate 8 0
  [nameByte DeviceKind.names v.cfg.kind] ++ fields ++ s.decisions[k].bytes

/-- READ_LOCKS (R106): devices 2 to 7 in ascending number. -/
def State.locksBody (s : State) : List Byte := (indices 6).flatMap s.lockBody

/-! ### Router -/

/-- READ_WINDOW (R122): 7 bytes. -/
def State.windowBody (s : State) (i : Fin 32) : List Byte :=
  let w := s.windows[i]
  [byte i.val, flagByte w.enabled, byte w.base.toNat, byte w.mask.toNat, nameByte EdgeFilter.names w.filter,
    flagByte w.translate, byte w.target.toNat]

/-- READ_AWARD (R122): 11 bytes. -/
def State.awardBody (s : State) (i : Fin 256) : List Byte :=
  let e := s.awards[i]
  [byte i.val, nameByte AwardKind.names e.kind] ++ bcdBytes 4 e.base ++
    [byte e.scope, flagByte e.requiresRunning, e.argument, flagByte e.notify, flagByte (s.awardHits.getLsbD i.val)]

/-! ### Multiplier -/

/-- Whether the playfield multiplier timer is counting, holding or untimed (R138). -/
def State.multTimerState (s : State) : MultTimerState :=
  if s.pfTimer = 0 then .untimed else if s.pfCounts then .counting else .holding

/-- READ_MULTIPLIER (R138): 28 bytes. -/
def State.multiplierBody (s : State) (scope : Nat) : List Byte :=
  let gs := globals s.page.stack
  let mode := if scope = 0 then none else runningContext s.page.stack scope
  let h := scopedFactor mode
  [byte s.pfMult] ++ bytes16 s.pfTimer ++
    [nameByte MultTimerState.names s.multTimerState, nameByte ScorePolicy.names s.options.policy, byte gs.length] ++
    eightPairs (gs.map fun c => (byte c.id, byte c.tpl.multiplier)) ++
    [byte h] ++ bytes32 (exactProduct s.pfMult gs h) ++ [byte (s.product mode)]

/-! ### Modes -/

/-- READ_TEMPLATE (R141, R190): 37 bytes. -/
def Template.bytes (id : Nat) (t : Template) : List Byte :=
  [byte id, nameByte Stacking.names t.stacking, nameByte Scope.names t.scope, byte t.multiplier, byte t.goal] ++
    bytes16 t.initialTimer ++ bcdBytes 4 t.jackpotBase ++ bcdBytes 4 t.jackpotStep ++ bcdBytes 4 t.jackpotMax ++
    bcdBytes 4 t.hurryStart ++ bcdBytes 4 t.hurryStep ++ bcdBytes 4 t.hurryFloor ++ bytes16 t.hurryPeriod ++
    [byte t.completionPct, flagByte t.endOnDrain, flagByte t.endOnTilt, byte t.next]

/-- READ_MODE (R160, R190): 67 bytes. -/
def contextBody (g : Page) (position : Nat) (c : Context) (r : RunState) : List Byte :=
  let t := c.tpl
  [byte c.id, nameByte Stacking.names t.stacking, nameByte Scope.names t.scope, byte t.multiplier, byte t.goal,
    byte c.progress, flagByte c.paused, nameByte RunState.names r, flagByte c.timed] ++
    bytes16 c.timer ++ bcdBytes 4 t.jackpotBase ++ bcdBytes 4 t.jackpotStep ++ bcdBytes 4 t.jackpotMax ++
    bcdBytes 4 c.jackpot ++ bcdBytes 4 t.hurryStart ++ bcdBytes 4 t.hurryStep ++ bcdBytes 4 t.hurryFloor ++
    bytes16 t.hurryPeriod ++ bytes16 c.hurryRemaining ++ bcdBytes 4 c.hurry ++
    [byte t.completionPct, flagByte t.endOnDrain, flagByte t.endOnTilt, byte t.next] ++ bcdBytes 6 c.total ++
    [byte position, byte g.stack.length] ++ g.last.bytes

/-! ### Session, notices, options, capability -/

/-- READ_SESSION (R172). -/
def State.sessionBody (s : State) : List Byte :=
  let r := s.session
  [nameByte SessionState.names r.state, byte r.players, byte r.current.val, nameByte TiltStatus.names r.tilt,
    byte r.warnings] ++ r.swing.bytes ++
    [byte s.options.tiltLimit, byte s.options.swingWindow, nameByte PlayPhase.names s.acct.phase]

/-- READ_NOTICES (R182): 12 bytes. -/
def State.noticesBody (s : State) : List Byte :=
  let n := s.notices
  setBytes 3 n.pending.toNat ++ setBytes 3 n.enable.toNat ++ setBytes 3 n.route.toNat ++
    [nameByte LinkCause.names s.link.lastCause, byte s.link.errorCount, byte (setOfFlags [n.attnA, n.attnB])]

/-- The game options record (R185, R190): 18 bytes. -/
def Options.bytes (o : Options) : List Byte :=
  [nameByte Arbitration.names o.arbitration, byte o.ejectPriority, byte o.searchPriority, byte o.directPriority,
    byte o.groupGap] ++ bytes16 o.pfMultTime ++ bytes16 o.multiballSave ++
    [byte o.graceTime, byte o.saveLimit, byte o.searchDelay, byte o.searchSpacing, byte o.roundLimit,
      byte o.slowInterval, byte o.tiltLimit, byte o.swingWindow, nameByte ScorePolicy.names o.policy]

/-- READ_CAPABILITY (R187, R190): the 45 bytes of the capability record. -/
def capabilityBody : List Byte :=
  [0x42, 0x72, 0x65, 0x7A, 0x6B, 0x61, 0x6E, 0x20] ++ [0x4B, 0x6F, 0x76, 0x72, 0x61, 0x63, 0x20, 0x20] ++
    [0x4B, 0x56, 0x32, 0x34, 0x30, 0x38, 0x20, 0x20] ++
    [128, 16, 8, 24, 2, 8, 8, 8, 16, 16, 4, 63, 8, 32] ++ bytes16 256 ++ [22, 60, 1, 12, 8]

end Sys2Proof.Machine
end

