-- ==== Sys2Proof/Machine/DeviceRequests.lean ====
section
/-! DEFINITION. The requests of the Ball Device Controller (R19, R26, R38 to R42), with the accounting effects of R68 and
R70. -/

namespace Sys2Proof.Machine

/-! ### SET_DEVICE (R19) -/

/-- The fields of a SET_DEVICE body as its bytes carry them (R190). -/
structure DeviceFields where
  device   : Byte
  kind     : Byte
  capacity : Byte
  length   : Byte
  places   : List Byte
  entry    : Byte
  coil     : Byte
  target   : Byte
  settle   : Byte
  confirm  : Byte
  attempts : Byte
  flight   : Byte
  hold     : Byte
  policy   : Byte
  search   : Byte
  deriving DecidableEq, Repr

/-- Reads the 22 bytes of a SET_DEVICE body. -/
def deviceFields : List Byte → Option DeviceFields
  | [d, k, cap, len, p0, p1, p2, p3, p4, p5, p6, p7, en, co, ta, st, ct, ma, ft, ht, po, sf] =>
    some { device := d, kind := k, capacity := cap, length := len, places := [p0, p1, p2, p3, p4, p5, p6, p7],
           entry := en, coil := co, target := ta, settle := st, confirm := ct, attempts := ma, flight := ft,
           hold := ht, policy := po, search := sf }
  | _ => none

/-- The position switch bytes of the list; places beyond its length are disregarded (R190). -/
def DeviceFields.positions (f : DeviceFields) : List Byte := f.places.take f.length.toNat

/-- Whether the kind written is UNUSED, for which the checks on capacity, list, coil and target are skipped. -/
def DeviceFields.unused (f : DeviceFields) : Bool := nameOf DeviceKind.names f.kind == some .unused

/-- The capacity after replacement: SHOOTER, SAUCER and UNUSED have 1. -/
def DeviceFields.finalCapacity (f : DeviceFields) : Nat :=
  match nameOf DeviceKind.names f.kind with
  | some .trough => f.capacity.toNat
  | some .lock => f.capacity.toNat
  | _ => 1

/-- Whether a kind fits a device number. -/
def kindFits (d : DevNo) : DeviceKind → Bool
  | .trough => d == trough
  | .shooter => d == shooter
  | _ => decide (2 ≤ d.val)

/-- The entry byte names a switch above 127; FF means none and is not checked as a number (R189). -/
def DeviceFields.badEntry (f : DeviceFields) : Bool := f.entry != Config.noneByte && decide (128 ≤ f.entry.toNat)

/-- The checks of R19's table, in its order, on a device number in range; the first that applies gives the status. -/
def DeviceFields.check (f : DeviceFields) (d : DevNo) : Status :=
  let used := !f.unused
  if (used && f.positions.any (fun b => decide (128 ≤ b.toNat))) || f.badEntry then .notFound
  else if used && decide (24 ≤ f.coil.toNat) then .notFound
  else if used && f.target != Config.noneByte && decide (8 ≤ f.target.toNat) then .notFound
  else if !((nameOf DeviceKind.names f.kind).any (kindFits d)) then .badValue
  else if used && !(decide (1 ≤ f.finalCapacity) && decide (f.finalCapacity ≤ 8)) then .badValue
  else if used && (f.length.toNat != f.finalCapacity || !decide f.positions.Nodup || f.positions.contains f.entry) then
    .badValue
  else if used && (f.target == 0 || f.target == byte d.val) then .badValue
  else if f.settle == 0 || f.confirm == 0 || f.flight == 0 || f.attempts == 0 || decide (7 < f.attempts.toNat) then
    .badValue
  else .ok

/-- The bytes that R189 refuses and R19's table does not list. -/
def DeviceFields.encoded (f : DeviceFields) : Bool :=
  (nameOf LockPolicy.names f.policy).isSome && (flagOf f.search).isSome

/-- The eject coil stored; for kind UNUSED a byte that the skipped check would have refused gives a free value. -/
def DeviceFields.storedCoil (f : DeviceFields) : CoilNo := (indexOf 24 f.coil).getD (Config.unusedDeviceCoil f.coil)

/-- A number as an eject target; 8 and above stand for PLAYFIELD. -/
def targetOfNat (n : Nat) : Target := if h : n < 8 then .device ⟨n, h⟩ else .playfield

/-- The eject target stored; for kind UNUSED a byte that the skipped checks would have refused gives a free value. -/
def DeviceFields.storedTarget (f : DeviceFields) (d : DevNo) : Target :=
  if f.target = Config.noneByte then .playfield
  else if 8 ≤ f.target.toNat ∨ f.target = 0 ∨ f.target = byte d.val then
    targetOfNat (Config.unusedDeviceTarget f.target)
  else targetOfNat f.target.toNat

/-- The configuration part an accepted SET_DEVICE stores. -/
def DeviceFields.config (f : DeviceFields) (d : DevNo) : DeviceConfig :=
  { kind := (nameOf DeviceKind.names f.kind).getD .unused, configured := true, capacity := f.finalCapacity,
    positions := if f.unused then [] else f.positions.filterMap (indexOf 128),
    entry := if f.unused then none else indexOf 128 f.entry,
    coil := f.storedCoil, target := f.storedTarget d, settleTime := f.settle.toNat,
    confirmTimeout := f.confirm.toNat, maxAttempts := f.attempts.toNat, flightTime := f.flight.toNat,
    holdTime := f.hold.toNat, policy := (nameOf LockPolicy.names f.policy).getD .purge,
    searchFlag := (flagOf f.search).getD false }

/-- The lit locks and credits of a lock place become 0 in every page (R19, R92). -/
def clearLock (k : LockNo) (s : State) : State :=
  { s with pages := s.pages.map fun g => { g with lit := g.lit.set k 0, credits := g.credits.set k 0 } }

/-- SET_DEVICE (R19). -/
def setDevice (body : List Byte) (s : State) : State × Reply :=
  match deviceFields body with
  | none => refuse s .badValue
  | some f =>
    let owner : Status :=
      if s.devicesEnabled then .refusedState
      else match indexOf 8 f.device with
        | none => .notFound
        | some d => f.check d
    match withEncodingCheck f.encoded owner, indexOf 8 f.device with
    | .ok, some d =>
      let s := s.modDevice d fun v => { v with cfg := f.config d }
      ok (match lockNo d with | some k => clearLock k s | none => s) []
    | st, _ => refuse s st

/-! ### ENABLE_DEVICES (R40, R68) -/

/-- The sum of the accounted occupancies of all eight devices. -/
def State.occupancies (s : State) : Nat := ((indices 8).map fun d => s.devices[d].live.occupancy).sum

/-- Takes a surplus off the occupancies, from device 7 downward; each device lowered has its count-fault flag set
(R68). -/
def shedSurplus (surplus : Nat) (s : State) : State :=
  ((indices 8).reverse.foldl (fun (acc : State × Nat) d =>
    let o := acc.1.devices[d].live.occupancy
    let give := min o acc.2
    if give = 0 then acc
    else (acc.1.modLive d fun l => { l with occupancy := o - give, countFault := true }, acc.2 - give))
    (s, surplus)).1

/-- The installed, missing and live counts and the in-flight list from the occupancies and B (R68, R69). -/
def settleCounts (b : Nat) (s : State) : State :=
  let sum := s.occupancies
  if sum ≤ b then s.modAcct fun a => { a with installed := b, missing := b - sum, live := 0, flights := [] }
  else
    shedSurplus (sum - Config.maxInstalled)
      ((s.modAcct fun a =>
        { a with installed := min Config.maxInstalled sum, missing := 0, live := 0, flights := [] }).raise .extraBall)

/-- The accounting fields besides the counts, as R68 sets them: NO_PLAY, ball save OFF, the search IDLE, P 0. -/
def resetPlay (s : State) : State :=
  s.modAcct fun a =>
    { a with phase := .noPlay, serveLaunch := false, multiball := false, inPlay := 0, saveState := .off,
             saveTimer := .stopped, savesUsed := 0, search := .idle, round := 0, idleTimer := a.idleTimer.halt,
             searchTimer := a.searchTimer.halt, searchSlow := false, lastSearch := none }

/-- Whether two devices whose kind is not UNUSED name the same eject coil (R40). -/
def State.sharedCoil (s : State) : Bool :=
  (indices 8).any fun d => (indices 8).any fun e =>
    d != e && s.devices[d].cfg.kind != .unused && s.devices[e].cfg.kind != .unused &&
      s.devices[d].cfg.coil == s.devices[e].cfg.coil

/-- Whether a device whose kind is not UNUSED names as its eject target a device whose kind is UNUSED (R40). -/
def State.deadTarget (s : State) : Bool :=
  (indices 8).any fun d => s.devices[d].cfg.kind != .unused &&
    match s.devices[d].cfg.target with
    | .playfield => false
    | .device t => s.devices[t].cfg.kind == .unused

/-- The checks of R40 and then of R68 on B. -/
def State.enableCheck (s : State) (b : Nat) : Status :=
  if s.devicesEnabled then .refusedState
  else if !(s.devices[trough].cfg.configured && s.devices[shooter].cfg.configured) then .refusedState
  else if s.sharedCoil || s.deadTarget then .badValue
  else if b = 0 ∨ 8 < b then .badValue
  else .ok

/-- A SAUCER that holds a ball starts its hold timer; a hold time of 0 counts its owed eject at once (R37, R40). -/
def startHold (d : DevNo) (s : State) : State :=
  let v := s.devices[d]
  if v.cfg.holdTime = 0 then addOwedCount d s else s.modLive d fun l => { l with hold := .load v.cfg.holdTime }

/-- A device enters IDLE with its occupancy taken from its switches (R40). A SAUCER's hold starts here, before a surplus
above 16 is taken off, and stands if the surplus leaves the SAUCER empty (the model's choice, log 20). -/
def enableDevice (d : DevNo) (s : State) : State :=
  let v := s.devices[d]
  if v.cfg.kind = .unused then s
  else
    let c := s.closedCount d
    let s := s.modLive d fun _ => { DeviceLive.powerOn with state := .idle, occupancy := c }
    if v.cfg.kind = .saucer ∧ 1 ≤ c then startHold d s else s

/-- ENABLE_DEVICES (R40, R68). -/
def enableDevices (body : List Byte) (s : State) : State × Reply :=
  match body with
  | [b] =>
    match s.enableCheck b.toNat with
    | .ok =>
      let s := (indices 8).foldl (fun s d => enableDevice d s) s
      let s := resetPlay (settleCounts b.toNat s)
      ok ((indices 8).foldl (fun s d => takeOrder d s) s) []
    | st => refuse s st
  | _ => refuse s .badValue

/-! ### DISABLE_DEVICES (R41, R70) -/

/-- Each QUEUED or ACTIVE slot goes to IDLE with result CANCELLED. -/
def cancelSlots (s : State) : State :=
  (indices 8).foldl (fun s n => if s.slots[n].state = .idle then s else finishSlot n .cancelled s) s

/-- A device goes out of service: its coil request is withdrawn or ended, and its live part returns to DISABLED with
its timers stopped. -/
def disableDevice (d : DevNo) (s : State) : State :=
  let s := endRequest s.devices[d].cfg.coil d s
  s.modLive d fun l =>
    { DeviceLive.powerOn with settle := l.settle.halt, confirm := l.confirm.halt, hold := l.hold.halt }

/-- Disabling the devices, the accounting's part included. -/
def disableAll (s : State) : State :=
  let s := (indices 8).foldl (fun s d => disableDevice d s) (cancelSlots s)
  let s := resetPlay (endSearch s)
  holdTimers (s.modAcct fun a => { a with installed := 0, live := 0, missing := 0, flights := [] })

/-- DISABLE_DEVICES (R41, R70). -/
def disableDevices (_ : List Byte) (s : State) : State × Reply :=
  if s.isOpen then refuse s .refusedState else ok (disableAll s) []

/-! ### EJECT, CANCEL_EJECTS, CLEAR_JAM -/

/-- Issues a slot (R26). -/
def issueSlot (n : SlotNo) (d : DevNo) (count : Nat) (s : State) : State :=
  let issue := s.queuedCount d
  s.modSlot n fun _ =>
    { state := .queued, device := d, requested := min 8 count, ejected := 0, result := .none, issue := issue }

/-- EJECT (R26). -/
def eject (body : List Byte) (s : State) : State × Reply :=
  match body with
  | [d, count] =>
    match indexOf 8 d with
    | none => refuse s .notFound
    | some d =>
      if s.devices[d].live.state = .disabled then refuse s .refusedState
      else if count = 0 then refuse s .badValue
      else match s.idleSlot with
        | none => refuse s .refusedFull
        | some n => ok (takeOrder d (issueSlot n d count.toNat s)) [byte n.val]
  | _ => refuse s .badValue

/-- CANCEL_EJECTS (R38). -/
def cancel (body : List Byte) (s : State) : State × Reply :=
  match body with
  | [d, owed] =>
    let owner : Status := if (indexOf 8 d).isSome then .ok else .notFound
    match withEncodingCheck (flagOf owed).isSome owner, indexOf 8 d with
    | .ok, some d => ok (event (cancelEjects d (owed == 1)) s) []
    | st, _ => refuse s st
  | _ => refuse s .badValue

/-- Whether CLEAR_JAM is accepted for a device (R39). -/
def DeviceLive.clearable (l : DeviceLive) : Bool := l.state == .jammed || (l.state == .idle && l.countFault)

/-- CLEAR_JAM (R39). -/
def clearJamRequest (body : List Byte) (s : State) : State × Reply :=
  match body with
  | [d] =>
    match indexOf 8 d with
    | none => refuse s .notFound
    | some d =>
      if s.devices[d].live.clearable then ok (event (clearJam d) s) [] else refuse s .refusedState
  | _ => refuse s .badValue

/-! ### Reading -/

/-- READ_DEVICE (R42). -/
def readDevice (body : List Byte) (s : State) : State × Reply :=
  match body with
  | [d] => match indexOf 8 d with
    | none => refuse s .notFound
    | some d => ok s (s.deviceBody d)
  | _ => refuse s .badValue

/-- READ_SLOT (R42). -/
def readSlot (body : List Byte) (s : State) : State × Reply :=
  match body with
  | [n] => match indexOf 8 n with
    | none => refuse s .notFound
    | some n => ok s (s.slotBody n)
  | _ => refuse s .badValue

def execSetDevice (body : List Byte) (s : State) : Host.Outcome State Fault Refusal := request 22 body setDevice s
def execEnableDevices (body : List Byte) (s : State) : Host.Outcome State Fault Refusal :=
  request 1 body enableDevices s
def execDisableDevices (body : List Byte) (s : State) : Host.Outcome State Fault Refusal :=
  request 0 body disableDevices s
def execEject (body : List Byte) (s : State) : Host.Outcome State Fault Refusal := request 2 body eject s
def execCancelEjects (body : List Byte) (s : State) : Host.Outcome State Fault Refusal := request 2 body cancel s
def execClearJam (body : List Byte) (s : State) : Host.Outcome State Fault Refusal := request 1 body clearJamRequest s
def execReadDevice (body : List Byte) (s : State) : Host.Outcome State Fault Refusal := request 1 body readDevice s
def execReadSlot (body : List Byte) (s : State) : Host.Outcome State Fault Refusal := request 1 body readSlot s

end Sys2Proof.Machine
end

