-- ==== Sys2Proof/Machine/AccountingRequests.lean ====
section
/-! DEFINITION. The requests of the Ball Accounting Unit (R69, R73, R79, R84 to R86). -/

namespace Sys2Proof.Machine

/-! ### RECOUNT (R69) -/

/-- The checks of R69's table. -/
def State.recountCheck (s : State) (b : Nat) : Status :=
  if !s.devicesEnabled then .refusedState
  else if s.acct.phase = .play then .refusedState
  else if b = 0 ∨ 8 < b then .badValue
  else if (indices 8).any (fun d => s.devices[d].live.state == .ejecting || s.devices[d].live.state == .confirming) then
    .refusedBusy
  else .ok

/-- A device retakes its occupancy from its switches (R69). The hold timer goes by the occupancy the switches show, so a
SAUCER that the surplus above 16 empties afterwards keeps its hold or its owed eject (the model's choice, log 21). -/
def retakeDevice (d : DevNo) (s : State) : State :=
  let v := s.devices[d]
  if v.cfg.kind = .unused then s
  else
    let c := s.closedCount d
    let s := s.modLive d fun l =>
      { l with countFault := false, entriesSeen := 0, settle := l.settle.halt, occupancy := c }
    if v.cfg.kind ≠ .saucer then s
    else if c = 0 then s.modLive d fun l => { l with hold := l.hold.halt }
    else if v.live.occupancy = 0 ∧ c = 1 then startHold d s
    else s

/-- Whether a RECOUNT of the state adds an owed eject at a device: a SAUCER with hold time 0 whose occupancy rises from
0 to 1 (R37, R69). -/
def State.recountOwes (s : State) (d : DevNo) : Bool :=
  s.devices[d].cfg.kind == .saucer && s.devices[d].cfg.holdTime == 0 && s.devices[d].live.occupancy == 0 &&
    s.closedCount d == 1

/-- Each SAUCER at which the recount of `before` has added an owed eject, also one held at 8, looks for an order when it
is IDLE (R25, R27). -/
def retakeOrders (before s : State) : State :=
  (indices 8).foldl (fun s d => if before.recountOwes d then takeOrder d s else s) s

/-- RECOUNT (R69): every device retakes its occupancy, hold timers with it, before the counts are set and a surplus above
16 is taken off (log 21). -/
def recount (body : List Byte) (s : State) : State × Reply :=
  match body with
  | [b] =>
    match s.recountCheck b.toNat with
    | .ok =>
      ok (event (fun s =>
        let t := (indices 8).foldl (fun t d => retakeDevice d t) s
        retakeOrders s (settleCounts b.toNat t)) s) []
    | st => refuse s st
  | _ => refuse s .badValue

/-! ### SERVE (R73) -/

/-- The checks of R73's table. -/
def State.serveCheck (s : State) : Status :=
  if !s.isOpen then .refusedState
  else if s.acct.phase ≠ .noPlay ∧ s.acct.phase ≠ .ended then .refusedState
  else if 0 < s.acct.live ∨ s.acct.flights ≠ [] then .refusedBusy
  else if (indices 8).any (fun d => decide (0 < s.devices[d].live.owed)) ∨
      (indices 8).any (fun n => s.slots[n].state == .active) then .refusedBusy
  else if s.devices[shooter].live.occupancy = 0 ∧ s.devices[trough].live.occupancy = 0 then .refusedState
  else .ok

/-- What an accepted SERVE does up to its close. -/
def startBallInPlay (saveTime : Nat) (autoLaunch : Bool) (s : State) : State :=
  let s := s.modAcct fun a => { a with serveLaunch := autoLaunch }
  let s :=
    if 1 ≤ s.devices[shooter].live.occupancy then
      let s := setPhase .launchWait s
      if autoLaunch then addOwed shooter s else s
    else setPhase .serving (addOwed trough s)
  let s := { s with session := { s.session with tilt := .normal, warnings := 0 } }
  let s := setPfMult 1 0 s
  let s := if saveTime = 0 then saveOff s else saveActive saveTime s
  let s := s.modAcct fun a => { a with savesUsed := 0 }
  stopIdle (endSearch s)

/-- SERVE (R73). -/
def serve (body : List Byte) (s : State) : State × Reply :=
  match body with
  | [t1, t0, al] =>
    match withEncodingCheck (flagOf al).isSome s.serveCheck with
    | .ok => ok (event (startBallInPlay (word16 t1 t0) (al == 1)) s) []
    | st => refuse s st
  | _ => refuse s .badValue

/-! ### The other requests -/

/-- SET_BALL_SAVE (R79). -/
def setBallSave (body : List Byte) (s : State) : State × Reply :=
  match body with
  | [t1, t0] =>
    if s.acct.phase ≠ .play then refuse s .refusedState
    else if word16 t1 t0 = 0 then ok (saveOff s) []
    else ok (saveActive (word16 t1 t0) s) []
  | _ => refuse s .badValue

/-- START_SEARCH (R84). -/
def startSearchRequest (_ : List Byte) (s : State) : State × Reply :=
  if s.acct.phase ≠ .play then refuse s .refusedState
  else if s.acct.search ≠ .idle then refuse s .refusedBusy
  else ok (holdTimers (startSearch s)) []

/-- READ_FLIGHTS (R86). -/
def readFlights (body : List Byte) (s : State) : State × Reply :=
  match body with
  | [start] => if 15 < start.toNat then refuse s .badValue else ok s (s.flightsBody start.toNat)
  | _ => refuse s .badValue

def execRecount (body : List Byte) (s : State) : Host.Outcome State Fault Refusal := request 1 body recount s
def execServe (body : List Byte) (s : State) : Host.Outcome State Fault Refusal := request 3 body serve s
def execSetBallSave (body : List Byte) (s : State) : Host.Outcome State Fault Refusal := request 2 body setBallSave s
def execStartSearch (body : List Byte) (s : State) : Host.Outcome State Fault Refusal :=
  request 0 body startSearchRequest s

/-- READ_ACCOUNTING (R85). -/
def execReadAccounting (body : List Byte) (s : State) : Host.Outcome State Fault Refusal :=
  request 0 body (fun _ s => ok s s.accountingBody) s

def execReadFlights (body : List Byte) (s : State) : Host.Outcome State Fault Refusal := request 1 body readFlights s

end Sys2Proof.Machine
end

