-- ==== Sys2Proof/Machine/CoilRequests.lean ====
section
/-! DEFINITION. The requests of the Kick Arbiter (R46, R56, R57). -/

namespace Sys2Proof.Machine

/-- Whether a coil is the eject coil of a device in EJECTING or CONFIRMING. -/
def State.coilAtWork (s : State) (c : CoilNo) : Bool :=
  (indices 8).any fun d => s.devices[d].cfg.coil == c &&
    (s.devices[d].live.state == .ejecting || s.devices[d].live.state == .confirming)

/-- SET_COIL's checks on a coil number in range, in the order of R46's table. -/
def State.coilCheck (s : State) (c : CoilNo) (g pw pr rp rl : Byte) : Status :=
  if s.coils[c].live.state ≠ .idle ∨ s.coils[c].live.held ≠ none then .refusedBusy
  else if s.coilAtWork c then .refusedBusy
  else if (nameOf groupNames g).isNone ∨ (nameOf Profile.names pr).isNone then .badValue
  else if pw = 0 then .badValue
  else if nameOf Profile.names pr = some .repeating ∧ rp.toNat ≤ pw.toNat then .badValue
  else if rl = 0 ∨ 15 < rl.toNat then .badValue
  else .ok

/-- SET_COIL (R46). -/
def setCoil (body : List Byte) (s : State) : State × Reply :=
  match body with
  | [c, g, pw, rec, pr, rp, rl, hw, sf] =>
    let owner : Status :=
      match indexOf 24 c with
      | none => .notFound
      | some c => s.coilCheck c g pw pr rp rl
    match withEncodingCheck (flagOf sf).isSome owner, indexOf 24 c with
    | .ok, some c =>
      let cfg : CoilConfig :=
        { group := (nameOf groupNames g).getD .a, pulseWidth := pw.toNat, recovery := rec.toNat,
          profile := (nameOf Profile.names pr).getD .pulse, repeatPeriod := rp.toNat, repeatLimit := rl.toNat,
          holdWindow := hw.toNat, searchFlag := (flagOf sf).getD false }
      ok (s.modCoil c fun v => { v with cfg := cfg }) []
    | st, _ => refuse s st
  | _ => refuse s .badValue

/-- PULSE_COIL (R56): one DIRECT pulse of the given width. -/
def pulseCoil (body : List Byte) (s : State) : State × Reply :=
  match body with
  | [c, w] =>
    match indexOf 24 c with
    | none => refuse s .notFound
    | some c =>
      if w = 0 then refuse s .badValue
      else if s.coils[c].live.state ≠ .idle then refuse s .refusedBusy
      else if s.coilAtWork c then refuse s .refusedBusy
      else ok ((enterWaiting c .host .direct s).modCoilLive c fun l => { l with grantWidth := w.toNat }) []
  | _ => refuse s .badValue

/-- READ_COIL (R57). -/
def readCoil (body : List Byte) (s : State) : State × Reply :=
  match body with
  | [c] => match indexOf 24 c with
    | none => refuse s .notFound
    | some c => ok s (s.coilBody c)
  | _ => refuse s .badValue

def execSetCoil (body : List Byte) (s : State) : Host.Outcome State Fault Refusal := request 9 body setCoil s
def execPulseCoil (body : List Byte) (s : State) : Host.Outcome State Fault Refusal := request 2 body pulseCoil s
def execReadCoil (body : List Byte) (s : State) : Host.Outcome State Fault Refusal := request 1 body readCoil s

/-- READ_GROUPS (R57). -/
def execReadGroups (body : List Byte) (s : State) : Host.Outcome State Fault Refusal :=
  request 0 body (fun _ s => ok s s.groupsBody) s

end Sys2Proof.Machine
end

