-- ==== Sys2Proof/Machine/Router.lean ====
section
/-! DEFINITION. The Award Router (chapter 6): the windows, the dispatch of one award and the effect of each kind. -/

namespace Sys2Proof.Machine

/-! ### Windows (R108, R109) -/

/-- A switch number as the seven positions of a mask. -/
def switchBits (n : SwitchNo) : BitVec 7 := BitVec.ofNat 7 n.val

/-- Whether an edge filter admits a direction. -/
def EdgeFilter.admits : EdgeFilter → Direction → Bool
  | .close, d => d == .closing
  | .opening, d => d == .opening
  | .either, _ => true

/-- Whether a window hits a switch event: enabled, agreeing in every compared position, the direction admitted. -/
def Window.hits (w : Window) (n : SwitchNo) (d : Direction) : Bool :=
  w.enabled && (switchBits n &&& w.mask) == (w.base &&& w.mask) && w.filter.admits d

/-- The award index a window gives a switch: its target, combined with the free part when translate is 1. -/
def Window.awardIndex (w : Window) (n : SwitchNo) : BitVec 8 :=
  if w.translate then w.target ||| (switchBits n &&& ~~~w.mask).setWidth 8 else w.target

/-- The winning window of a switch event: the lowest index that hits. -/
def State.winningWindow (s : State) (n : SwitchNo) (d : Direction) : Option (Fin 32) :=
  (indices 32).find? fun i => s.windows[i].hits n d

/-! ### The effect of each kind (R114 to R117) -/

/-- Scores a value under M on the current page, and adds it to the scoped mode's total (R114, R126, R129). -/
def scoreAward (b m : Nat) (mode : Option Context) (s : State) : State :=
  let p := s.session.current
  let s := (addScore p (b * m) s).1
  match mode with
  | some c => addTotal p c.id (b * m) s
  | none => s

/-- ADVANCE: scores as POINTS, then one step of progress for the scoped mode (R114). -/
def awardAdvance (b m : Nat) (mode : Option Context) (s : State) : State :=
  let s := scoreAward b m mode s
  match mode with
  | some c => (advance s.session.current c.id 1 s).1
  | none => s

/-- JACKPOT_BUILD (R131). -/
def awardJackpotBuild (mode : Option Context) (s : State) : State :=
  match mode with
  | some c => modContext s.session.current c.id
      (fun x => { x with jackpot := min (x.jackpot + x.tpl.jackpotStep) x.tpl.jackpotMax }) s
  | none => s

/-- JACKPOT_COLLECT: the jackpot value scored under M, then set to the base (R115, R131). -/
def awardJackpotCollect (m : Nat) (mode : Option Context) (s : State) : State :=
  match mode with
  | some c => modContext s.session.current c.id (fun x => { x with jackpot := x.tpl.jackpotBase })
      (scoreAward c.jackpot m mode s)
  | none => s

/-- HURRY_COLLECT: the hurry value scored under M, then the mode completes (R115). -/
def awardHurryCollect (m : Nat) (mode : Option Context) (s : State) : State :=
  match mode with
  | some c =>
    let s := scoreAward c.hurry m mode s
    match contextOf s.page.stack c.id with
    | some (c, _) => (complete s.session.current c s).1
    | none => s
  | none => s

/-- START_MODE: a push of the argument's template; a refusal raises MODE_REFUSED (R116). -/
def awardStartMode (argument : Byte) (s : State) : State :=
  let (s, st) := push s.session.current argument.toNat s
  s.raiseIf (st != .ok) .modeRefused

/-- PF_MULT: one step of the playfield multiplier, its timer reloaded (R117, R134). -/
def awardPfMult (s : State) : State := setPfMult (min 9 (s.pfMult + 1)) s.options.pfMultTime s

/-- What an entry's kind does with the product M and the scoped mode (R114 to R117). -/
def kindEffect (e : AwardEntry) (m : Nat) (mode : Option Context) (s : State) : State :=
  match e.kind with
  | .points => scoreAward e.base m mode s
  | .advance => awardAdvance e.base m mode s
  | .jackpotBuild => awardJackpotBuild mode s
  | .jackpotCollect => awardJackpotCollect m mode s
  | .hurryCollect => awardHurryCollect m mode s
  | .lightLock => awardLightLock e.argument s
  | .startMode => awardStartMode e.argument s
  | .startMultiball => awardStartMultiball e.argument s
  | .pfMult => awardPfMult s
  | .notify => s

/-! ### Dispatch (R111 to R113) -/

/-- The notify step (R112). -/
def notifyStep (i : Fin 256) (s : State) : State :=
  if s.awards[i].notify then
    { s with awardHits := s.awardHits ||| (1#256 <<< i.val) }.raise .awardHit
  else s

/-- The dispatch of one award (R111): refused while the session is not OPEN or the game is tilted; then the notify
step, the scope test and the kind's effect, with M formed once from the stack as the dispatch found it. -/
def dispatch (i : Fin 256) (s : State) : State :=
  if !s.isOpen || s.isTilted then s
  else
    let e := s.awards[i]
    let mode := if e.scope = 0 then none else runningContext s.page.stack e.scope
    let m := s.product mode
    let s := notifyStep i s
    if e.scope ≠ 0 ∧ mode = none ∧ e.requiresRunning then s else kindEffect e m mode s

/-- A switch event (R108, R109). -/
def switchEvent (n : SwitchNo) (d : Direction) (s : State) : State :=
  match s.winningWindow n d with
  | none => s
  | some w => dispatch (s.windows[w].awardIndex n).toFin s

end Sys2Proof.Machine
end

