-- ==== Sys2Proof/Machine/Session.lean ====
section
/-! DEFINITION. The Session and Tilt Unit's events (chapter 9): tilt warnings, the tilt and the slam; and clearing a page
(R90). -/

namespace Sys2Proof.Machine

/-- Changes the session record. -/
def State.modSession (s : State) (f : Session → Session) : State := { s with session := f s.session }

/-- The tilt limit, a limit of 0 taken as 1 (R167). -/
def Options.limit (o : Options) : Nat := max 1 o.tiltLimit

/-- The tilt's effects (R168): TILTED raised, ball save OFF, the end-on-tilt modes ended; every timer that a tilted
game holds stands. -/
def tilt (s : State) : State := holdTimers (endOnTilt (saveOff (s.raise .tilted)))

/-- A counted warning (R167). -/
def countWarning (s : State) : State :=
  let w := s.session.warnings + 1
  let tilts : Bool := s.options.limit ≤ w
  let swing := if s.options.swingWindow = 0 then s.session.swing else .load s.options.swingWindow
  let s := (s.modSession fun r =>
    { r with warnings := w, tilt := if tilts then .tilted else .warned, swing := swing }).raise .tiltWarning
  if tilts then tilt s else s

/-- A tilt event (R167): counted when the session is OPEN, the game untilted and no swing window runs. -/
def tiltEvent (s : State) : State :=
  if s.isOpen && !s.isTilted && !s.session.swing.running then countWarning s else s

/-- A slam event (R170). -/
def slamEvent (s : State) : State :=
  if s.isOpen then
    event (fun s =>
      let s := (setPhase .ended (s.modSession fun r => { r with state := .closed })).raise .slam
      let s := (s.modLive trough fun l => { l with owed := 0 }).modLive shooter fun l => { l with owed := 0 }
      let s := saveOff (s.modAcct fun a => { a with multiball := false })
      closeModes (stopIdle (endSearch s))) s
  else s

/-- Clears a page (R90). -/
def clearPage (p : PlayerNo) (s : State) : State := s.modPage p fun _ => .clear

end Sys2Proof.Machine
end

