-- ==== Sys2Proof/Machine/Scan.lean ====
section
/-! DEFINITION. The Switch Matrix Scanner (chapter 1) and the ticks (spec/00_scope.md, "Time"): the frame count, the
timers of the three units, debounce, and the delivery of accepted edges. -/

namespace Sys2Proof.Machine

/-! ### Ticks -/

/-- A coil at the 1 ms tick: its timer unless it holds, and its age while it waits (R45, R49). -/
def Coil.tick1 (v : Coil) : Coil :=
  match v.live.state with
  | .waiting =>
    if v.live.ageDue then v
    else if 7 ≤ v.live.age then { v with live := { v.live with ageDue := true } }
    else { v with live := { v.live with age := v.live.age + 1 } }
  | .holding => v
  | _ => { v with live := { v.live with timer := v.live.timer.tick } }

/-- The timers in 1 ms units decrement: coils and group gaps. -/
def tick1 (s : State) : State :=
  { s with coils := s.coils.map Coil.tick1,
           groupA := { s.groupA with gap := s.groupA.gap.tick },
           groupB := { s.groupB with gap := s.groupB.gap.tick } }

/-- A device at the 10 ms tick: settle, confirm and hold timers (R20, R33, R37). -/
def Device.tick10 (v : Device) : Device :=
  { v with live := { v.live with settle := v.live.settle.tick, confirm := v.live.confirm.tick,
                                 hold := v.live.hold.tick } }

/-- A coil at the 10 ms tick: the hold window of a HOLDING coil (R53). -/
def Coil.tick10 (v : Coil) : Coil :=
  if v.live.state = .holding then { v with live := { v.live with timer := v.live.timer.tick } } else v

/-- A RUNNING context of the counted stack at the 10 ms tick (R146): its timer and its hurry period. -/
def Context.tick10 (c : Context) : Context :=
  let c :=
    if !c.timed || c.timerDue then c
    else if c.timer ≤ 1 then { c with timerDue := true } else { c with timer := c.timer - 1 }
  if !c.hurryRuns || c.hurryDue then c
  else if c.hurryRemaining ≤ 1 then { c with hurryDue := true }
  else { c with hurryRemaining := c.hurryRemaining - 1 }

/-- A stack at the 10 ms tick: its RUNNING contexts count. -/
def tickStack (stack : List Context) : List Context :=
  (derived stack).map fun x => if x.2 = .running then x.1.tick10 else x.1

/-- The timers in 10 ms units decrement, each while its counting condition holds. -/
def tick10 (s : State) : State :=
  { s with
    devices := s.devices.map Device.tick10,
    coils := s.coils.map Coil.tick10,
    acct := { s.acct with
      saveTimer := if s.saveCounts then s.acct.saveTimer.tick else s.acct.saveTimer,
      searchTimer := if s.acct.searchSlow then s.acct.searchTimer else s.acct.searchTimer.tick },
    session := { s.session with swing := s.session.swing.tick },
    pages := if s.modesCount then
        s.pages.set s.session.current { s.page with stack := tickStack s.page.stack }
      else s.pages,
    pfTimer := if s.pfCounts && decide (2 ≤ s.pfTimer) then s.pfTimer - 1 else s.pfTimer,
    pfDue := s.pfDue || (s.pfCounts && s.pfTimer == 1) }

/-- An in-flight record at the 100 ms tick (R64). -/
def FlightRec.tick (r : FlightRec) : FlightRec :=
  if r.due then r else if r.remaining ≤ 1 then { r with due := true } else { r with remaining := r.remaining - 1 }

/-- The timers in 100 ms units decrement, each while its counting condition holds. -/
def tick100 (s : State) : State :=
  s.modAcct fun a =>
    { a with
      flights := a.flights.map FlightRec.tick,
      idleTimer := if s.idleCounts then a.idleTimer.tick else a.idleTimer,
      searchTimer := if a.searchSlow then a.searchTimer.tick else a.searchTimer }

/-- The start of a scan frame: the frame count rises, and the ticks that fall on this frame are taken. -/
def startFrame (s : State) : State :=
  let phase := (s.tickPhase + 1) % 100
  let s := tick1 { s with frameCount := s.frameCount + 1, tickPhase := phase }
  let s := if phase % 10 = 0 then tick10 s else s
  if phase = 0 then tick100 s else s

/-! ### Debounce (R3, R4) -/

/-- The level of a raw reading. -/
def levelOf (closed : Bool) : Level := if closed then .closed else .opened

/-- One switch in one frame: its record after it, and the edge accepted in it. -/
def SwitchRec.debounce (r : SwitchRec) (closed : Bool) (stamp : Stamp) : SwitchRec × Option Direction :=
  if levelOf closed = r.level then ({ r with pendingFrames := 0 }, none)
  else
    let threshold := if closed then r.closeDebounce else r.openDebounce
    if r.pendingFrames + 1 < threshold then ({ r with pendingFrames := r.pendingFrames + 1 }, none)
    else if closed then ({ r with pendingFrames := 0, level := .closed, lastClose := stamp }, some .closing)
    else ({ r with pendingFrames := 0, level := .opened, lastOpen := stamp }, some .opening)

/-- Debounces every switch with the frame's raw readings. -/
def debounceAll (raw : BitVec 128) (s : State) : State :=
  { s with switches := Vector.ofFn fun n : Fin 128 =>
      (s.switches[n].debounce (raw.getLsbD n.val) s.frameCount).1 }

/-- The edges accepted in the frame, in ascending switch number (R10). -/
def acceptedEdges (raw : BitVec 128) (s : State) : List (SwitchNo × Direction) :=
  (indices 128).filterMap fun n =>
    ((s.switches[n].debounce (raw.getLsbD n.val) s.frameCount).2).map fun d => (n, d)

/-! ### Delivery (R5 to R10, R20) -/

/-- Whether an edge selection passes a direction (R5). -/
def EdgeSelection.passes : EdgeSelection → Direction → Bool
  | .none, _ => false
  | .close, d => d == .closing
  | .opening, d => d == .opening
  | .both, _ => true

/-- An edge at a device that names the switch (R20): every edge of a position switch and every closing edge of the
entry switch restart the settle timer; a closing edge of the entry switch raises entries seen. -/
def deviceEdge (n : SwitchNo) (d : Direction) (dev : DevNo) (s : State) : State :=
  let v := s.devices[dev]
  let entry : Bool := v.cfg.entry = some n ∧ d = .closing
  if v.live.state = .disabled then s
  else
    let s := if entry then s.modLive dev fun l => { l with entriesSeen := min 255 (l.entriesSeen + 1) } else s
    if entry || v.cfg.positions.contains n then restartSettle dev s else s

/-- Delivers an edge to every device that names the switch, in ascending device number (R6). -/
def deviceEdges (n : SwitchNo) (d : Direction) (s : State) : State :=
  (indices 8).foldl (fun s dev => deviceEdge n d dev s) s

/-- The delivery that edge selection gates (R5, R9): the activity flag, SWITCH_ACTIVITY and the Award Router. -/
def passEdge (n : SwitchNo) (d : Direction) (s : State) : State :=
  switchEvent n d ({ s with activity := s.activity ||| (1#128 <<< n.val) }.raise .switchActivity)

/-- Delivers one accepted edge to its receivers, in the order of R10. -/
def deliverEdge (e : SwitchNo × Direction) (s : State) : State :=
  let r := s.switches[e.1]
  if r.cls = .unused then s
  else
    let s := deviceEdges e.1 e.2 s
    let s := if r.cls = .playfield then playfieldActivity s else s
    let s := if r.cls = .tilt ∧ e.2 = .closing then tiltEvent s else s
    let s := if r.cls = .slam ∧ e.2 = .closing then slamEvent s else s
    if r.selection.passes e.2 then passEdge e.1 e.2 s else s

/-- Reads and debounces every switch, and delivers the accepted edges in ascending switch number. -/
def readSwitches (raw : BitVec 128) (s : State) : State :=
  (acceptedEdges raw s).foldl (fun s e => deliverEdge e s) (debounceAll raw s)

/-! ### The events of the part -/

/-- What each event does when it is taken; one that is not due does not occur and changes nothing. -/
def take : Event → State → State
  | .evaluation d => takeEvaluation d
  | .confirmTimer d => takeConfirmTimerExpiry d
  | .saucerHold d => takeSaucerHoldExpiry d
  | .grant g => takeGrant g
  | .priorityAging c => takePriorityAging c
  | .pulseEnd c => takePulseEnd c
  | .holdWindow c => takeHoldWindowExpiry c
  | .interval c => takeIntervalExpiry c
  | .recovery c => takeRecoveryExpiry c
  | .gap g => takeGapExpiry g
  | .flight i => takeFlightExpiry i
  | .saveTimer => takeSaveTimerExpiry
  | .idleTimer => takeIdleTimerExpiry
  | .searchTimer => takeSearchTimerExpiry
  | .pfMultTimer => takePfMultTimerExpiry
  | .modeTimer id => takeModeTimerExpiry id
  | .hurryPeriod id => takeHurryPeriodExpiry id
  | .swingTimer => takeSwingTimerExpiry

/-- SCAN_FRAME: the start of the frame, the events taken before its readings, and the readings. -/
def scanFrame (raw : BitVec 128) (early : List Event) (s : State) : State :=
  readSwitches raw (early.foldl (fun s e => take e s) (startFrame s))

end Sys2Proof.Machine
end

