-- ==== Sys2Proof/Machine/Events.lean ====
section
/-! DEFINITION. The meanings of the events: power-on reset, the scan frame, the expiries and the grant. An event whose
timer is not due, or whose grant finds no FREE group with a waiting coil, does not occur and changes nothing. -/

namespace Sys2Proof.Machine

/-- POWER_ON_RESET (R59 and the reset rule of every chapter): every record at its power-on value. The queue of waiting
commands and the model's counter of free values are no records of the part. -/
def execPowerOnReset (s : State) : Host.Outcome State Fault Refusal :=
  .next { State.reset with pending := s.pending, freeIndex := s.freeIndex }

def execScanFrame (raw : BitVec 128) (early : List Event) (s : State) : Host.Outcome State Fault Refusal :=
  .next (scanFrame raw early s)
def execEvaluation (d : DevNo) (s : State) : Host.Outcome State Fault Refusal := .next (takeEvaluation d s)
def execConfirmTimerExpiry (d : DevNo) (s : State) : Host.Outcome State Fault Refusal :=
  .next (takeConfirmTimerExpiry d s)
def execSaucerHoldExpiry (d : DevNo) (s : State) : Host.Outcome State Fault Refusal := .next (takeSaucerHoldExpiry d s)
def execGrant (g : Group) (s : State) : Host.Outcome State Fault Refusal := .next (takeGrant g s)
def execPriorityAging (c : CoilNo) (s : State) : Host.Outcome State Fault Refusal := .next (takePriorityAging c s)
def execPulseEnd (c : CoilNo) (s : State) : Host.Outcome State Fault Refusal := .next (takePulseEnd c s)
def execHoldWindowExpiry (c : CoilNo) (s : State) : Host.Outcome State Fault Refusal := .next (takeHoldWindowExpiry c s)
def execIntervalExpiry (c : CoilNo) (s : State) : Host.Outcome State Fault Refusal := .next (takeIntervalExpiry c s)
def execRecoveryExpiry (c : CoilNo) (s : State) : Host.Outcome State Fault Refusal := .next (takeRecoveryExpiry c s)
def execGapExpiry (g : Group) (s : State) : Host.Outcome State Fault Refusal := .next (takeGapExpiry g s)
def execFlightExpiry (position : Nat) (s : State) : Host.Outcome State Fault Refusal :=
  .next (takeFlightExpiry position s)
def execSaveTimerExpiry (s : State) : Host.Outcome State Fault Refusal := .next (takeSaveTimerExpiry s)
def execIdleTimerExpiry (s : State) : Host.Outcome State Fault Refusal := .next (takeIdleTimerExpiry s)
def execSearchTimerExpiry (s : State) : Host.Outcome State Fault Refusal := .next (takeSearchTimerExpiry s)
def execPfMultTimerExpiry (s : State) : Host.Outcome State Fault Refusal := .next (takePfMultTimerExpiry s)
def execModeTimerExpiry (modeId : Nat) (s : State) : Host.Outcome State Fault Refusal :=
  .next (takeModeTimerExpiry modeId s)
def execHurryPeriodExpiry (modeId : Nat) (s : State) : Host.Outcome State Fault Refusal :=
  .next (takeHurryPeriodExpiry modeId s)
def execSwingTimerExpiry (s : State) : Host.Outcome State Fault Refusal := .next (takeSwingTimerExpiry s)

end Sys2Proof.Machine
end

