-- ==== Sys2Proof/Machine/LinkRequests.lean ====
section
/-! DEFINITION. The requests of the Link Interface (R182 to R187) and the frames that are no request (R176 to R179). -/

namespace Sys2Proof.Machine

/-! ### Notices -/

/-- The 22-member set three bytes carry; bits that name no member are disregarded (R189). -/
def noticeSet (bs : List Byte) : BitVec 22 := BitVec.ofNat 22 (setValue bs)

/-- CLEAR_NOTICES (R183). -/
def clearNotices (body : List Byte) (s : State) : State × Reply :=
  let set := noticeSet body
  let t := { s with notices := { s.notices with pending := s.notices.pending &&& ~~~set } }
  let t := if set.getLsbD Notice.linkError.position then t.modLink fun l => { l with errorCount := 0 } else t
  ok t (setBytes 3 s.notices.pending.toNat)

/-- SET_NOTICE_ENABLE (R184). -/
def setNoticeEnable (body : List Byte) (s : State) : State × Reply :=
  ok { s with notices := { s.notices with enable := noticeSet body } } []

/-- SET_NOTICE_ROUTE (R184). -/
def setNoticeRoute (body : List Byte) (s : State) : State × Reply :=
  ok { s with notices := { s.notices with route := noticeSet body } } []

/-! ### Game options (R186) -/

/-- The options an accepted SET_GAME_OPTIONS stores, after clamping; none where R186 refuses a value. -/
def optionsOf : List Byte → Option Options
  | [ar, ep, sp, dp, gg, p1, p0, m1, m0, gt, sl, sd, ss, rl, si, tl, sw, po] =>
    match nameOf Arbitration.names ar, nameOf ScorePolicy.names po with
    | some ar, some po =>
      if 15 < sl.toNat then none
      else some
        { arbitration := ar, ejectPriority := min 15 ep.toNat, searchPriority := min 15 sp.toNat,
          directPriority := min 15 dp.toNat, groupGap := gg.toNat, pfMultTime := word16 p1 p0,
          multiballSave := word16 m1 m0, graceTime := gt.toNat, saveLimit := sl.toNat,
          searchDelay := max 10 sd.toNat, searchSpacing := max 1 ss.toNat, roundLimit := min 8 (max 1 rl.toNat),
          slowInterval := max 1 si.toNat, tiltLimit := min 9 (max 1 tl.toNat), swingWindow := sw.toNat,
          policy := po }
    | _, _ => none
  | _ => none

/-- SET_GAME_OPTIONS (R186): the reply carries the record as stored. -/
def setGameOptions (body : List Byte) (s : State) : State × Reply :=
  if s.isOpen then refuse s .refusedState
  else match optionsOf body with
    | none => refuse s .badValue
    | some o => ok { s with options := o } o.bytes

/-- READ_NOTICES (R182). -/
def execReadNotices (body : List Byte) (s : State) : Host.Outcome State Fault Refusal :=
  request 0 body (fun _ s => ok s s.noticesBody) s

def execClearNotices (body : List Byte) (s : State) : Host.Outcome State Fault Refusal := request 3 body clearNotices s
def execSetNoticeEnable (body : List Byte) (s : State) : Host.Outcome State Fault Refusal :=
  request 3 body setNoticeEnable s
def execSetNoticeRoute (body : List Byte) (s : State) : Host.Outcome State Fault Refusal :=
  request 3 body setNoticeRoute s
def execSetGameOptions (body : List Byte) (s : State) : Host.Outcome State Fault Refusal :=
  request 18 body setGameOptions s

/-- READ_GAME_OPTIONS (R186). -/
def execReadGameOptions (body : List Byte) (s : State) : Host.Outcome State Fault Refusal :=
  request 0 body (fun _ s => ok s s.options.bytes) s

/-- READ_CAPABILITY (R187). -/
def execReadCapability (body : List Byte) (s : State) : Host.Outcome State Fault Refusal :=
  request 0 body (fun _ s => ok s capabilityBody) s

/-! ### Frames that are no request -/

/-- A fetch (R177): filler during its three bytes, then the waiting reply, or NO_REPLY, then filler. A reply whose CRC
byte has been shifted out complete is gone and RDY inactive; one cut short stays waiting. -/
def fetch (clocked : Nat) (s : State) : State :=
  let out := (s.link.waiting.getD (.plain .noReply)).bytes
  s.modLink fun l =>
    { l with
      shifted := List.replicate 3 Config.filler ++ out.take clocked ++
        List.replicate (clocked - out.length) Config.filler,
      waiting := if out.length ≤ clocked then none else l.waiting }

/-- FETCH. -/
def execFetch (clocked : Nat) (s : State) : Host.Outcome State Fault Refusal :=
  .next (frame (clocked + 3) (fetch clocked) s)

/-- BAD_FRAME (R176): the cause is the first check the frame fails. Bytes that fail none are no bad frame, and the
event does not occur. -/
def execBadFrame (bytes : List Byte) (s : State) : Host.Outcome State Fault Refusal :=
  match frameCause bytes with
  | some c => .next (frame bytes.length (badFrame bytes.length c) s)
  | none => .next s

/-- OVERRUN (R179): decided at the falling edge of CSn, so also taken when the execution has ended before the frame. -/
def execOverrun (clocked : Nat) (s : State) : Host.Outcome State Fault Refusal :=
  if clocked = 0 then .next s else .next (overrunFrame clocked s)

/-- UNKNOWN_REQUEST (R178): an execution whose answer is UNKNOWN_REQUEST, and nothing executed. A code that names a
request is no unknown request, and the event does not occur. -/
def execUnknownRequest (code : Byte) (body : List Byte) (s : State) : Host.Outcome State Fault Refusal :=
  if isUnknown code body then
    .next (frame (body.length + 3) (fun s =>
      if Config.maxBody < body.length then badFrame (body.length + 3) .badLength s
      else prepare (.plain .unknownRequest) (beginExecution (body.length + 3) s)) s)
  else .next s

/-- EXECUTION_END (R178): the reply is stored and RDY goes active. With no request executing nothing ends. -/
def execExecutionEnd (s : State) : Host.Outcome State Fault Refusal :=
  match s.link.executing with
  | some r => .next (s.modLink fun l => { l with executing := none, waiting := some r })
  | none => .next s

end Sys2Proof.Machine
end

