-- ==== Sys2Proof/Machine/LockRequests.lean ====
section
/-! DEFINITION. The requests of the Lock and Page Unit (R93, R100, R105, R106). -/

namespace Sys2Proof.Machine

/-- The host form of LIGHT_LOCK (R93). -/
def lightLockRequest (body : List Byte) (s : State) : State × Reply :=
  match body with
  | [d, n] =>
    match indexOf 8 d with
    | none => refuse s .notFound
    | some d =>
      if !s.isOpen then refuse s .refusedState
      else match s.lockOf d with
        | none => refuse s .badValue
        | some k =>
          if n = 0 then refuse s .badValue
          else
            let lit := min n.toNat (s.lockRoom d k)
            let t := lightLock d k n.toNat s
            ok t [byte t.page.lit[k], byte (n.toNat - lit)]
  | _ => refuse s .badValue

/-- The host form of START_MULTIBALL (R100, R103). -/
def startMultiballRequest (body : List Byte) (s : State) : State × Reply :=
  match body with
  | [target, mask, t1, t0] =>
    if !s.multiballAccepted then refuse s .refusedState
    else
      let (t, r) := startMultiball target.toNat mask (word16 t1 t0) s
      ok t [byte r.target, byte r.lockBalls, byte r.deficits, byte r.extra, byte r.added]
  | _ => refuse s .badValue

/-- READ_PLAYER (R105). -/
def readPlayer (body : List Byte) (s : State) : State × Reply :=
  match body with
  | [p] => match indexOf 4 p with
    | none => refuse s .notFound
    | some p => ok s (s.playerBody p)
  | _ => refuse s .badValue

def execLightLock (body : List Byte) (s : State) : Host.Outcome State Fault Refusal := request 2 body lightLockRequest s
def execStartMultiball (body : List Byte) (s : State) : Host.Outcome State Fault Refusal :=
  request 4 body startMultiballRequest s
def execReadPlayer (body : List Byte) (s : State) : Host.Outcome State Fault Refusal := request 1 body readPlayer s

/-- READ_LOCKS (R106). -/
def execReadLocks (body : List Byte) (s : State) : Host.Outcome State Fault Refusal :=
  request 0 body (fun _ s => ok s s.locksBody) s

end Sys2Proof.Machine
end

