-- ==== Sys2Proof/Machine/ModeRequests.lean ====
section
/-! DEFINITION. The requests of the Mode Stack Engine (R141, R155 to R160). -/

namespace Sys2Proof.Machine

/-! ### SET_TEMPLATE (R141) -/

/-- The fields of a SET_TEMPLATE body as its bytes carry them (R190). -/
structure TemplateFields where
  id        : Byte
  stacking  : Byte
  scope     : Byte
  mult      : Byte
  goal      : Byte
  timer     : Nat
  jackpots  : List Byte
  hurries   : List Byte
  period    : Nat
  pct       : Byte
  onDrain   : Byte
  onTilt    : Byte
  next      : Byte
  deriving DecidableEq, Repr

/-- Reads the 37 bytes of a SET_TEMPLATE body: `jackpots` holds base, step and maximum, `hurries` start, step and
floor, four bytes each. -/
def templateFields : List Byte → Option TemplateFields
  | id :: st :: sc :: mu :: go :: t1 :: t0 :: rest =>
    match rest.drop 24 with
    | [p1, p0, pct, dr, ti, nx] =>
      some { id := id, stacking := st, scope := sc, mult := mu, goal := go, timer := word16 t1 t0,
             jackpots := rest.take 12, hurries := (rest.drop 12).take 12, period := word16 p1 p0, pct := pct,
             onDrain := dr, onTilt := ti, next := nx }
    | _ => none
  | _ => none

/-- The k-th four-byte value of a run of them. -/
def value4 (bs : List Byte) (k : Nat) : Nat := bcdValue ((bs.drop (4 * k)).take 4)

/-- The template a SET_TEMPLATE stores: clamped, and without a hurry-up when the hurry start is 0. -/
def TemplateFields.template (f : TemplateFields) : Template :=
  let start := value4 f.hurries 0
  { stacking := (nameOf Stacking.names f.stacking).getD .exclusive, scope := (nameOf Scope.names f.scope).getD .localScope,
    multiplier := min 9 (max 1 f.mult.toNat), goal := f.goal.toNat, initialTimer := f.timer,
    jackpotBase := value4 f.jackpots 0, jackpotStep := value4 f.jackpots 1, jackpotMax := value4 f.jackpots 2,
    hurryStart := start, hurryStep := if start = 0 then 0 else value4 f.hurries 1,
    hurryFloor := if start = 0 then 0 else value4 f.hurries 2, hurryPeriod := if start = 0 then 0 else f.period,
    completionPct := min 100 f.pct.toNat, endOnDrain := f.onDrain == 1, endOnTilt := f.onTilt == 1,
    next := f.next.toNat }

/-- The checks of R141's table; a digit above 9 is answered before the owner's checks (R178, R189). -/
def TemplateFields.check (f : TemplateFields) : Status :=
  if !(bcdValid f.jackpots && bcdValid f.hurries) then .badValue
  else if f.id = 0 ∨ 63 < f.id.toNat then .notFound
  else if (nameOf Stacking.names f.stacking).isNone ∨ (nameOf Scope.names f.scope).isNone then .badValue
  else if (flagOf f.onDrain).isNone ∨ (flagOf f.onTilt).isNone then .badValue
  else if 63 < f.next.toNat then .badValue
  else if value4 f.jackpots 2 < value4 f.jackpots 0 then .badValue
  else if 0 < value4 f.hurries 0 ∧ value4 f.hurries 0 < value4 f.hurries 2 then .badValue
  else if 0 < value4 f.hurries 0 ∧ f.period = 0 then .badValue
  else .ok

/-- Writes a template for an id 1 to 63. -/
def putTemplate (id : Nat) (t : Template) (s : State) : State :=
  if h : 1 ≤ id ∧ id ≤ 63 then { s with templates := s.templates.set (id - 1) (some t) } else s

/-- SET_TEMPLATE (R141). -/
def setTemplate (body : List Byte) (s : State) : State × Reply :=
  match templateFields body with
  | none => refuse s .badValue
  | some f =>
    match f.check with
    | .ok => ok (putTemplate f.id.toNat f.template s) []
    | st => refuse s st

/-- READ_TEMPLATE (R141). -/
def readTemplate (body : List Byte) (s : State) : State × Reply :=
  match body with
  | [id] => match s.template id.toNat with
    | none => refuse s .notFound
    | some t => ok s (t.bytes id.toNat)
  | _ => refuse s .badValue

/-! ### PUSH_MODE and the requests that address a context (R155 to R159) -/

/-- The derived state of a context after a request. -/
def State.runStateOf (s : State) (id : Nat) : RunState := ((contextOf s.page.stack id).map (·.2)).getD .running

/-- PUSH_MODE (R155). -/
def pushMode (body : List Byte) (s : State) : State × Reply :=
  match body with
  | [id] =>
    match push s.session.current id.toNat s with
    | (t, .ok) => ok t [byte s.page.stack.length, nameByte RunState.names (t.runStateOf id.toNat),
        byte t.page.stack.length]
    | (_, st) => refuse s st
  | _ => refuse s .badValue

/-- The first checks of the requests that address one context, in their order (R155). -/
def withContext (id : Byte) (s : State) (f : Context → State × Reply) : State × Reply :=
  if !s.isOpen then refuse s .refusedState
  else match contextOf s.page.stack id.toNat with
    | none => refuse s .notFound
    | some (c, _) => f c

/-- RETIRE_MODE (R156). -/
def retireMode (body : List Byte) (s : State) : State × Reply :=
  match body with
  | [id] => withContext id s fun c =>
      let t := endContext s.session.current c.id .retired s
      ok t (bcdBytes 6 c.total ++ [byte t.page.stack.length])
  | _ => refuse s .badValue

/-- Sets or clears a context's paused flag and rederives the stack (R157). -/
def setPaused (id : Nat) (on : Bool) (s : State) : State :=
  holdTimers (modContext s.session.current id (fun c => { c with paused := on }) s)

/-- PAUSE_MODE and RESUME_MODE (R157). -/
def pauseRequest (on : Bool) (body : List Byte) (s : State) : State × Reply :=
  match body with
  | [id] => withContext id s fun c =>
      let t := setPaused c.id on s
      ok t [nameByte RunState.names (t.runStateOf c.id)]
  | _ => refuse s .badValue

/-- A context whose timer is raised; the expiry that may be due does not occur, and a time of 0 changes nothing
(R158). A timer whose expiry is due stands at 1, and the tick that made it due takes nothing off the sum (the model's
choice, log 36). -/
def Context.addTime (t : Nat) (c : Context) : Context :=
  if !c.timed || t == 0 then c
  else { c with timer := min Config.maxTime (c.timer + t), timerDue := false }

/-- ADD_MODE_TIME (R158). -/
def addModeTime (body : List Byte) (s : State) : State × Reply :=
  match body with
  | [id, t1, t0] => withContext id s fun c =>
      let t := word16 t1 t0
      ok (modContext s.session.current c.id (Context.addTime t) s) (bytes16 (c.addTime t).timer)
  | _ => refuse s .badValue

/-- The four things ADVANCE_MODE's reply carries, and the outcome of a chained push (R159). With no completion no
bonus has been added, and the result of its addition is a free value (log 11). -/
def advanceBody (free : Nat) (progress : Nat) : Option Completion → List Byte
  | none => [byte progress, flagByte false] ++ bcdBytes 6 0 ++ [Config.absentResult free]
  | some r => [byte progress, flagByte true] ++ bcdBytes 6 r.bonus ++ [nameByte ScoreResult.names r.result] ++
      match r.chain with
      | none => []
      | some (id, st) => [byte id, nameByte Status.names st]

/-- ADVANCE_MODE (R159). -/
def advanceMode (body : List Byte) (s : State) : State × Reply :=
  match body with
  | [id, n] => withContext id s fun c =>
      if n = 0 then refuse s .badValue
      else
        let (t, progress, r) := advance s.session.current c.id n.toNat s
        let t := if r.isNone then { t with freeIndex := t.freeIndex + 1 } else t
        ok t (advanceBody s.freeIndex progress r)
  | _ => refuse s .badValue

/-- READ_MODE (R160). -/
def readMode (body : List Byte) (s : State) : State × Reply :=
  match body with
  | [p, i] => match indexOf 4 p with
    | none => refuse s .notFound
    | some p => match (derived s.pages[p].stack)[i.toNat]? with
      | none => refuse s .notFound
      | some (c, r) => ok s (contextBody s.pages[p] i.toNat c r)
  | _ => refuse s .badValue

def execSetTemplate (body : List Byte) (s : State) : Host.Outcome State Fault Refusal := request 37 body setTemplate s
def execReadTemplate (body : List Byte) (s : State) : Host.Outcome State Fault Refusal := request 1 body readTemplate s
def execPushMode (body : List Byte) (s : State) : Host.Outcome State Fault Refusal := request 1 body pushMode s
def execRetireMode (body : List Byte) (s : State) : Host.Outcome State Fault Refusal := request 1 body retireMode s
def execPauseMode (body : List Byte) (s : State) : Host.Outcome State Fault Refusal :=
  request 1 body (pauseRequest true) s
def execResumeMode (body : List Byte) (s : State) : Host.Outcome State Fault Refusal :=
  request 1 body (pauseRequest false) s
def execAddModeTime (body : List Byte) (s : State) : Host.Outcome State Fault Refusal := request 3 body addModeTime s
def execAdvanceMode (body : List Byte) (s : State) : Host.Outcome State Fault Refusal := request 2 body advanceMode s
def execReadMode (body : List Byte) (s : State) : Host.Outcome State Fault Refusal := request 2 body readMode s

end Sys2Proof.Machine
end

