-- ==== Sys2Proof/Machine/RouterRequests.lean ====
section
/-! DEFINITION. The requests of the Award Router (R119 to R122). -/

namespace Sys2Proof.Machine

/-- SET_WINDOW (R119). -/
def setWindow (body : List Byte) (s : State) : State × Reply :=
  match body with
  | [i, en, base, mask, ef, tr, target] =>
    match indexOf 32 i with
    | none => refuse s .notFound
    | some i =>
      match flagOf en, flagOf tr, nameOf EdgeFilter.names ef with
      | some en, some tr, some ef =>
        if 127 < base.toNat ∨ 127 < mask.toNat then refuse s .badValue
        else
          let w : Window := { enabled := en, base := base.setWidth 7, mask := mask.setWidth 7, filter := ef,
                              translate := tr, target := target }
          ok { s with windows := s.windows.set i w } []
      | _, _, _ => refuse s .badValue
  | _ => refuse s .badValue

/-- SET_AWARD (R120); every byte is an award index. -/
def setAward (body : List Byte) (s : State) : State × Reply :=
  match body with
  | [i, kind, b3, b2, b1, b0, scope, rr, arg, nt] =>
    if !bcdValid [b3, b2, b1, b0] then refuse s .badValue
    else match nameOf AwardKind.names kind, flagOf rr, flagOf nt with
      | some kind, some rr, some nt =>
        if 63 < scope.toNat then refuse s .badValue
        else
          let e : AwardEntry := { kind := kind, base := bcdValue [b3, b2, b1, b0], scope := scope.toNat,
                                  requiresRunning := rr, argument := arg, notify := nt }
          ok { s with awards := s.awards.set i.toFin e } []
      | _, _, _ => refuse s .badValue
  | _ => refuse s .badValue

/-- READ_WINDOW (R122). -/
def readWindow (body : List Byte) (s : State) : State × Reply :=
  match body with
  | [i] => match indexOf 32 i with
    | none => refuse s .notFound
    | some i => ok s (s.windowBody i)
  | _ => refuse s .badValue

/-- READ_AWARD (R122). -/
def readAward (body : List Byte) (s : State) : State × Reply :=
  match body with
  | [i] => ok s (s.awardBody i.toFin)
  | _ => refuse s .badValue

def execSetWindow (body : List Byte) (s : State) : Host.Outcome State Fault Refusal := request 7 body setWindow s
def execSetAward (body : List Byte) (s : State) : Host.Outcome State Fault Refusal := request 10 body setAward s
def execReadWindow (body : List Byte) (s : State) : Host.Outcome State Fault Refusal := request 1 body readWindow s
def execReadAward (body : List Byte) (s : State) : Host.Outcome State Fault Refusal := request 1 body readAward s

/-- READ_AWARD_HITS (R121): the flags returned as set are cleared. -/
def execReadAwardHits (body : List Byte) (s : State) : Host.Outcome State Fault Refusal :=
  request 0 body (fun _ s => ok { s with awardHits := 0 } (setBytes 32 s.awardHits.toNat)) s

end Sys2Proof.Machine
end

