-- ==== Sys2Proof/Machine/ScannerRequests.lean ====
section
/-! DEFINITION. The requests of the scanner (R11 to R14). -/

namespace Sys2Proof.Machine

/-- Holds a debounce value to 1 to 15 (R11). -/
def clampDebounce (b : Byte) : Nat := min 15 (max 1 b.toNat)

/-- SET_SWITCH (R11). -/
def setSwitch (body : List Byte) (s : State) : State × Reply :=
  match body with
  | [n, cls, cd, od, sel] =>
    match indexOf 128 n with
    | none => refuse s .notFound
    | some n =>
      match nameOf SwitchClass.names cls, nameOf EdgeSelection.names sel with
      | some cls, some sel =>
        if cls = .unused ∧ s.devicesEnabled ∧ (indices 8).any (fun d => s.devices[d].names n) then
          refuse s .refusedState
        else
          let r := s.switches[n]
          let r := { r with cls := cls, closeDebounce := clampDebounce cd, openDebounce := clampDebounce od,
                            selection := sel, pendingFrames := 0 }
          ok { s with switches := s.switches.set n r } []
      | _, _ => refuse s .badValue
  | _ => refuse s .badValue

/-- READ_SWITCH (R12). -/
def readSwitch (body : List Byte) (s : State) : State × Reply :=
  match body with
  | [n] =>
    match indexOf 128 n with
    | none => refuse s .notFound
    | some n => ok s (s.switchBody n)
  | _ => refuse s .badValue

def execSetSwitch (body : List Byte) (s : State) : Host.Outcome State Fault Refusal := request 5 body setSwitch s

def execReadSwitch (body : List Byte) (s : State) : Host.Outcome State Fault Refusal := request 1 body readSwitch s

/-- READ_SWITCHES (R13). -/
def execReadSwitches (body : List Byte) (s : State) : Host.Outcome State Fault Refusal :=
  request 0 body (fun _ s => ok s s.levelsBody) s

/-- READ_ACTIVITY (R14): the flags returned as set are cleared. -/
def execReadActivity (body : List Byte) (s : State) : Host.Outcome State Fault Refusal :=
  request 0 body (fun _ s => ok { s with activity := 0 } s.activityBody) s

end Sys2Proof.Machine
end

