-- ==== Sys2Proof/Machine/ScoreRequests.lean ====
section
/-! DEFINITION. The requests of the Score Arithmetic Unit (R135 to R138). -/

namespace Sys2Proof.Machine

/-- ADD_POINTS (R136, R137). A digit above 9 is answered before the owner's checks (R178, R189). -/
def addPoints (body : List Byte) (s : State) : State × Reply :=
  match body with
  | [p, v3, v2, v1, v0, mu] =>
    if !bcdValid [v3, v2, v1, v0] then refuse s .badValue
    else match indexOf 4 p with
      | none => refuse s .notFound
      | some p =>
        match flagOf mu with
        | none => refuse s .badValue
        | some mu =>
          if !s.isOpen then refuse s .refusedState
          else if s.session.players ≤ p.val then refuse s .refusedState
          else
            let m := if mu then s.product none else 1
            let v := bcdValue [v3, v2, v1, v0] * m
            let (t, r) := addScore p v s
            ok t ([nameByte ScoreResult.names r, byte m] ++ bcdBytes 5 v ++ bcdBytes 6 t.pages[p].score ++
              [byte t.pages[p].rollover])
  | _ => refuse s .badValue

/-- SET_PF_MULT (R135). -/
def setPfMultRequest (body : List Byte) (s : State) : State × Reply :=
  match body with
  | [v, t1, t0] =>
    if !s.isOpen then refuse s .refusedState
    else
      let m := min 9 (max 1 v.toNat)
      ok (setPfMult m (word16 t1 t0) s) [byte m]
  | _ => refuse s .badValue

/-- READ_MULTIPLIER (R138). -/
def readMultiplier (body : List Byte) (s : State) : State × Reply :=
  match body with
  | [scope] => if 63 < scope.toNat then refuse s .badValue else ok s (s.multiplierBody scope.toNat)
  | _ => refuse s .badValue

def execAddPoints (body : List Byte) (s : State) : Host.Outcome State Fault Refusal := request 6 body addPoints s
def execSetPfMult (body : List Byte) (s : State) : Host.Outcome State Fault Refusal := request 3 body setPfMultRequest s
def execReadMultiplier (body : List Byte) (s : State) : Host.Outcome State Fault Refusal :=
  request 1 body readMultiplier s

end Sys2Proof.Machine
end

