-- ==== Sys2Proof/Machine/SessionRequests.lean ====
section
/-! DEFINITION. The requests of the Session and Tilt Unit (R163 to R166, R171, R172). -/

namespace Sys2Proof.Machine

/-- OPEN_SESSION (R163). -/
def openSession (body : List Byte) (s : State) : State × Reply :=
  match body with
  | [n] =>
    if s.isOpen then refuse s .refusedState
    else if !s.devicesEnabled then refuse s .refusedState
    else
      let players := min 4 (max 1 n.toNat)
      let s := s.modSession fun r =>
        { r with state := .opened, players := players, current := 0, tilt := .normal, warnings := 0, swing := .stopped }
      let s := (indices 4).foldl (fun s p => if p.val < players then clearPage p s else s) s
      ok (holdTimers (setPfMult 1 0 (setPhase .noPlay s))) [byte players]
  | _ => refuse s .badValue

/-- ADD_PLAYER (R164). -/
def addPlayer (_ : List Byte) (s : State) : State × Reply :=
  if !s.isOpen then refuse s .refusedState
  else if h : s.session.players < 4 then
    let p : PlayerNo := ⟨s.session.players, h⟩
    ok ((clearPage p s).modSession fun r => { r with players := r.players + 1 }) [byte (p.val + 1), byte p.val]
  else refuse s .refusedFull

/-- SET_PLAYER (R165, R98). -/
def setPlayer (body : List Byte) (s : State) : State × Reply :=
  match body with
  | [p] =>
    if !s.isOpen then refuse s .refusedState
    else match indexOf 4 p with
      | none => refuse s .notFound
      | some p =>
        if s.session.players ≤ p.val then refuse s .badValue
        else if s.acct.phase ≠ .noPlay ∧ s.acct.phase ≠ .ended then refuse s .refusedState
        else
          let s := setPhase .noPlay (s.modSession fun r => { r with current := p })
          let (t, n) := reconcile s
          ok (holdTimers t) [byte t.session.current.val, byte n]
  | _ => refuse s .badValue

/-- CLOSE_SESSION (R166). -/
def closeSession (_ : List Byte) (s : State) : State × Reply :=
  if !s.isOpen then refuse s .refusedState
  else if s.acct.phase ≠ .noPlay ∧ s.acct.phase ≠ .ended then refuse s .refusedState
  else ok (holdTimers (closeModes (s.modSession fun r => { r with state := .closed }))) []

/-! ### GAME_RESET (R171) -/

/-- The session's part (R171). -/
def resetSession (s : State) : State :=
  s.modSession fun r => { r with state := .closed, tilt := .normal, warnings := 0, swing := .stopped }

/-- The devices' part (R43): each is treated as CANCEL_EJECTS with include_owed treats it. -/
def resetDevices (s : State) : State := (indices 8).foldl (fun s d => cancelEjects d true s) s

/-- The accounting's part (R88): every ball that is live or in flight is made missing. -/
def resetAccounting (s : State) : State :=
  let s := stopIdle (endSearch s)
  s.modAcct fun a =>
    { a with missing := a.missing + a.flights.length + a.live, live := 0, flights := [], phase := .noPlay,
             serveLaunch := false, multiball := false, saveState := .off, saveTimer := .stopped, savesUsed := 0 }

/-- A page's part (R91, R161): scores and lock fields 0; the last-ended record of a page whose stack was empty is
cleared. -/
def Page.gameReset (g : Page) : Page :=
  { g with score := 0, rollover := 0, lit := .replicate 6 0, credits := .replicate 6 0,
           last := if g.stack.isEmpty then .none else g.last }

/-- The whole effect of GAME_RESET: every block applies its own (R16, R43, R60, R88, R91, R123, R139, R161, R171). -/
def gameReset (s : State) : State :=
  let s := { resetSession s with activity := 0, awardHits := 0 }
  let s := withdrawWaiting [.search, .direct] (resetDevices s)
  let s := setPfMult 1 0 (resetAccounting s)
  let s := closeModes { s with pages := s.pages.map Page.gameReset }
  holdTimers (formPlay s)

def execOpenSession (body : List Byte) (s : State) : Host.Outcome State Fault Refusal := request 1 body openSession s
def execAddPlayer (body : List Byte) (s : State) : Host.Outcome State Fault Refusal := request 0 body addPlayer s
def execSetPlayer (body : List Byte) (s : State) : Host.Outcome State Fault Refusal := request 1 body setPlayer s
def execCloseSession (body : List Byte) (s : State) : Host.Outcome State Fault Refusal := request 0 body closeSession s

/-- GAME_RESET (R171). -/
def execGameReset (body : List Byte) (s : State) : Host.Outcome State Fault Refusal :=
  request 0 body (fun _ s => ok (gameReset s) []) s

/-- READ_SESSION (R172). -/
def execReadSession (body : List Byte) (s : State) : Host.Outcome State Fault Refusal :=
  request 0 body (fun _ s => ok s s.sessionBody) s

end Sys2Proof.Machine
end

