-- ==== Sys2Proof/Machine/Dispatch.lean ====
section
/-! DEFINITION. The dispatch: one arm per command, each one call of its meaning. -/

namespace Sys2Proof.Machine

def exec (i : Instr) (s : State) : Host.Outcome State Fault Refusal :=
  match i with
  | .powerOnReset => Sys2Proof.Machine.execPowerOnReset s
  | .scanFrame raw early => Sys2Proof.Machine.execScanFrame raw early s
  | .evaluation d => Sys2Proof.Machine.execEvaluation d s
  | .confirmTimerExpiry d => Sys2Proof.Machine.execConfirmTimerExpiry d s
  | .saucerHoldExpiry d => Sys2Proof.Machine.execSaucerHoldExpiry d s
  | .grant g => Sys2Proof.Machine.execGrant g s
  | .priorityAging c => Sys2Proof.Machine.execPriorityAging c s
  | .pulseEnd c => Sys2Proof.Machine.execPulseEnd c s
  | .holdWindowExpiry c => Sys2Proof.Machine.execHoldWindowExpiry c s
  | .intervalExpiry c => Sys2Proof.Machine.execIntervalExpiry c s
  | .recoveryExpiry c => Sys2Proof.Machine.execRecoveryExpiry c s
  | .gapExpiry g => Sys2Proof.Machine.execGapExpiry g s
  | .flightExpiry position => Sys2Proof.Machine.execFlightExpiry position s
  | .saveTimerExpiry => Sys2Proof.Machine.execSaveTimerExpiry s
  | .idleTimerExpiry => Sys2Proof.Machine.execIdleTimerExpiry s
  | .searchTimerExpiry => Sys2Proof.Machine.execSearchTimerExpiry s
  | .pfMultTimerExpiry => Sys2Proof.Machine.execPfMultTimerExpiry s
  | .modeTimerExpiry modeId => Sys2Proof.Machine.execModeTimerExpiry modeId s
  | .hurryPeriodExpiry modeId => Sys2Proof.Machine.execHurryPeriodExpiry modeId s
  | .swingTimerExpiry => Sys2Proof.Machine.execSwingTimerExpiry s
  | .fetch clocked => Sys2Proof.Machine.execFetch clocked s
  | .badFrame frame => Sys2Proof.Machine.execBadFrame frame s
  | .overrun clocked => Sys2Proof.Machine.execOverrun clocked s
  | .unknownRequest code body => Sys2Proof.Machine.execUnknownRequest code body s
  | .setSwitch body => Sys2Proof.Machine.execSetSwitch body s
  | .readSwitch body => Sys2Proof.Machine.execReadSwitch body s
  | .readSwitches body => Sys2Proof.Machine.execReadSwitches body s
  | .readActivity body => Sys2Proof.Machine.execReadActivity body s
  | .setDevice body => Sys2Proof.Machine.execSetDevice body s
  | .enableDevices body => Sys2Proof.Machine.execEnableDevices body s
  | .disableDevices body => Sys2Proof.Machine.execDisableDevices body s
  | .eject body => Sys2Proof.Machine.execEject body s
  | .cancelEjects body => Sys2Proof.Machine.execCancelEjects body s
  | .clearJam body => Sys2Proof.Machine.execClearJam body s
  | .readDevice body => Sys2Proof.Machine.execReadDevice body s
  | .readSlot body => Sys2Proof.Machine.execReadSlot body s
  | .setCoil body => Sys2Proof.Machine.execSetCoil body s
  | .pulseCoil body => Sys2Proof.Machine.execPulseCoil body s
  | .readCoil body => Sys2Proof.Machine.execReadCoil body s
  | .readGroups body => Sys2Proof.Machine.execReadGroups body s
  | .recount body => Sys2Proof.Machine.execRecount body s
  | .serve body => Sys2Proof.Machine.execServe body s
  | .setBallSave body => Sys2Proof.Machine.execSetBallSave body s
  | .startSearch body => Sys2Proof.Machine.execStartSearch body s
  | .readAccounting body => Sys2Proof.Machine.execReadAccounting body s
  | .readFlights body => Sys2Proof.Machine.execReadFlights body s
  | .lightLock body => Sys2Proof.Machine.execLightLock body s
  | .startMultiball body => Sys2Proof.Machine.execStartMultiball body s
  | .readPlayer body => Sys2Proof.Machine.execReadPlayer body s
  | .readLocks body => Sys2Proof.Machine.execReadLocks body s
  | .setWindow body => Sys2Proof.Machine.execSetWindow body s
  | .setAward body => Sys2Proof.Machine.execSetAward body s
  | .readWindow body => Sys2Proof.Machine.execReadWindow body s
  | .readAward body => Sys2Proof.Machine.execReadAward body s
  | .readAwardHits body => Sys2Proof.Machine.execReadAwardHits body s
  | .addPoints body => Sys2Proof.Machine.execAddPoints body s
  | .setPfMult body => Sys2Proof.Machine.execSetPfMult body s
  | .readMultiplier body => Sys2Proof.Machine.execReadMultiplier body s
  | .setTemplate body => Sys2Proof.Machine.execSetTemplate body s
  | .readTemplate body => Sys2Proof.Machine.execReadTemplate body s
  | .pushMode body => Sys2Proof.Machine.execPushMode body s
  | .retireMode body => Sys2Proof.Machine.execRetireMode body s
  | .pauseMode body => Sys2Proof.Machine.execPauseMode body s
  | .resumeMode body => Sys2Proof.Machine.execResumeMode body s
  | .addModeTime body => Sys2Proof.Machine.execAddModeTime body s
  | .advanceMode body => Sys2Proof.Machine.execAdvanceMode body s
  | .readMode body => Sys2Proof.Machine.execReadMode body s
  | .openSession body => Sys2Proof.Machine.execOpenSession body s
  | .addPlayer body => Sys2Proof.Machine.execAddPlayer body s
  | .setPlayer body => Sys2Proof.Machine.execSetPlayer body s
  | .closeSession body => Sys2Proof.Machine.execCloseSession body s
  | .gameReset body => Sys2Proof.Machine.execGameReset body s
  | .readSession body => Sys2Proof.Machine.execReadSession body s
  | .readNotices body => Sys2Proof.Machine.execReadNotices body s
  | .clearNotices body => Sys2Proof.Machine.execClearNotices body s
  | .setNoticeEnable body => Sys2Proof.Machine.execSetNoticeEnable body s
  | .setNoticeRoute body => Sys2Proof.Machine.execSetNoticeRoute body s
  | .setGameOptions body => Sys2Proof.Machine.execSetGameOptions body s
  | .readGameOptions body => Sys2Proof.Machine.execReadGameOptions body s
  | .readCapability body => Sys2Proof.Machine.execReadCapability body s
  | .executionEnd => Sys2Proof.Machine.execExecutionEnd s

end Sys2Proof.Machine
end

