-- ==== Sys2Proof/Safety.lean ====
section
/-! DEFINITION. What a safe state of the KV2408 is, block by block, in the terms that claims use, and the small
vocabulary of claims about requests. -/

namespace Sys2Proof.Machine

/-! ### The balls (R62) -/

/-- The five terms of the conservation identity, without the installed count. -/
def State.balls (s : State) : Nat := s.occupancies + s.acct.live + s.acct.flights.length + s.acct.missing

/-- The conservation identity, with the installed count at most 16 (R62). -/
abbrev State.Conserved (s : State) : Prop := s.balls = s.acct.installed ∧ s.acct.installed ≤ Config.maxInstalled

/-! ### The devices (R17, R18, R41) -/

/-- The record of a device that is out of service: its live fields at their power-on values but for the counts of its
stopped timers. -/
abbrev DeviceLive.AtRest (l : DeviceLive) : Prop :=
  l = { DeviceLive.powerOn with settle := l.settle.halt, confirm := l.confirm.halt, hold := l.hold.halt }

/-- Where a device can send a ball: not to device 0 and not to itself (R19). -/
abbrev Target.From (t : Target) (d : DevNo) : Prop := t ≠ .device trough ∧ t ≠ .device d

/-- Kinds fit device numbers, occupancies fit position lists, position lists fit capacities, and a device that is not
UNUSED has a target it can send a ball to; a DISABLED device is at rest; while some device is enabled exactly the
UNUSED ones are DISABLED, and while none is no ball is counted; no in-flight record targets device 0 or its own
source (R17, R18, R40, R41, R62, R63). -/
abbrev State.DevicesSafe (s : State) : Prop :=
  (∀ d : DevNo, kindFits d s.devices[d].cfg.kind = true ∧
    s.devices[d].live.occupancy ≤ s.devices[d].cfg.positions.length ∧
    s.devices[d].cfg.positions.length ≤ s.devices[d].cfg.capacity ∧ s.devices[d].cfg.capacity ≤ 8 ∧
    (s.devices[d].cfg.kind ≠ .unused → s.devices[d].cfg.target.From d)) ∧
  (∀ d : DevNo, s.devices[d].live.state = .disabled → s.devices[d].live.AtRest) ∧
  (s.devicesEnabled = true → ∀ d : DevNo,
    s.devices[d].live.state = .disabled ↔ s.devices[d].cfg.kind = .unused) ∧
  (s.devicesEnabled = false →
    s.acct.installed = 0 ∧ s.acct.live = 0 ∧ s.acct.missing = 0 ∧ s.acct.flights = []) ∧
  (∀ r ∈ s.acct.flights, r.target.From r.source)

/-! ### The eject slots (R26) -/

/-- Counts in their ranges, and the QUEUED slots of each device hold the issue numbers from 0 upward without gaps. -/
abbrev State.SlotsSafe (s : State) : Prop :=
  (∀ n : SlotNo, s.slots[n].ejected ≤ s.slots[n].requested ∧ s.slots[n].requested ≤ 8) ∧
  (∀ n : SlotNo, s.slots[n].state = .queued → s.slots[n].issue < s.queuedCount s.slots[n].device) ∧
  (∀ m n : SlotNo, s.slots[m].state = .queued → s.slots[n].state = .queued →
    s.slots[m].device = s.slots[n].device → s.slots[m].issue = s.slots[n].issue → m = n)

/-! ### The coils (R45, R47, R50) -/

/-- The coils of a group that fire. -/
def State.firing (s : State) (g : Group) : List CoilNo :=
  (indices 24).filter fun c => s.coils[c].live.state == .firing && s.coils[c].cfg.group == g

/-- Each group has at most one coil FIRING, and is BUSY exactly while one fires; an IDLE coil serves no one; ages and
priorities stay in their ranges. -/
abbrev State.CoilsSafe (s : State) : Prop :=
  (∀ g ∈ [Group.a, Group.b], (s.firing g).length = if (s.group g).state = .busy then 1 else 0) ∧
  (∀ c : CoilNo, s.coils[c].live.state = .idle →
    s.coils[c].live.owner = none ∧ s.coils[c].live.cls = none ∧ s.coils[c].live.priority = 0 ∧
      s.coils[c].live.age = 0 ∧ s.coils[c].live.held = none) ∧
  (∀ c : CoilNo, s.coils[c].live.age ≤ 7 ∧ s.coils[c].live.priority ≤ 15)

/-! ### Templates, stacks and scores (R110, R124, R129, R131 to R133, R140 to R143, R151) -/

/-- The relations R140 keeps between the fields of a template. -/
abbrev Template.Safe (t : Template) : Prop :=
  1 ≤ t.multiplier ∧ t.multiplier ≤ 9 ∧ t.jackpotBase ≤ t.jackpotMax ∧ t.jackpotMax ≤ Config.maxValue ∧
    t.hurryFloor ≤ t.hurryStart ∧ t.hurryStart ≤ Config.maxValue ∧ t.completionPct ≤ 100 ∧ t.next ≤ 63 ∧
    t.initialTimer ≤ Config.maxTime

/-- The ranges of a context's own fields (R142): a timed context has time left, an untimed one has none. -/
abbrev Context.Safe (c : Context) : Prop :=
  1 ≤ c.id ∧ c.id ≤ 63 ∧ c.tpl.Safe ∧ c.progress ≤ c.tpl.goal ∧
    c.tpl.jackpotBase ≤ c.jackpot ∧ c.jackpot ≤ c.tpl.jackpotMax ∧
    c.tpl.hurryFloor ≤ c.hurry ∧ c.hurry ≤ c.tpl.hurryStart ∧
    (c.timed = true → 1 ≤ c.timer) ∧ (c.timed = false → c.timer = 0) ∧ c.timer ≤ Config.maxTime ∧
    c.total ≤ Config.maxScore

/-- A page's score, rollover count and last-ended total in range, its stack no deeper than 8, and no mode id twice on
its stack (R143). -/
abbrev Page.Safe (g : Page) : Prop :=
  g.score ≤ Config.maxScore ∧ g.rollover ≤ 9 ∧ g.last.total ≤ Config.maxScore ∧
    g.stack.length ≤ Config.maxDepth ∧ (g.stack.map fun c => c.id).Nodup ∧ ∀ c ∈ g.stack, c.Safe

/-- Pages, templates and base values in their ranges, and the playfield multiplier 1 to 9. -/
abbrev State.GameSafe (s : State) : Prop :=
  (∀ p : PlayerNo, s.pages[p].Safe) ∧ (∀ k : Fin 63, ∀ t ∈ s.templates[k].toList, t.Safe) ∧
    (∀ i : Fin 256, s.awards[i].base ≤ Config.maxValue) ∧ 1 ≤ s.pfMult ∧ s.pfMult ≤ 9

/-! ### The session (R162) -/

/-- Whether warnings and tilt status agree under a tilt limit. -/
abbrev Session.TiltAgrees (r : Session) (limit : Nat) : Prop :=
  (r.tilt = .normal → r.warnings = 0) ∧ (r.tilt = .warned → 1 ≤ r.warnings ∧ r.warnings < limit) ∧
    (r.tilt = .tilted → r.warnings = limit)

/-- The player count and the current player in range; a ball is served, launched or in play only in an OPEN session;
the stacks are empty while the session is CLOSED; in an OPEN session warnings and tilt status agree. -/
abbrev State.SessionSafe (s : State) : Prop :=
  1 ≤ s.session.players ∧ s.session.players ≤ 4 ∧ s.session.current.val < s.session.players ∧
  (s.session.state = .closed → s.acct.phase = .noPlay ∨ s.acct.phase = .ended) ∧
  (s.session.state = .closed → ∀ p : PlayerNo, s.pages[p].stack = []) ∧
  (s.session.state = .opened → s.session.TiltAgrees s.options.limit)

/-! ### The locks (R92) -/

/-- At every LOCK device the lit locks and credits of a player together never exceed the capacity. -/
abbrev State.LocksSafe (s : State) : Prop :=
  ∀ p : PlayerNo, ∀ k : LockNo, s.devices[lockDevice k].cfg.kind = .lock →
    s.pages[p].lit[k] + s.pages[p].credits[k] ≤ s.devices[lockDevice k].cfg.capacity

/-! ### The switches (R1, R3) -/

/-- Debounce counts and pending frames in their ranges. -/
abbrev SwitchRec.Safe (r : SwitchRec) : Prop :=
  1 ≤ r.closeDebounce ∧ r.closeDebounce ≤ 15 ∧ 1 ≤ r.openDebounce ∧ r.openDebounce ≤ 15 ∧ r.pendingFrames ≤ 14

/-- Every switch record in its ranges. -/
abbrev State.SwitchesSafe (s : State) : Prop := ∀ n : SwitchNo, s.switches[n].Safe

/-! ### Claims about requests -/

/-- The link after a request with a body of `n` bytes has been executed and its reply prepared: filler was shifted
throughout the frame, no reply is waiting, and the reply stands ready for the end of the execution (R178). -/
def Link.after (l : Link) (n : Nat) (r : Reply) : Link :=
  { l with executing := some r, waiting := none, shifted := List.replicate (n + 3) Config.filler }

/-- A request answered with a status alone that changes nothing but the link. -/
def State.refused (s : State) (n : Nat) (st : Status) : State := { s with link := s.link.after n (.plain st) }

/-- A request executed with reply body `out` that changes nothing but the link. -/
def State.answered (s : State) (n : Nat) (out : List Byte) : State :=
  { s with link := s.link.after n { status := .ok, body := out } }

/-! ### Claims about scan frames and coils -/

/-- Whether the edge that switch `n` gave between two states passes its edge selection (R5). -/
def passedEdge (s t : State) (n : SwitchNo) : Prop :=
  s.switches[n].level ≠ t.switches[n].level ∧ s.switches[n].cls ≠ .unused ∧
    (s.switches[n].selection = .both ∨ (s.switches[n].selection = .close ∧ t.switches[n].level = .closed) ∨
      (s.switches[n].selection = .opening ∧ t.switches[n].level = .opened))

/-- The coil record of a device's request that enters WAITING (R48). -/
def waitingFor (d : DevNo) (s : State) (l : CoilLive) : CoilLive :=
  { l with state := .waiting, owner := some (.device d), cls := some .eject,
           priority := min 15 s.options.ejectPriority, age := 0, ageDue := false, pulses := 0, interval := false,
           ending := false, timer := ⟨0, false, false⟩ }

end Sys2Proof.Machine
end

