-- ==== Sys2Proof/WellFormed.lean ====
section
/-! DEFINITION. Well-formed commands: those that can reach the part. The types already hold every record number in its
range; what remains is the length of a body, the frames that are what their name says, and mode ids. -/

namespace Sys2Proof

/-- A body a good frame can carry (R174). -/
def bodyFits (body : List Byte) : Bool := decide (body.length ≤ Config.maxBody)

/-- A mode id (R140). -/
def modeIdOk (id : Nat) : Bool := decide (1 ≤ id ∧ id ≤ 63)

/-- An event that can happen: the in-flight list holds at most 16 records (R63). -/
def Event.wellFormed : Event → Bool
  | .flight position => decide (position < Config.maxInstalled)
  | .modeTimer id => modeIdOk id
  | .hurryPeriod id => modeIdOk id
  | .evaluation _ | .confirmTimer _ | .saucerHold _ | .grant _ | .priorityAging _ | .pulseEnd _ | .holdWindow _ => true
  | .interval _ | .recovery _ | .gap _ | .saveTimer | .idleTimer | .searchTimer | .pfMultTimer | .swingTimer => true

/-- A command that can reach the part. -/
def Instr.wellFormed : Instr → Bool
  | .powerOnReset => true
  | .scanFrame _ early => early.all Event.wellFormed
  | .evaluation _ => true
  | .confirmTimerExpiry _ => true
  | .saucerHoldExpiry _ => true
  | .grant _ => true
  | .priorityAging _ => true
  | .pulseEnd _ => true
  | .holdWindowExpiry _ => true
  | .intervalExpiry _ => true
  | .recoveryExpiry _ => true
  | .gapExpiry _ => true
  | .flightExpiry position => decide (position < Config.maxInstalled)
  | .saveTimerExpiry => true
  | .idleTimerExpiry => true
  | .searchTimerExpiry => true
  | .pfMultTimerExpiry => true
  | .modeTimerExpiry modeId => modeIdOk modeId
  | .hurryPeriodExpiry modeId => modeIdOk modeId
  | .swingTimerExpiry => true
  | .fetch _ => true
  | .badFrame frame => (Machine.frameCause frame).isSome
  | .overrun clocked => decide (1 ≤ clocked)
  | .unknownRequest code body => bodyFits body && Machine.isUnknown code body
  | .setSwitch body => bodyFits body
  | .readSwitch body => bodyFits body
  | .readSwitches body => bodyFits body
  | .readActivity body => bodyFits body
  | .setDevice body => bodyFits body
  | .enableDevices body => bodyFits body
  | .disableDevices body => bodyFits body
  | .eject body => bodyFits body
  | .cancelEjects body => bodyFits body
  | .clearJam body => bodyFits body
  | .readDevice body => bodyFits body
  | .readSlot body => bodyFits body
  | .setCoil body => bodyFits body
  | .pulseCoil body => bodyFits body
  | .readCoil body => bodyFits body
  | .readGroups body => bodyFits body
  | .recount body => bodyFits body
  | .serve body => bodyFits body
  | .setBallSave body => bodyFits body
  | .startSearch body => bodyFits body
  | .readAccounting body => bodyFits body
  | .readFlights body => bodyFits body
  | .lightLock body => bodyFits body
  | .startMultiball body => bodyFits body
  | .readPlayer body => bodyFits body
  | .readLocks body => bodyFits body
  | .setWindow body => bodyFits body
  | .setAward body => bodyFits body
  | .readWindow body => bodyFits body
  | .readAward body => bodyFits body
  | .readAwardHits body => bodyFits body
  | .addPoints body => bodyFits body
  | .setPfMult body => bodyFits body
  | .readMultiplier body => bodyFits body
  | .setTemplate body => bodyFits body
  | .readTemplate body => bodyFits body
  | .pushMode body => bodyFits body
  | .retireMode body => bodyFits body
  | .pauseMode body => bodyFits body
  | .resumeMode body => bodyFits body
  | .addModeTime body => bodyFits body
  | .advanceMode body => bodyFits body
  | .readMode body => bodyFits body
  | .openSession body => bodyFits body
  | .addPlayer body => bodyFits body
  | .setPlayer body => bodyFits body
  | .closeSession body => bodyFits body
  | .gameReset body => bodyFits body
  | .readSession body => bodyFits body
  | .readNotices body => bodyFits body
  | .clearNotices body => bodyFits body
  | .setNoticeEnable body => bodyFits body
  | .setNoticeRoute body => bodyFits body
  | .setGameOptions body => bodyFits body
  | .readGameOptions body => bodyFits body
  | .readCapability body => bodyFits body
  | .executionEnd => true

/-- A command that can reach the part, as a proposition. -/
abbrev WellFormed (i : Instr) : Prop := i.wellFormed = true

end Sys2Proof
end

