-- ==== Sys2Proof/Certificates/Slice0/Obligations.lean ====
section
/-! DEFINITION. The statements for the provers: what the requests and events of the KV2408 do, by the rules of spec/, and
the invariants that every step keeps. Each docstring names the rules it rests on. -/

open Sys2Proof Sys2Proof.Machine

/-! ### The queue and reset -/

/-- The command at the front of the queue is executed with the queue's rest; an empty queue idles (the model's own
queue, log 1). -/
def Obligations.StepTakesTheFrontCommand : Prop :=
  (∀ (c : Instr) (rest : List Instr) (s : State), step { s with pending := c :: rest } = exec c { s with pending := rest }) ∧
  (∀ s : State, s.pending = [] → step s = .next s)

/-- POWER_ON_RESET puts every record at its power-on value; the queue and the counter of free values are the model's
own and stay (log 2; R15, R43, R59, R87, R91, R123, R139, R161, R173, R180, R181, R185). -/
def Obligations.PowerOnResetRestoresEveryRecord : Prop :=
  (∀ s : State, exec .powerOnReset s = .next { State.reset with pending := s.pending, freeIndex := s.freeIndex }) ∧
  State.reset.frameCount = 0 ∧ State.reset.activity = 0 ∧
  (∀ n : SwitchNo, State.reset.switches[n] =
    { cls := .unused, closeDebounce := 1, openDebounce := 1, selection := .none, level := .opened,
      pendingFrames := 0, lastClose := 0, lastOpen := 0 }) ∧
  (∀ d : DevNo, State.reset.devices[d].cfg =
    { kind := if d = 0 then .trough else if d = 1 then .shooter else .unused, configured := false, capacity := 1,
      positions := [], entry := none, coil := 0, target := .playfield, settleTime := 1, confirmTimeout := 1,
      maxAttempts := 1, flightTime := 1, holdTime := 0, policy := .purge, searchFlag := false }) ∧
  (∀ d : DevNo, State.reset.devices[d].live.state = .disabled ∧ State.reset.devices[d].live.occupancy = 0 ∧
    State.reset.devices[d].live.owed = 0 ∧ State.reset.devices[d].live.order = .none) ∧
  (∀ n : SlotNo, State.reset.slots[n] =
    { state := .idle, device := 0, requested := 0, ejected := 0, result := .none, issue := 0 }) ∧
  (∀ c : CoilNo, State.reset.coils[c].cfg =
    { group := .a, pulseWidth := 1, recovery := 0, profile := .pulse, repeatPeriod := 2, repeatLimit := 1,
      holdWindow := 0, searchFlag := false } ∧ State.reset.coils[c].live.state = .idle ∧
    State.reset.coils[c].live.owner = none ∧ State.reset.coilEnable c = false) ∧
  (∀ g : Group, (State.reset.group g).state = .free ∧ (State.reset.group g).last = 23) ∧
  (State.reset.acct.installed = 0 ∧ State.reset.acct.live = 0 ∧ State.reset.acct.missing = 0 ∧
    State.reset.acct.flights = [] ∧ State.reset.acct.phase = .noPlay ∧ State.reset.acct.saveState = .off ∧
    State.reset.acct.search = .idle) ∧
  (∀ p : PlayerNo, State.reset.pages[p].score = 0 ∧ State.reset.pages[p].rollover = 0 ∧
    State.reset.pages[p].stack = [] ∧ State.reset.pages[p].last = { id := 0, reason := .none, total := 0 }) ∧
  (∀ i : Fin 32, State.reset.windows[i].enabled = false) ∧
  (∀ i : Fin 256, State.reset.awards[i].kind = .notify ∧ State.reset.awards[i].notify = false) ∧
  State.reset.awardHits = 0 ∧ State.reset.pfMult = 1 ∧ State.reset.pfTimer = 0 ∧
  (∀ k : Fin 63, State.reset.templates[k] = none) ∧
  State.reset.session =
    { state := .closed, players := 1, current := 0, tilt := .normal, warnings := 0, swing := ⟨0, false, false⟩ } ∧
  State.reset.notices = { pending := 0, enable := 0, route := 0 } ∧ State.reset.rdy = false ∧
  State.reset.notices.attnA = false ∧ State.reset.notices.attnB = false ∧
  State.reset.link.lastCause = .none ∧ State.reset.link.errorCount = 0 ∧
  State.reset.options.bytes = [0, 2, 10, 6, 2, 0x0B, 0xB8, 0x03, 0xE8, 200, 0, 100, 25, 3, 50, 3, 100, 0]

/-! ### The scanner -/

/-- One scan frame: the frame count rises by 1 and every switch follows the debounce rule, whatever its class and
whatever else happens in the frame (R3, with the level and the stamp of R4). -/
def Obligations.ScanFrameDebouncesEverySwitch : Prop :=
  ∀ (s : State) (raw : BitVec 128) (early : List Event), ∃ t : State,
    exec (.scanFrame raw early) s = .next t ∧ t.frameCount = s.frameCount + 1 ∧
    ∀ n : SwitchNo,
      let r := s.switches[n]
      let closed := raw.getLsbD n.val
      let threshold := if closed then r.closeDebounce else r.openDebounce
      (if levelOf closed = r.level then t.switches[n] = { r with pendingFrames := 0 }
        else if r.pendingFrames + 1 < threshold then
          t.switches[n] = { r with pendingFrames := r.pendingFrames + 1 }
        else t.switches[n] =
          { r with pendingFrames := 0, level := levelOf closed,
                   lastClose := if closed then s.frameCount + 1 else r.lastClose,
                   lastOpen := if closed then r.lastOpen else s.frameCount + 1 }) ∧
      t.switches[n].pendingFrames ≤ threshold - 1 ∧
      (r.closeDebounce ≤ 15 → r.openDebounce ≤ 15 → t.switches[n].pendingFrames ≤ 14)

/-- At the start of a scan frame the frame count rises and the ticks that fall on it are taken: every frame counts
coil timers, ages and group gaps, every tenth the 10 ms timers, every hundredth the 100 ms timers, each while its
counting condition holds; a timer with one unit left becomes due; any other keeps its count (R20, R33, R37, R47, R49,
R53, R64, R77, R80 to R82, R133, R146, R147, R167). A frame without early events whose readings agree with every level
does nothing else. The ticks are counted by the model's own `tickPhase`, and the last unit of a timer is taken by its
expiry (logs 3 and 5). -/
def Obligations.TimersCount : Prop :=
  ((∀ s : State,
    let count (r : Timer) : Timer :=
      if r.running = false ∨ r.due = true then r else if r.count ≤ 1 then { r with due := true }
      else { r with count := r.count - 1 }
    let phase := (s.tickPhase + 1) % 100
    let ten : Bool := decide (phase % 10 = 0)
    let hundred : Bool := decide (phase = 0)
    let untilted : Bool := decide (s.session.tilt ≠ .tilted)
    let t := startFrame s
    t.frameCount = s.frameCount + 1 ∧ t.tickPhase = phase ∧
    (∀ c : CoilNo,
      let l := s.coils[c].live
      t.coils[c] = { s.coils[c] with
        live := match l.state with
          | .waiting => { l with age := if l.ageDue = true ∨ 7 ≤ l.age then l.age else l.age + 1,
                                 ageDue := l.ageDue || decide (7 ≤ l.age) }
          | .holding => { l with timer := if ten then count l.timer else l.timer }
          | _ => { l with timer := count l.timer } }) ∧
    t.groupA = { s.groupA with gap := count s.groupA.gap } ∧
    t.groupB = { s.groupB with gap := count s.groupB.gap } ∧
    (∀ d : DevNo,
      let l := s.devices[d].live
      t.devices[d] = if ten then
        { s.devices[d] with
          live := { l with settle := count l.settle, confirm := count l.confirm, hold := count l.hold } }
        else s.devices[d]) ∧
    t.acct = { s.acct with
      flights := s.acct.flights.map fun r =>
        if hundred = false ∨ r.due = true then r else if r.remaining ≤ 1 then { r with due := true }
        else { r with remaining := r.remaining - 1 },
      saveTimer := if ten ∧ ((s.acct.saveState = .active ∧ 1 ≤ s.acct.live ∧ untilted) ∨ s.acct.saveState = .grace)
        then count s.acct.saveTimer else s.acct.saveTimer,
      idleTimer := if hundred ∧ s.acct.phase = .play ∧ s.acct.search = .idle ∧ 1 ≤ s.acct.live + s.acct.missing
        then count s.acct.idleTimer else s.acct.idleTimer,
      searchTimer := if (if s.acct.searchSlow then hundred else ten) then count s.acct.searchTimer
        else s.acct.searchTimer } ∧
    t.session = { s.session with swing := if ten then count s.session.swing else s.session.swing } ∧
    (let counts : Bool := ten && decide (1 ≤ s.acct.live) && untilted
     t.pfTimer = (if counts ∧ 2 ≤ s.pfTimer then s.pfTimer - 1 else s.pfTimer) ∧
     t.pfDue = (s.pfDue || (counts && decide (s.pfTimer = 1)))) ∧
    (let counts : Prop := ten = true ∧ s.session.state = .opened ∧ s.acct.phase = .play ∧ 1 ≤ s.acct.live ∧
       untilted = true
     (∀ p : PlayerNo, p ≠ s.session.current ∨ ¬ counts → t.pages[p] = s.pages[p]) ∧
     (counts → ∃ stack : List Context, stack.length = s.pages[s.session.current].stack.length ∧
       t.pages[s.session.current] = { s.pages[s.session.current] with stack := stack } ∧
       ∀ (beneath above : List Context) (c : Context), s.pages[s.session.current].stack = beneath ++ c :: above →
         let period : Bool := decide (c.tpl.hurryFloor < c.hurry ∧ 0 < c.tpl.hurryStep)
         stack[beneath.length]? = some (
           if c.paused = true ∨ ∃ x ∈ above, x.tpl.stacking = .exclusive then c
           else { c with
             timer := if c.timed = true ∧ c.timerDue = false ∧ 2 ≤ c.timer then c.timer - 1 else c.timer,
             timerDue := c.timerDue || (c.timed && decide (c.timer ≤ 1)),
             hurryRemaining := if period ∧ c.hurryDue = false ∧ 2 ≤ c.hurryRemaining then c.hurryRemaining - 1
               else c.hurryRemaining,
             hurryDue := c.hurryDue || (period && decide (c.hurryRemaining ≤ 1)) }))) ∧
    t.switches = s.switches ∧ t.slots = s.slots ∧ t.notices = s.notices ∧ t.link = s.link) ∧
  (∀ (s : State) (raw : BitVec 128),
    (∀ n : SwitchNo, raw.getLsbD n.val = true ↔ s.switches[n].level = .closed) →
    exec (.scanFrame raw []) s = .next
      { startFrame s with switches := s.switches.map fun r => { r with pendingFrames := 0 } }))

/-- In a scan frame the activity set gains exactly the switches whose edge was accepted and passed its edge selection,
keeps every flag it held, and SWITCH_ACTIVITY is raised exactly when some edge passed (R5). -/
def Obligations.ActivitySetGainsPassedEdges : Prop :=
  ∀ (s : State) (raw : BitVec 128) (early : List Event), ∃ t : State,
    exec (.scanFrame raw early) s = .next t ∧
    (∀ n : SwitchNo, t.activity.getLsbD n.val = true ↔ s.activity.getLsbD n.val = true ∨ passedEdge s t n) ∧
    (t.isPending .switchActivity = true ↔ s.isPending .switchActivity = true ∨ ∃ n : SwitchNo, passedEdge s t n)

/-- A tilt event counts only in an OPEN, untilted session with no swing window running; below the limit it warns; the
closing edge of a TILT switch that reaches the limit tilts the game before the same edge reaches the router, so that
no score, award-hit flag or playfield multiplier changes; the swing timer's expiry stops it (R10, R111, R153, R167,
R168). An expiry is taken when the tick that leaves one unit has made it due (the model's reading of time, log 3). -/
def Obligations.TiltEventsWarnAndTilt : Prop :=
  ((∀ s : State, s.session.state = .closed ∨ s.session.tilt = .tilted ∨ s.session.swing.running = true →
    tiltEvent s = s) ∧
  (∀ s : State, s.session.state = .opened → s.session.tilt ≠ .tilted → s.session.swing.running = false →
    s.session.warnings + 1 < s.options.limit →
    tiltEvent s =
      { s with session := { s.session with
                  warnings := s.session.warnings + 1, tilt := .warned,
                  swing := if s.options.swingWindow = 0 then s.session.swing
                    else ⟨s.options.swingWindow, true, false⟩ } }.raise .tiltWarning)) ∧
  (∀ (s : State) (n : SwitchNo), s.switches[n].cls = .tilt → s.session.state = .opened → s.session.tilt ≠ .tilted →
    s.session.swing.running = false → s.options.limit ≤ s.session.warnings + 1 →
    let t := deliverEdge (n, .closing) s
    t.session.tilt = .tilted ∧ t.session.warnings = s.session.warnings + 1 ∧ t.isPending .tiltWarning = true ∧
      t.isPending .tilted = true ∧ t.acct.saveState = .off ∧
      t.session.swing = (if s.options.swingWindow = 0 then s.session.swing else ⟨s.options.swingWindow, true, false⟩) ∧
      t.awardHits = s.awardHits ∧ t.pfMult = s.pfMult ∧ (∀ p : PlayerNo, t.pages[p].score = s.pages[p].score) ∧
      (∀ c ∈ t.page.stack, c.tpl.endOnTilt = false)) ∧
  (∀ s : State, s.session.swing.running = true → s.session.swing.due = true →
    exec .swingTimerExpiry s = .next { s with session := { s.session with swing := ⟨0, false, false⟩ } })

/-- The reading requests of the scanner, the devices and the arbiter answer with the layouts of R190 and change
nothing, but that READ_ACTIVITY leaves every activity flag clear (R12 to R14, R42, R57, R190). Where a chapter gives a
layout by name only, the reading is the model's: a reply carries the fields its rule names and no leading number
beyond them (log 24). -/
def Obligations.HardwareReadsAnswer : Prop :=
  (∀ s : State, s.link.executing = none →
    (∀ n : SwitchNo, exec (.readSwitch [byte n.val]) s = .next (s.answered 1
      ([nameByte SwitchClass.names s.switches[n].cls, byte s.switches[n].closeDebounce,
        byte s.switches[n].openDebounce, nameByte EdgeSelection.names s.switches[n].selection,
        nameByte Level.names s.switches[n].level, byte s.switches[n].pendingFrames] ++
        bytes32 s.switches[n].lastClose.toNat ++ bytes32 s.switches[n].lastOpen.toNat ++
        [flagByte (s.activity.getLsbD n.val)]))) ∧
    (∀ n : Byte, 127 < n.toNat → exec (.readSwitch [n]) s = .next (s.refused 1 .notFound)) ∧
    (∃ levels : List Byte, levels.length = 16 ∧
      (∀ n : SwitchNo, (levels.getD (n.val / 8) 0).getLsbD (n.val % 8) = (s.switches[n].level == .closed)) ∧
      exec (.readSwitches []) s = .next (s.answered 0 (levels ++ bytes32 s.frameCount.toNat))) ∧
    (∃ flags : List Byte, flags.length = 16 ∧
      (∀ n : SwitchNo, (flags.getD (n.val / 8) 0).getLsbD (n.val % 8) = s.activity.getLsbD n.val) ∧
      exec (.readActivity []) s = .next ({ s with activity := 0 }.answered 0 (flags ++ bytes32 s.frameCount.toNat)))) ∧
  (∀ s : State, s.link.executing = none →
    (∀ d : DevNo,
      let c := s.devices[d].cfg
      let l := s.devices[d].live
      let out : List Byte :=
        [byte d.val, nameByte DeviceKind.names c.kind, byte c.capacity, byte c.positions.length] ++
          c.positions.map (fun n => byte n.val) ++ List.replicate (8 - c.positions.length) 0xFF ++
          [optByte (c.entry.map (·.val)), byte c.coil.val, targetByte c.target, byte c.settleTime,
            byte c.confirmTimeout, byte c.maxAttempts, byte c.flightTime, byte c.holdTime,
            nameByte LockPolicy.names c.policy, flagByte c.searchFlag, flagByte c.configured,
            nameByte DeviceState.names l.state, byte l.occupancy, byte l.entriesSeen, byte l.owed, orderByte l.order,
            byte l.attemptCount, byte l.attemptExits, flagByte l.attemptConfirmed, byte l.exitsInOrder,
            flagByte l.stopPending, flagByte l.countFault, byte l.settle.count, byte l.confirm.count,
            byte l.hold.count,
            byte ((if l.settle.running then 1 else 0) + (if l.confirm.running then 2 else 0) +
              if l.hold.running then 4 else 0)]
      exec (.readDevice [byte d.val]) s = .next (s.answered 1 out) ∧
        (c.positions.length ≤ 8 → out.length = 38)) ∧
    (∀ n : SlotNo, exec (.readSlot [byte n.val]) s = .next (s.answered 1
      [byte n.val, nameByte SlotState.names s.slots[n].state, byte s.slots[n].device.val, byte s.slots[n].requested,
        byte s.slots[n].ejected, nameByte SlotResult.names s.slots[n].result])) ∧
    (∀ x : Byte, 7 < x.toNat → exec (.readDevice [x]) s = .next (s.refused 1 .notFound) ∧
      exec (.readSlot [x]) s = .next (s.refused 1 .notFound))) ∧
  (∀ s : State, s.link.executing = none →
    (∀ c : CoilNo, exec (.readCoil [byte c.val]) s = .next (s.answered 1
      ([nameByte groupNames s.coils[c].cfg.group, byte s.coils[c].cfg.pulseWidth, byte s.coils[c].cfg.recovery,
        nameByte Profile.names s.coils[c].cfg.profile, byte s.coils[c].cfg.repeatPeriod,
        byte s.coils[c].cfg.repeatLimit, byte s.coils[c].cfg.holdWindow, flagByte s.coils[c].cfg.searchFlag,
        nameByte CoilState.names s.coils[c].live.state, ownerByte s.coils[c].live.owner,
        classByte s.coils[c].live.cls, byte s.coils[c].live.priority, byte s.coils[c].live.age,
        optByte (s.coils[c].live.held.map (·.val)), byte s.coils[c].live.grantWidth, byte s.coils[c].live.pulses,
        flagByte s.coils[c].live.interval, byte s.coils[c].live.timer.count, flagByte s.coils[c].live.timer.running,
        nameByte GroupState.names (s.group s.coils[c].cfg.group).state]))) ∧
    (∀ c : Byte, 23 < c.toNat → exec (.readCoil [c]) s = .next (s.refused 1 .notFound)) ∧
    (∃ a b : List CoilNo, a.Pairwise (· < ·) ∧ b.Pairwise (· < ·) ∧
      (∀ c : CoilNo, c ∈ a ↔ s.coils[c].live.state = .waiting ∧ s.coils[c].cfg.group = .a) ∧
      (∀ c : CoilNo, c ∈ b ↔ s.coils[c].live.state = .waiting ∧ s.coils[c].cfg.group = .b) ∧
      let block (r : GroupRec) (ws : List CoilNo) : List Byte :=
        [nameByte GroupState.names r.state, byte r.gap.count, flagByte r.gap.running, byte r.last.val,
          byte ws.length] ++ ws.flatMap (fun c => [byte c.val, byte s.coils[c].live.priority]) ++
          List.replicate (2 * (24 - ws.length)) 0xFF
      (block s.groupA a).length = 53 ∧ (block s.groupB b).length = 53 ∧
      exec (.readGroups []) s = .next (s.answered 0 (block s.groupA a ++ block s.groupB b))))

/-! ### The ball devices -/

/-- SET_DEVICE: REFUSED_STATE while any device is enabled, NOT_FOUND for a device above 7, then the NOT_FOUND and the
BAD_VALUE rows of R19's table in its order; a body that passes every check is stored field by field, a SHOOTER or a
SAUCER with capacity 1, kind UNUSED with capacity 1 and no switches, and a device 2 to 7 loses its lit locks and
credits in every page (R19, R190; the two bytes that R19's table does not list are within R189's names, log 10; for
kind UNUSED a coil or target that the skipped checks would have refused is stored as a free value, log 9). -/
def Obligations.SetDeviceOutcome : Prop :=
  (∀ (s : State) (body : List Byte) (policy : LockPolicy) (search : Bool),
    s.link.executing = none → body.length = 20 →
    (s.devicesEnabled = true →
      exec (.setDevice (body ++ [nameByte LockPolicy.names policy, flagByte search])) s =
        .next (s.refused 22 .refusedState)) ∧
    (s.devicesEnabled = false → 7 < (body.getD 0 0).toNat →
      exec (.setDevice (body ++ [nameByte LockPolicy.names policy, flagByte search])) s =
        .next (s.refused 22 .notFound))) ∧
  (∀ (s : State) (d : DevNo) (k cap len en co ta st ct ma ft ht : Byte) (places : List Byte) (policy : LockPolicy)
    (search : Bool),
    s.link.executing = none → s.devicesEnabled = false → places.length = 8 →
    let send := exec (.setDevice ([byte d.val, k, cap, len] ++ places ++
      [en, co, ta, st, ct, ma, ft, ht, nameByte LockPolicy.names policy, flagByte search])) s
    let list := places.take len.toNat
    let capacity := if k = 1 ∨ k = 4 then cap.toNat else 1
    let unknown : Prop := (k ≠ 0 ∧ ∃ b ∈ list, 127 < b.toNat) ∨ (127 < en.toNat ∧ en ≠ 0xFF) ∨
      (k ≠ 0 ∧ 23 < co.toNat) ∨ (k ≠ 0 ∧ 7 < ta.toNat ∧ ta ≠ 0xFF)
    let times : Prop := st ≠ 0 ∧ ct ≠ 0 ∧ ft ≠ 0 ∧ ma ≠ 0 ∧ ma.toNat ≤ 7
    let bad : Prop := ¬ ((d = 0 ∧ k = 1) ∨ (d = 1 ∧ k = 2) ∨ (2 ≤ d.val ∧ (k = 0 ∨ k = 3 ∨ k = 4))) ∨
      (k ≠ 0 ∧ (capacity = 0 ∨ 8 < capacity)) ∨
      (k ≠ 0 ∧ (len.toNat ≠ capacity ∨ ¬ list.Nodup ∨ en ∈ list)) ∨ (k ≠ 0 ∧ (ta = 0 ∨ ta = byte d.val)) ∨ ¬ times
    (unknown → send = .next (s.refused 22 .notFound)) ∧
    (¬ unknown → bad → send = .next (s.refused 22 .badValue)) ∧
    (¬ unknown → 2 ≤ d.val → k = 0 → times → ∃ (coil : CoilNo) (target : Target),
      (∀ c : CoilNo, co = byte c.val → coil = c) ∧ (ta = 0xFF → target = .playfield) ∧
      (∀ e : DevNo, e ≠ 0 → e ≠ d → ta = byte e.val → target = .device e) ∧
      send = .next
        { s with devices := s.devices.set d
                    { s.devices[d] with
                      cfg := { kind := .unused, configured := true, capacity := 1, positions := [], entry := none,
                               coil := coil, target := target, settleTime := st.toNat, confirmTimeout := ct.toNat,
                               maxAttempts := ma.toNat, flightTime := ft.toNat, holdTime := ht.toNat,
                               policy := policy, searchFlag := search } },
                 pages := if h : 2 ≤ d.val then
                     s.pages.map fun g => { g with lit := g.lit.set (d.val - 2) 0 (by omega),
                                                   credits := g.credits.set (d.val - 2) 0 (by omega) }
                   else s.pages,
                 link := s.link.after 22 { status := .ok, body := [] } })) ∧
  (∀ (s : State) (d : DevNo) (kind : DeviceKind) (cap : Byte) (ps : List SwitchNo) (rest : List Byte)
    (entry : Option SwitchNo) (coil : CoilNo) (target : Target) (st ct ma ft ht : Byte) (policy : LockPolicy)
    (search : Bool),
    s.link.executing = none → s.devicesEnabled = false → kind ≠ .unused → kindFits d kind = true →
    ps.length = (if kind = .trough ∨ kind = .lock then cap.toNat else 1) → 1 ≤ ps.length → ps.length ≤ 8 →
    ps.length + rest.length = 8 → ps.Nodup → (∀ n ∈ ps, entry ≠ some n) → target.From d →
    1 ≤ st.toNat → 1 ≤ ct.toNat → 1 ≤ ft.toNat → 1 ≤ ma.toNat → ma.toNat ≤ 7 →
    exec (.setDevice ([byte d.val, nameByte DeviceKind.names kind, cap, byte ps.length] ++
        ps.map (fun n => byte n.val) ++ rest ++
        [optByte (entry.map (·.val)), byte coil.val, targetByte target, st, ct, ma, ft, ht,
          nameByte LockPolicy.names policy, flagByte search])) s =
      .next
        { s with devices := s.devices.set d
                    { s.devices[d] with
                      cfg := { kind := kind, configured := true, capacity := ps.length, positions := ps,
                               entry := entry, coil := coil, target := target, settleTime := st.toNat,
                               confirmTimeout := ct.toNat, maxAttempts := ma.toNat, flightTime := ft.toNat,
                               holdTime := ht.toNat, policy := policy, searchFlag := search } },
                 pages := if h : 2 ≤ d.val then
                     s.pages.map fun g => { g with lit := g.lit.set (d.val - 2) 0 (by omega),
                                                   credits := g.credits.set (d.val - 2) 0 (by omega) }
                   else s.pages,
                 link := s.link.after 22 { status := .ok, body := [] } })

/-- ENABLE_DEVICES: its refusals in their order; accepted, the devices that are not UNUSED come into service, and the
counts follow from the sum S of the balls their switches show and from the declared B. DISABLE_DEVICES: refused in an
OPEN session; otherwise every slot ends, every device is at rest with its configuration kept, and all five terms of
the identity are 0 (R40, R41, R68, R70; that the idle timer stays stopped when missing balls come in is log 20). -/
def Obligations.EnableAndDisableDevicesOutcome : Prop :=
  (∀ (s : State) (b : Byte), s.link.executing = none →
    (s.devicesEnabled = true ∨ s.devices[trough].cfg.configured = false ∨ s.devices[shooter].cfg.configured = false →
      exec (.enableDevices [b]) s = .next (s.refused 1 .refusedState)) ∧
    (s.devicesEnabled = false → s.devices[trough].cfg.configured = true → s.devices[shooter].cfg.configured = true →
      ((∃ d e : DevNo, d ≠ e ∧ s.devices[d].cfg.kind ≠ .unused ∧ s.devices[e].cfg.kind ≠ .unused ∧
          s.devices[d].cfg.coil = s.devices[e].cfg.coil) ∨
        (∃ d e : DevNo, s.devices[d].cfg.kind ≠ .unused ∧ s.devices[d].cfg.target = .device e ∧
          s.devices[e].cfg.kind = .unused) ∨ b.toNat = 0 ∨ 8 < b.toNat) →
      exec (.enableDevices [b]) s = .next (s.refused 1 .badValue))) ∧
  (∀ (s : State) (b : Nat), s.link.executing = none → s.DevicesSafe → s.devicesEnabled = false →
    s.devices[trough].cfg.configured = true → s.devices[shooter].cfg.configured = true →
    s.sharedCoil = false → s.deadTarget = false → 1 ≤ b → b ≤ 8 →
    let sum := ((indices 8).map fun d =>
      if s.devices[d].cfg.kind = .unused then 0 else s.closedCount d).sum
    ∃ t : State, exec (.enableDevices [byte b]) s = .next t ∧
      (∀ d : DevNo, t.devices[d].cfg = s.devices[d].cfg ∧ t.devices[d].live.entriesSeen = 0 ∧
        (s.devices[d].cfg.kind = .unused → t.devices[d].live.state = .disabled) ∧
        (s.devices[d].cfg.kind ≠ .unused → t.devices[d].live.state = .idle ∨ t.devices[d].live.state = .ejecting) ∧
        (s.devices[d].cfg.kind ≠ .unused → sum ≤ 16 → t.devices[d].live.occupancy = s.closedCount d)) ∧
      t.Conserved ∧ t.acct.live = 0 ∧ t.acct.flights = [] ∧
      (sum ≤ b → t.acct.installed = b ∧ t.acct.missing = b - sum) ∧
      (b < sum → t.acct.installed = min 16 sum ∧ t.acct.missing = 0 ∧ t.isPending .extraBall = true) ∧
      t.acct.phase = .noPlay ∧ t.acct.serveLaunch = false ∧ t.acct.multiball = false ∧ t.acct.inPlay = 0 ∧
      t.acct.saveState = .off ∧ t.acct.saveTimer = ⟨0, false, false⟩ ∧ t.acct.savesUsed = 0 ∧
      t.acct.search = .idle ∧ t.acct.round = 0 ∧ t.acct.idleTimer.running = false ∧
      t.acct.searchTimer.running = false ∧ t.link = s.link.after 1 { status := .ok, body := [] }) ∧
  (∀ s : State, s.link.executing = none →
    (s.session.state = .opened → exec (.disableDevices []) s = .next (s.refused 0 .refusedState)) ∧
    (s.session.state = .closed → ∃ t : State, exec (.disableDevices []) s = .next t ∧
      (∀ d : DevNo, t.devices[d].cfg = s.devices[d].cfg ∧ t.devices[d].live.AtRest) ∧
      (∀ n : SlotNo, t.slots[n].state = .idle ∧ t.slots[n].device = s.slots[n].device ∧
        t.slots[n].requested = s.slots[n].requested ∧ t.slots[n].ejected = s.slots[n].ejected ∧
        t.slots[n].result = (if s.slots[n].state = .idle then s.slots[n].result else .cancelled)) ∧
      ((∃ n : SlotNo, s.slots[n].state ≠ .idle) → t.isPending .ejectFinished = true) ∧
      t.acct.installed = 0 ∧ t.balls = 0 ∧ t.acct.phase = .noPlay ∧ t.acct.serveLaunch = false ∧
      t.acct.multiball = false ∧ t.acct.inPlay = 0 ∧ t.acct.saveState = .off ∧
      t.acct.saveTimer = ⟨0, false, false⟩ ∧ t.acct.savesUsed = 0 ∧ t.acct.search = .idle ∧ t.acct.round = 0 ∧
      t.acct.idleTimer.running = false ∧ t.acct.searchTimer.running = false ∧
      t.link = s.link.after 0 { status := .ok, body := [] }))

/-- EJECT: its refusals in their order; a device that cannot take an order queues the slot behind its others; an IDLE
device with a ball and nothing else to do takes it at once and hands its request to its coil, which waits on an IDLE
coil and is held on any other; at an IDLE device without a ball the slot ends SHORT at once (R26 to R28, R30, R48). -/
def Obligations.EjectIssuesASlot : Prop :=
  ∀ (s : State) (count : Byte), s.link.executing = none →
    (∀ d : Byte, 7 < d.toNat → exec (.eject [d, count]) s = .next (s.refused 2 .notFound)) ∧
    (∀ d : DevNo, s.devices[d].live.state = .disabled →
      exec (.eject [byte d.val, count]) s = .next (s.refused 2 .refusedState)) ∧
    (∀ d : DevNo, s.devices[d].live.state ≠ .disabled → count = 0 →
      exec (.eject [byte d.val, count]) s = .next (s.refused 2 .badValue)) ∧
    (∀ d : DevNo, s.devices[d].live.state ≠ .disabled → count ≠ 0 → (∀ n : SlotNo, s.slots[n].state ≠ .idle) →
      exec (.eject [byte d.val, count]) s = .next (s.refused 2 .refusedFull)) ∧
    (∀ (d : DevNo) (n : SlotNo), s.devices[d].live.state ≠ .disabled → count ≠ 0 → s.slots[n].state = .idle →
      (∀ m : SlotNo, m < n → s.slots[m].state ≠ .idle) →
      let link := s.link.after 2 { status := .ok, body := [byte n.val] }
      (s.devices[d].live.state ≠ .idle →
        exec (.eject [byte d.val, count]) s = .next
          { s with slots := s.slots.set n
                      { state := .queued, device := d, requested := min 8 count.toNat, ejected := 0, result := .none,
                        issue := s.queuedCount d },
                   link := link }) ∧
      (s.devices[d].live.state = .idle → s.devices[d].live.owed = 0 → s.queuedCount d = 0 →
        1 ≤ s.devices[d].live.occupancy →
        exec (.eject [byte d.val, count]) s = .next
          { s with slots := s.slots.set n
                      { state := .active, device := d, requested := min 8 count.toNat, ejected := 0, result := .none,
                        issue := 0 },
                   devices := s.devices.set d
                      { s.devices[d] with
                        live := { s.devices[d].live with
                                    state := .ejecting, order := .slot n, exitsInOrder := 0, stopPending := false,
                                    attemptCount := 1, attemptExits := 0, attemptConfirmed := false,
                                    intended := if s.profile d = .holdRelease then min 8 count.toNat else 1 } },
                   coils := s.coils.set s.devices[d].cfg.coil
                      { s.coils[s.devices[d].cfg.coil] with
                        live := if s.coils[s.devices[d].cfg.coil].live.state = .idle
                          then waitingFor d s s.coils[s.devices[d].cfg.coil].live
                          else { s.coils[s.devices[d].cfg.coil].live with held := some d } },
                   link := link }) ∧
      (s.devices[d].live.state = .idle → s.queuedCount d = 0 → s.devices[d].live.occupancy = 0 →
        exec (.eject [byte d.val, count]) s = .next (State.raise
          { s with slots := s.slots.set n
                      { state := .idle, device := d, requested := min 8 count.toNat, ejected := 0, result := .short,
                        issue := 0 },
                   devices := s.devices.set d
                      { s.devices[d] with
                        live := { s.devices[d].live with order := .none, exitsInOrder := 0, stopPending := false } },
                   link := link } .ejectFinished)))

/-- CANCEL_EJECTS, by the stage of the device's current ball: queued slots of the device end CANCELLED, include_owed
clears its owed ejects, a ball that still waits ends its order at once, CANCELLED or DONE, and other devices are
untouched; a device above 7 is NOT_FOUND (R38). -/
def Obligations.CancelEjectsOutcome : Prop :=
  (∀ (s : State) (d : DevNo) (owed : Bool), s.link.executing = none → ∃ t : State,
    exec (.cancelEjects [byte d.val, flagByte owed]) s = .next t ∧
    t.link = s.link.after 2 { status := .ok, body := [] } ∧
    (∀ e : DevNo, e ≠ d → t.devices[e] = s.devices[e]) ∧ t.devices[d].cfg = s.devices[d].cfg ∧
    t.devices[d].live.occupancy = s.devices[d].live.occupancy ∧
    t.devices[d].live.owed = (if owed then 0 else s.devices[d].live.owed) ∧
    (∀ n : SlotNo, s.slots[n].state = .queued → s.slots[n].device = d → s.devices[d].live.order ≠ .slot n →
      t.slots[n].state = .idle ∧ t.slots[n].result = .cancelled ∧ t.slots[n].ejected = s.slots[n].ejected ∧
        t.slots[n].requested = s.slots[n].requested ∧ t.isPending .ejectFinished = true) ∧
    (s.devices[d].live.state = .idle ∨ s.devices[d].live.state = .jammed ∨ s.devices[d].live.state = .disabled →
      t.devices[d].live = { s.devices[d].live with owed := if owed then 0 else s.devices[d].live.owed }) ∧
    (s.devices[d].live.state = .confirming → t.devices[d].live =
      { s.devices[d].live with owed := if owed then 0 else s.devices[d].live.owed, stopPending := true }) ∧
    (s.devices[d].live.state = .ejecting → s.stage s.devices[d].cfg.coil d = .firing → t.devices[d].live =
      { s.devices[d].live with owed := if owed then 0 else s.devices[d].live.owed, stopPending := true }) ∧
    (s.devices[d].live.state = .ejecting → s.stage s.devices[d].cfg.coil d = .between →
      t.devices[d].live.state = .confirming ∧ t.devices[d].live.stopPending = true ∧
        t.devices[d].live.confirm = ⟨s.devices[d].cfg.confirmTimeout, true, false⟩) ∧
    (s.devices[d].live.state = .ejecting → s.stage s.devices[d].cfg.coil d = .holding →
      t.devices[d].live.state = .confirming ∧ t.devices[d].live.stopPending = true ∧
        t.devices[d].live.settle = ⟨s.devices[d].cfg.settleTime, true, false⟩ ∧
        t.devices[d].live.confirm = ⟨s.devices[d].cfg.confirmTimeout, true, false⟩) ∧
    (s.devices[d].live.state = .ejecting → s.stage s.devices[d].cfg.coil d = .queued →
      owed = true ∨ s.devices[d].live.owed = 0 → t.devices[d].live.state = .idle ∧ t.devices[d].live.order = .none)) ∧
  (∀ (s : State), s.link.executing = none →
    (∀ (d : Byte) (owed : Bool), 7 < d.toNat →
      exec (.cancelEjects [d, flagByte owed]) s = .next (s.refused 2 .notFound)) ∧
    (∀ (d : DevNo) (n : SlotNo), s.devices[d].live.state = .ejecting → s.devices[d].live.order = .slot n →
      s.slots[n].state = .active → s.coils[s.devices[d].cfg.coil].live.state = .waiting →
      s.coils[s.devices[d].cfg.coil].live.owner = some (.device d) → s.coils[s.devices[d].cfg.coil].live.pulses = 0 →
      s.coils[s.devices[d].cfg.coil].live.held = none →
      ∃ t : State, exec (.cancelEjects [byte d.val, flagByte true]) s = .next t ∧
        t.slots[n] = { s.slots[n] with
          state := .idle, result := if s.slots[n].ejected = s.slots[n].requested then .done else .cancelled } ∧
        t.isPending .ejectFinished = true ∧ t.coils[s.devices[d].cfg.coil].live.state = .idle ∧
        t.coils[s.devices[d].cfg.coil].live.owner = none ∧ t.devices[d].live.state = .idle ∧
        t.devices[d].live.order = .none ∧ t.devices[d].live.attemptCount = 0 ∧ t.devices[d].live.exitsInOrder = 0))

/-- CLEAR_JAM: refused unless the device is JAMMED, or IDLE with its count-fault flag set; a device it accepts counts
its closed switches afresh and returns to service, here with room for every ball that came in (R39). -/
def Obligations.ClearJamReturnsToService : Prop :=
  ∀ s : State, s.link.executing = none →
    (∀ d : Byte, 7 < d.toNat → exec (.clearJam [d]) s = .next (s.refused 1 .notFound)) ∧
    (∀ d : DevNo, s.devices[d].live.clearable = false →
      exec (.clearJam [byte d.val]) s = .next (s.refused 1 .refusedState)) ∧
    (∀ d : DevNo, s.devices[d].live.state = .jammed ∨
        (s.devices[d].live.state = .idle ∧ s.devices[d].live.countFault = true) →
      s.acct.installed + (s.closedCount d - s.devices[d].live.occupancy) ≤ Config.maxInstalled →
      ∃ t : State, exec (.clearJam [byte d.val]) s = .next t ∧
        t.devices[d].live.occupancy = s.closedCount d ∧ t.devices[d].live.entriesSeen = 0 ∧
        t.devices[d].live.countFault = false ∧ t.devices[d].live.settle.running = false ∧
        (t.devices[d].live.state = .idle ∨ t.devices[d].live.state = .ejecting) ∧
        (t.devices[d].live.state = .idle → t.devices[d].live.attemptCount = 0) ∧
        t.link = s.link.after 1 { status := .ok, body := [] })

/-- An evaluation counts the device: occupancy becomes the number of closed position switches, entries seen 0, and,
where no ball can have come in, each missing ball is one in-flight record with the cause, target and flight time of
R23 and R63, behind the records already there (R21 to R23, R63), as long as there is room for every ball that came in.
With 16 balls installed, an entry that no place supplies sets the count-fault flag, is taken off the occupancy and
raises EXTRA_BALL when the flag was clear (R24, R67). A SAUCER whose occupancy rises from 0 to 1 starts its hold, at
hold time 0 it owes an eject at once, a hold that runs is not restarted, and an occupancy of 0 stops it (R37; one that
was 0 already stops it too, log 33). An expiry is taken when the tick that leaves one unit has made it due (the
model's reading of time, log 3). -/
def Obligations.EvaluationCountsTheDevice : Prop :=
  (∀ (s : State) (d : DevNo), s.devices[d].live.settle.running = true → s.devices[d].live.settle.due = true →
    s.acct.installed + (s.closedCount d - s.devices[d].live.occupancy) ≤ Config.maxInstalled →
    ∃ t : State, exec (.evaluation d) s = .next t ∧
      t.devices[d].live.occupancy = s.closedCount d ∧ t.devices[d].live.entriesSeen = 0 ∧
      (∀ e : DevNo, e ≠ d → t.devices[e].live.occupancy = s.devices[e].live.occupancy) ∧
      (s.Conserved → t.Conserved) ∧
      (s.devices[d].cfg.entry = none → s.closedCount d ≤ s.devices[d].live.occupancy →
        t.acct.live = s.acct.live ∧ t.acct.missing = s.acct.missing ∧ t.acct.installed = s.acct.installed ∧
        t.acct.flights = s.acct.flights ++ List.replicate (s.devices[d].live.occupancy - s.closedCount d)
          { source := d, target := s.devices[d].cfg.target, stamp := s.frameCount,
            remaining := s.devices[d].cfg.flightTime, due := false,
            cause := if s.devices[d].cfg.kind = .shooter then .launch
              else if s.devices[d].live.order = .none then .unprompted else .eject })) ∧
  (∀ (s : State) (d : DevNo), s.devices[d].live.settle.running = true → s.devices[d].live.settle.due = true →
    s.devices[d].cfg.entry = none → s.devices[d].live.order = .none → s.acct.flights = [] →
    16 ≤ s.acct.installed → s.devices[d].live.occupancy + s.acct.live + s.acct.missing < s.closedCount d →
    let faults := s.closedCount d - s.devices[d].live.occupancy - s.acct.live - s.acct.missing
    ∃ t : State, exec (.evaluation d) s = .next t ∧ t.devices[d].live.countFault = true ∧
      t.devices[d].live.occupancy = s.closedCount d - faults ∧ t.devices[d].live.entriesSeen = 0 ∧
      t.acct.installed = s.acct.installed ∧ t.acct.live = 0 ∧ t.acct.missing = 0 ∧ t.acct.flights = [] ∧
      t.isPending .extraBall = (s.isPending .extraBall || !s.devices[d].live.countFault)) ∧
  (∀ (s : State) (d : DevNo), s.devices[d].live.settle.running = true → s.devices[d].live.settle.due = true →
    s.devices[d].cfg.kind = .saucer → 2 ≤ d.val → s.devices[d].cfg.entry = none →
    s.devices[d].live.state = .idle → s.devices[d].live.order = .none → s.acct.installed < 16 →
    ∃ t : State, exec (.evaluation d) s = .next t ∧
      (s.devices[d].live.occupancy = 0 → s.closedCount d = 1 → s.devices[d].live.hold.running = false →
        s.devices[d].cfg.holdTime ≠ 0 → t.devices[d].live.hold = ⟨s.devices[d].cfg.holdTime, true, false⟩ ∧
          t.devices[d].live.owed = s.devices[d].live.owed) ∧
      (s.devices[d].live.occupancy = 0 → s.closedCount d = 1 → s.devices[d].live.hold.running = false →
        s.devices[d].cfg.holdTime = 0 → t.devices[d].live.owed = min 8 (s.devices[d].live.owed + 1) ∧
          t.devices[d].live.state = .ejecting ∧ t.devices[d].live.order = .owed ∧
          t.devices[d].live.hold = s.devices[d].live.hold) ∧
      (s.devices[d].live.occupancy = 0 → s.closedCount d = 1 → s.devices[d].live.hold.running = true →
        t.devices[d].live.hold = s.devices[d].live.hold ∧ t.devices[d].live.owed = s.devices[d].live.owed) ∧
      (s.closedCount d = 0 → t.devices[d].live.hold = ⟨s.devices[d].live.hold.count, false, false⟩ ∧
        t.devices[d].live.owed = s.devices[d].live.owed))

/-- An exit counted in CONFIRMING against a slot order of a PULSE coil confirms the ball: with the order met the
device waits for its confirm timer, and with balls still needed and held it starts the next ball. A fallback in
CONFIRMING below the maximum attempts is attributed to the device's youngest record, the order needs the ball again,
and the ball is started with the attempt count raised (R31, R34, step 0 of R66). An expiry is taken when the tick that
leaves one unit has made it due (the model's reading of time, log 3). -/
def Obligations.ExitsAndFallbacksMeetTheOrder : Prop :=
  (∀ (s : State) (d : DevNo) (n : SlotNo), s.devices[d].live.settle.running = true →
    s.devices[d].live.settle.due = true → s.devices[d].live.state = .confirming → s.devices[d].live.order = .slot n →
    s.devices[d].live.stopPending = false → s.devices[d].cfg.entry = none → s.devices[d].live.attemptExits = 0 →
    s.devices[d].live.intended = 1 → s.devices[d].live.occupancy = s.closedCount d + 1 →
    s.slots[n].state = .active → s.slots[n].ejected < s.slots[n].requested →
    ∃ t : State, exec (.evaluation d) s = .next t ∧
      t.slots[n] = { s.slots[n] with ejected := s.slots[n].ejected + 1 } ∧ t.devices[d].live.order = .slot n ∧
      t.devices[d].live.exitsInOrder = min 8 (s.devices[d].live.exitsInOrder + 1) ∧
      t.devices[d].live.confirm = s.devices[d].live.confirm ∧
      (s.isPending .doubleEject = false → t.isPending .doubleEject = false) ∧
      (s.slots[n].ejected + 1 = s.slots[n].requested ∨ s.closedCount d = 0 →
        t.devices[d].live.state = .confirming ∧ t.devices[d].live.attemptConfirmed = true ∧
          t.devices[d].live.attemptExits = 1) ∧
      (s.slots[n].ejected + 1 < s.slots[n].requested → 1 ≤ s.closedCount d →
        t.devices[d].live.state = .ejecting ∧ t.devices[d].live.attemptCount = 1 ∧
          t.devices[d].live.attemptConfirmed = false ∧ t.devices[d].live.attemptExits = 0)) ∧
  (∀ (s : State) (d : DevNo) (older younger : List FlightRec) (r : FlightRec),
    s.devices[d].live.settle.running = true → s.devices[d].live.settle.due = true →
    s.devices[d].live.state = .confirming → s.devices[d].live.order = .owed → s.devices[d].live.stopPending = false →
    1 ≤ s.devices[d].live.exitsInOrder → s.devices[d].live.confirm.running = true →
    s.devices[d].live.attemptCount < s.devices[d].cfg.maxAttempts → s.devices[d].cfg.entry = none →
    s.closedCount d = s.devices[d].live.occupancy + 1 → s.acct.flights = older ++ r :: younger → r.source = d →
    (∀ x ∈ younger, x.source ≠ d) →
    ∃ t : State, exec (.evaluation d) s = .next t ∧
      t.acct.flights = older ++ younger ∧ t.acct.live = s.acct.live ∧ t.acct.missing = s.acct.missing ∧
      t.devices[d].live.owed = min 8 (s.devices[d].live.owed + 1) ∧
      t.devices[d].live.exitsInOrder = s.devices[d].live.exitsInOrder - 1 ∧
      t.devices[d].live.state = .ejecting ∧ t.devices[d].live.order = .owed ∧
      t.devices[d].live.attemptCount = s.devices[d].live.attemptCount + 1 ∧
      t.devices[d].live.hold = s.devices[d].live.hold ∧ t.decisions = s.decisions)

/-- Exits that an evaluation counts in EJECTING are confirmed against the order, with DOUBLE_EJECT when they exceed
the balls the attempt intends. A request that still waits or is held is withdrawn when the order is met, and otherwise
serves the next ball; a granted pulse of a PULSE coil completes; a REPEAT is ended from its second pulse on or when
the order is met, and between two pulses the device enters CONFIRMING at once; a HOLD_RELEASE coil counts on, is ended
when the order is met, and the release moves the device to CONFIRMING. An exit counted in CONFIRMING with stop pending
ends the order CANCELLED or DONE (R29 to R32, R38, R54; in EJECTING stop pending only keeps further balls back, log
16, and a REPEAT device that enters CONFIRMING starts its next ball in the same evaluation, log 17). An expiry is
taken when the tick that leaves one unit has made it due (the model's reading of time, log 3). -/
def Obligations.ExitsInEjectingFollowTheProfile : Prop :=
  (∀ (s : State) (d : DevNo) (n : SlotNo), s.devices[d].live.settle.running = true →
    s.devices[d].live.settle.due = true → s.devices[d].cfg.entry = none →
    s.closedCount d < s.devices[d].live.occupancy → s.devices[d].live.order = .slot n →
    let v := s.devices[d]
    let c := v.cfg.coil
    let exits := v.live.occupancy - s.closedCount d
    let ejected := min s.slots[n].requested (s.slots[n].ejected + exits)
    let met : Prop := s.slots[n].requested ≤ s.slots[n].ejected + exits
    ∃ t : State, exec (.evaluation d) s = .next t ∧
      t.devices[d].cfg = v.cfg ∧ t.devices[d].live.occupancy = s.closedCount d ∧
      t.isPending .doubleEject =
        (s.isPending .doubleEject || decide (v.live.intended < min 8 (v.live.attemptExits + exits))) ∧
      (v.live.state = .ejecting →
        t.slots = s.slots.set n { s.slots[n] with ejected := ejected } ∧ t.devices[d].live.order = .slot n ∧
        t.devices[d].live.exitsInOrder = min 8 (v.live.exitsInOrder + exits) ∧
        t.devices[d].live.owed = v.live.owed ∧
        (let confirms : Prop := t.devices[d].live.state = .confirming ∧
           t.devices[d].live.confirm = ⟨v.cfg.confirmTimeout, true, false⟩ ∧
           t.devices[d].live.attemptConfirmed = true ∧
           t.devices[d].live.attemptExits = min 8 (v.live.attemptExits + exits) ∧
           t.devices[d].live.attemptCount = v.live.attemptCount
         let goesOn : Prop := t.devices[d].live.state = .ejecting ∧ t.devices[d].live.attemptConfirmed = true ∧
           t.devices[d].live.attemptExits = min 8 (v.live.attemptExits + exits) ∧
           t.devices[d].live.attemptCount = v.live.attemptCount
         let servesNext : Prop := t.devices[d].live.state = .ejecting ∧ t.devices[d].live.attemptConfirmed = false ∧
           t.devices[d].live.attemptExits = 0 ∧ t.devices[d].live.attemptCount = v.live.attemptCount ∧
           t.coils = s.coils
         let ended : Prop := t.coils = s.coils.set c { s.coils[c] with live := { s.coils[c].live with ending := true } }
         let recovers : Prop := t.coils[c].live.state = .recovering ∧ t.coils[c].live.interval = false ∧
           t.coils[c].live.timer = ⟨s.coils[c].cfg.recovery, true, false⟩
         (s.stage c d = .queued → met → confirms ∧
           (s.coils[c].live.held = some d → t.coils =
             s.coils.set c { s.coils[c] with live := { s.coils[c].live with held := none } }) ∧
           (s.coils[c].live.held = none → t.coils[c].live.state = .idle ∧ t.coils[c].live.owner = none)) ∧
         (s.stage c d = .queued → ¬ met → v.live.stopPending = false → servesNext) ∧
         (s.stage c d = .firing → s.coils[c].cfg.profile = .pulse → met → goesOn ∧ t.coils = s.coils) ∧
         (s.stage c d = .firing → s.coils[c].cfg.profile = .pulse → ¬ met → v.live.stopPending = false → servesNext) ∧
         (s.stage c d = .firing → s.coils[c].cfg.profile = .repeating → 2 ≤ s.coils[c].live.pulses ∨ met →
           goesOn ∧ ended) ∧
         (s.stage c d = .firing → s.coils[c].cfg.profile = .repeating → s.coils[c].live.pulses ≤ 1 → ¬ met →
           v.live.stopPending = false → servesNext) ∧
         (s.stage c d = .firing → s.coils[c].cfg.profile = .holdRelease → met → goesOn ∧ ended) ∧
         (s.stage c d = .firing → s.coils[c].cfg.profile = .holdRelease → ¬ met → goesOn ∧ t.coils = s.coils) ∧
         (s.stage c d = .holding → met → confirms ∧
           t.devices[d].live.settle = ⟨v.cfg.settleTime, true, false⟩ ∧ (s.coils[c].cfg.recovery ≠ 0 → recovers)) ∧
         (s.stage c d = .holding → ¬ met → goesOn ∧ t.coils = s.coils) ∧
         (s.stage c d = .between → met ∨ s.closedCount d = 0 ∨ v.live.stopPending = true →
           confirms ∧ (s.coils[c].cfg.recovery ≠ 0 → recovers)) ∧
         (s.stage c d = .between → ¬ met → 1 ≤ s.closedCount d → v.live.stopPending = false →
           t.devices[d].live.state = .ejecting ∧ t.devices[d].live.attemptCount = 1 ∧
             t.devices[d].live.attemptExits = 0 ∧ t.devices[d].live.attemptConfirmed = false ∧
             t.devices[d].live.confirm = ⟨v.cfg.confirmTimeout, true, false⟩ ∧
             (s.coils[c].cfg.recovery ≠ 0 → recovers ∧ t.coils[c].live.held = some d)))) ∧
      (v.live.state = .confirming → v.live.stopPending = true → s.slots[n].state = .active → v.live.owed = 0 →
        s.queuedCount d = 0 →
        t.slots = s.slots.set n { s.slots[n] with
          state := .idle, ejected := ejected,
          result := if ejected = s.slots[n].requested then .done else .cancelled } ∧
        t.isPending .ejectFinished = true ∧ t.devices[d].live.state = .idle ∧ t.devices[d].live.order = .none ∧
        t.devices[d].live.attemptCount = 0 ∧ t.devices[d].live.attemptExits = 0 ∧
        t.devices[d].live.attemptConfirmed = false ∧ t.devices[d].live.exitsInOrder = 0 ∧
        t.devices[d].live.confirm.running = false ∧ t.coils = s.coils)) ∧
  (∀ (s : State) (d : DevNo), s.devices[d].live.settle.running = true → s.devices[d].live.settle.due = true →
    s.devices[d].cfg.entry = none → s.closedCount d < s.devices[d].live.occupancy → s.devices[d].live.order = .owed →
    s.devices[d].live.state = .ejecting → s.stage s.devices[d].cfg.coil d = .queued →
    s.coils[s.devices[d].cfg.coil].live.held = none →
    s.devices[d].live.owed ≤ s.devices[d].live.occupancy - s.closedCount d →
    ∃ t : State, exec (.evaluation d) s = .next t ∧ t.devices[d].live.owed = 0 ∧
      t.devices[d].live.state = .confirming ∧ t.devices[d].live.order = .owed ∧
      t.devices[d].live.attemptConfirmed = true ∧
      t.devices[d].live.confirm = ⟨s.devices[d].cfg.confirmTimeout, true, false⟩ ∧
      t.devices[d].live.exitsInOrder =
        min 8 (s.devices[d].live.exitsInOrder + (s.devices[d].live.occupancy - s.closedCount d)) ∧
      t.coils[s.devices[d].cfg.coil].live.state = .idle ∧ t.coils[s.devices[d].cfg.coil].live.owner = none)

/-- An accepted edge of a position switch, or a closing edge of the entry switch, restarts the settle timer of every
device that is not DISABLED and names the switch, and the latter raises entries seen; an UNUSED switch is delivered to
none. The confirm timer's expiry in CONFIRMING, stop pending clear: a confirmed slot order ends DONE or SHORT; a
failed attempt below the maximum starts the ball again; at the maximum the device is JAMMED, exits in order keeping
its count (log 18); in EJECTING it only stops the timer. The saucer hold's expiry adds one owed eject, held at 8, and
an IDLE device that holds a ball takes the OWED order at once (R6, R20, R25, R27, R33, R35, R37). An expiry is taken
when the tick that leaves one unit has made it due (the model's reading of time, log 3). -/
def Obligations.DeviceEdgesAndTimers : Prop :=
  (∀ (s : State) (n : SwitchNo) (dir : Direction),
    (s.switches[n].cls = .unused → deliverEdge (n, dir) s = s) ∧
    (s.switches[n].cls = .device → s.switches[n].selection = .none → ∃ t : State, deliverEdge (n, dir) s = t ∧
      t = { s with devices := t.devices } ∧
      ∀ d : DevNo,
        let v := s.devices[d]
        t.devices[d] =
          if v.live.state = .disabled then v
          else if v.cfg.entry = some n ∧ dir = .closing then
            { v with live := { v.live with entriesSeen := min 255 (v.live.entriesSeen + 1),
                                           settle := ⟨v.cfg.settleTime, true, false⟩ } }
          else if n ∈ v.cfg.positions then
            { v with live := { v.live with settle := ⟨v.cfg.settleTime, true, false⟩ } }
          else v)) ∧
  (∀ (s : State) (d : DevNo), s.devices[d].live.confirm.running = true → s.devices[d].live.confirm.due = true →
    (s.devices[d].live.state = .ejecting →
      exec (.confirmTimerExpiry d) s = .next
        { s with devices := s.devices.set d
                    { s.devices[d] with live := { s.devices[d].live with confirm := ⟨0, false, false⟩ } } }) ∧
    (s.devices[d].live.state = .confirming → s.devices[d].live.stopPending = false →
      (∀ n : SlotNo, s.devices[d].live.attemptConfirmed = true → s.devices[d].live.order = .slot n →
        s.slots[n].state = .active → s.devices[d].live.owed = 0 → s.queuedCount d = 0 →
        exec (.confirmTimerExpiry d) s = .next (State.raise
          { s with slots := s.slots.set n
                      { s.slots[n] with
                        state := .idle,
                        result := if s.slots[n].ejected = s.slots[n].requested then .done else .short },
                   devices := s.devices.set d
                      { s.devices[d] with
                        live := { s.devices[d].live with
                                    state := .idle, order := .none, attemptCount := 0, attemptExits := 0,
                                    attemptConfirmed := false, exitsInOrder := 0,
                                    confirm := ⟨0, false, false⟩ } } } .ejectFinished)) ∧
      (s.devices[d].live.attemptConfirmed = false → s.devices[d].live.attemptCount < s.devices[d].cfg.maxAttempts →
        s.coils[s.devices[d].cfg.coil].live.state = .idle →
        exec (.confirmTimerExpiry d) s = .next
          { s with devices := s.devices.set d
                      { s.devices[d] with
                        live := { s.devices[d].live with
                                    state := .ejecting, attemptCount := s.devices[d].live.attemptCount + 1,
                                    attemptExits := 0, attemptConfirmed := false, confirm := ⟨0, false, false⟩,
                                    intended := if s.profile d = .holdRelease then s.needs d else 1 } },
                   coils := s.coils.set s.devices[d].cfg.coil
                      { s.coils[s.devices[d].cfg.coil] with
                        live := waitingFor d s s.coils[s.devices[d].cfg.coil].live } }) ∧
      (s.devices[d].live.attemptConfirmed = false → s.devices[d].cfg.maxAttempts ≤ s.devices[d].live.attemptCount →
        s.devices[d].live.order = .owed →
        exec (.confirmTimerExpiry d) s = .next (State.raise
          { s with devices := s.devices.set d
                      { s.devices[d] with
                        live := { s.devices[d].live with
                                    state := .jammed, order := .none, attemptCount := 0, attemptExits := 0,
                                    attemptConfirmed := false, confirm := ⟨0, false, false⟩ } } } .deviceJammed)))) ∧
  (∀ (s : State) (d : DevNo), s.devices[d].live.hold.running = true → s.devices[d].live.hold.due = true →
    s.devices[d].live.state ≠ .disabled →
    (s.devices[d].live.state ≠ .idle → exec (.saucerHoldExpiry d) s = .next
      { s with devices := s.devices.set d
                  { s.devices[d] with
                    live := { s.devices[d].live with hold := ⟨0, false, false⟩,
                                                     owed := min 8 (s.devices[d].live.owed + 1) } } }) ∧
    (s.devices[d].live.state = .idle → 1 ≤ s.devices[d].live.occupancy →
      s.coils[s.devices[d].cfg.coil].live.state = .idle → exec (.saucerHoldExpiry d) s = .next
      { s with devices := s.devices.set d
                  { s.devices[d] with
                    live := { s.devices[d].live with
                                hold := ⟨0, false, false⟩, owed := min 8 (s.devices[d].live.owed + 1),
                                state := .ejecting, order := .owed, exitsInOrder := 0, stopPending := false,
                                attemptCount := 1, attemptExits := 0, attemptConfirmed := false,
                                intended := if s.profile d = .holdRelease
                                  then min 8 (s.devices[d].live.owed + 1) else 1 } },
               coils := s.coils.set s.devices[d].cfg.coil
                  { s.coils[s.devices[d].cfg.coil] with
                    live := waitingFor d s s.coils[s.devices[d].cfg.coil].live } }))

/-! ### The Kick Arbiter -/

/-- SET_COIL: its whole table in its order, and the nine fields an accepted request stores, a repeat period of 0 or 1
as written where the profile is not REPEAT (log 25). PULSE_COIL: its whole table in its order; an accepted request
waits with owner HOST, class DIRECT, the DIRECT initial priority held at 15, age 0 and the width given (R44, R46, R48,
R56, R58). -/
def Obligations.CoilRequestsOutcome : Prop :=
  (∀ (s : State) (g pw rec pr rp rl hw : Byte) (sf : Bool), s.link.executing = none →
    let busy (c : CoilNo) : Prop := s.coils[c].live.state ≠ .idle ∨ s.coils[c].live.held ≠ none ∨
      ∃ d : DevNo, s.devices[d].cfg.coil = c ∧
        (s.devices[d].live.state = .ejecting ∨ s.devices[d].live.state = .confirming)
    let bad : Prop := 1 < g.toNat ∨ 2 < pr.toNat ∨ pw = 0 ∨ (pr = 1 ∧ rp.toNat ≤ pw.toNat) ∨ rl = 0 ∨ 15 < rl.toNat
    (∀ c : Byte, 23 < c.toNat →
      exec (.setCoil [c, g, pw, rec, pr, rp, rl, hw, flagByte sf]) s = .next (s.refused 9 .notFound)) ∧
    (∀ c : CoilNo, busy c →
      exec (.setCoil [byte c.val, g, pw, rec, pr, rp, rl, hw, flagByte sf]) s = .next (s.refused 9 .refusedBusy)) ∧
    (∀ c : CoilNo, ¬ busy c → bad →
      exec (.setCoil [byte c.val, g, pw, rec, pr, rp, rl, hw, flagByte sf]) s = .next (s.refused 9 .badValue)) ∧
    (∀ c : CoilNo, ¬ busy c → ¬ bad →
      exec (.setCoil [byte c.val, g, pw, rec, pr, rp, rl, hw, flagByte sf]) s = .next
        { s with coils := s.coils.set c
                    { s.coils[c] with
                      cfg := { group := if g = 0 then .a else .b, pulseWidth := pw.toNat, recovery := rec.toNat,
                               profile := if pr = 0 then .pulse else if pr = 1 then .repeating else .holdRelease,
                               repeatPeriod := rp.toNat, repeatLimit := rl.toNat, holdWindow := hw.toNat,
                               searchFlag := sf } },
                 link := s.link.after 9 { status := .ok, body := [] } })) ∧
  (∀ (s : State) (w : Byte), s.link.executing = none →
    (∀ c : Byte, 23 < c.toNat → exec (.pulseCoil [c, w]) s = .next (s.refused 2 .notFound)) ∧
    (∀ c : CoilNo, w = 0 → exec (.pulseCoil [byte c.val, w]) s = .next (s.refused 2 .badValue)) ∧
    (∀ c : CoilNo, w ≠ 0 → (s.coils[c].live.state ≠ .idle ∨ ∃ d : DevNo, s.devices[d].cfg.coil = c ∧
        (s.devices[d].live.state = .ejecting ∨ s.devices[d].live.state = .confirming)) →
      exec (.pulseCoil [byte c.val, w]) s = .next (s.refused 2 .refusedBusy)) ∧
    (∀ c : CoilNo, w ≠ 0 → s.coils[c].live.state = .idle →
      (∀ d : DevNo, s.devices[d].cfg.coil = c →
        s.devices[d].live.state ≠ .ejecting ∧ s.devices[d].live.state ≠ .confirming) →
      exec (.pulseCoil [byte c.val, w]) s = .next
        { s with coils := s.coils.set c
                    { s.coils[c] with
                      live := { s.coils[c].live with
                                  state := .waiting, owner := some .host, cls := some .direct,
                                  priority := min 15 s.options.directPriority, age := 0, ageDue := false,
                                  pulses := 0, interval := false, ending := false, grantWidth := w.toNat,
                                  timer := ⟨0, false, false⟩ } },
                 link := s.link.after 2 { status := .ok, body := [] } }))

/-- A FREE group with waiting coils grants the one of lowest priority, a tie going to the lowest number in FIXED mode
and in ROTATE mode to the first met counting upward from the last granted coil plus 1; the winner fires for its width,
the group is BUSY and records it; a group that is not FREE, or with no coil waiting, grants nothing (R50). -/
def Obligations.GrantFiresTheWinner : Prop :=
  ∀ (s : State) (g : Group),
    ((s.group g).state = .free → (∃ c : CoilNo, s.coils[c].live.state = .waiting ∧ s.coils[c].cfg.group = g) →
      ∃ c : CoilNo, s.coils[c].live.state = .waiting ∧ s.coils[c].cfg.group = g ∧
        (∀ e : CoilNo, s.coils[e].live.state = .waiting → s.coils[e].cfg.group = g → e ≠ c →
          s.coils[c].live.priority < s.coils[e].live.priority ∨
          (s.coils[c].live.priority = s.coils[e].live.priority ∧
            match s.options.arbitration with
            | .fixed => c < e
            | .rotate => (c.val + 23 - (s.group g).last.val) % 24 < (e.val + 23 - (s.group g).last.val) % 24)) ∧
        let width := if s.coils[c].live.cls = some .direct then s.coils[c].live.grantWidth
          else s.coils[c].cfg.pulseWidth
        let coil : Coil :=
          { s.coils[c] with
            live := { s.coils[c].live with
                        state := .firing, grantWidth := width, timer := ⟨width, true, false⟩,
                        pulses := s.coils[c].live.pulses + 1, ageDue := false, ending := false } }
        let t : State := { s with coils := s.coils.set c coil }
        exec (.grant g) s = .next
          (match g with
            | .a => { t with groupA := { s.groupA with state := .busy, last := c } }
            | .b => { t with groupB := { s.groupB with state := .busy, last := c } })) ∧
    ((s.group g).state ≠ .free ∨ (∀ c : CoilNo, s.coils[c].cfg.group = g → s.coils[c].live.state ≠ .waiting) →
      exec (.grant g) s = .next s)

/-- The arbiter's other expiries: aging lowers the priority by 1, held at 0; the gap's end frees its group; a REPEAT's
interval brings it back to WAITING at its class's initial priority with its pulses given kept; a recovery's end brings
the coil to IDLE, where a held request enters WAITING at once (R47, R49, R51, R52). An expiry is taken when the tick
that leaves one unit has made it due (the model's reading of time, log 3). -/
def Obligations.ArbiterExpiriesMoveOn : Prop :=
  (∀ (s : State) (c : CoilNo), s.coils[c].live.state = .waiting → s.coils[c].live.ageDue = true →
    exec (.priorityAging c) s = .next
      { s with coils := s.coils.set c
                  { s.coils[c] with
                    live := { s.coils[c].live with age := 0, ageDue := false,
                                                   priority := s.coils[c].live.priority - 1 } } }) ∧
  (∀ s : State, s.groupA.state = .gap → s.groupA.gap.due = true →
    exec (.gapExpiry .a) s = .next { s with groupA := { s.groupA with state := .free, gap := ⟨0, false, false⟩ } }) ∧
  (∀ s : State, s.groupB.state = .gap → s.groupB.gap.due = true →
    exec (.gapExpiry .b) s = .next { s with groupB := { s.groupB with state := .free, gap := ⟨0, false, false⟩ } }) ∧
  (∀ (s : State) (c : CoilNo), s.coils[c].live.state = .recovering → s.coils[c].live.interval = true →
    s.coils[c].live.timer.due = true → s.coils[c].live.cls = some .eject →
    exec (.intervalExpiry c) s = .next
      { s with coils := s.coils.set c
                  { s.coils[c] with
                    live := { s.coils[c].live with
                                state := .waiting, interval := false, age := 0, ageDue := false,
                                timer := ⟨0, false, false⟩, priority := min 15 s.options.ejectPriority } } }) ∧
  (∀ (s : State) (c : CoilNo), s.coils[c].live.state = .recovering → s.coils[c].live.interval = false →
    s.coils[c].live.timer.due = true →
    exec (.recoveryExpiry c) s = .next
      { s with coils := s.coils.set c
                  { s.coils[c] with
                    live := match s.coils[c].live.held with
                      | none =>
                        { s.coils[c].live with
                            state := .idle, owner := none, cls := none, priority := 0, age := 0, ageDue := false,
                            interval := false, ending := false, timer := ⟨0, false, false⟩ }
                      | some d => { waitingFor d s s.coils[c].live with held := none } } })

/-- The end of a pulse: the group leaves BUSY for GAP, or for FREE when the gap is 0, and the coil follows its
profile. The end of a PULSE request, and the release of a hold, restart the settle timer of the device whose eject
coil it is and move it from EJECTING to CONFIRMING with its confirm timer started; a DISABLED device and a device
whose eject coil is another by now hear nothing; with the device's new request held on the coil, the report of the
older work restarts the settle timer only (R20, R28, R30, R41, R47, R51 to R53; what an older request's report does is
log 19). An expiry is taken when the tick that leaves one unit has made it due (the model's reading of time, log 3). -/
def Obligations.PulseEndsMoveCoilAndDevice : Prop :=
  (∀ (s : State) (c : CoilNo), s.coils[c].live.state = .firing → s.coils[c].live.timer.due = true →
    ∃ t : State, exec (.pulseEnd c) s = .next t ∧
      (t.group s.coils[c].cfg.group).state = (if s.options.groupGap = 0 then .free else .gap) ∧
      (s.options.groupGap ≠ 0 → (t.group s.coils[c].cfg.group).gap = ⟨s.options.groupGap, true, false⟩) ∧
      (t.group s.coils[c].cfg.group).last = (s.group s.coils[c].cfg.group).last ∧
      (∀ e : CoilNo, e ≠ c → t.coils[e] = s.coils[e]) ∧ t.coils[c].cfg = s.coils[c].cfg ∧
      (s.coils[c].live.cls ≠ some .eject ∨ s.coils[c].cfg.profile = .pulse → s.coils[c].cfg.recovery ≠ 0 →
        t.coils[c].live.state = .recovering ∧ t.coils[c].live.interval = false ∧
          t.coils[c].live.timer = ⟨s.coils[c].cfg.recovery, true, false⟩ ∧
          t.coils[c].live.owner = s.coils[c].live.owner ∧ t.coils[c].live.cls = s.coils[c].live.cls) ∧
      (s.coils[c].live.cls ≠ some .eject ∨ s.coils[c].cfg.profile = .pulse → s.coils[c].cfg.recovery = 0 →
        s.coils[c].live.held = none → t.coils[c].live.state = .idle ∧ t.coils[c].live.owner = none ∧
          t.coils[c].live.cls = none ∧ t.coils[c].live.priority = 0 ∧ t.coils[c].live.age = 0) ∧
      (s.coils[c].live.cls = some .eject → s.coils[c].cfg.profile = .repeating → s.coils[c].live.ending = false →
        s.coils[c].live.pulses < s.coils[c].cfg.repeatLimit →
        t.coils[c].live = { s.coils[c].live with
          state := .recovering, interval := true,
          timer := ⟨s.coils[c].cfg.repeatPeriod - s.coils[c].cfg.pulseWidth, true, false⟩ }) ∧
      (s.coils[c].live.cls = some .eject → s.coils[c].cfg.profile = .repeating →
        s.coils[c].cfg.repeatLimit ≤ s.coils[c].live.pulses ∨ s.coils[c].live.ending = true →
        s.coils[c].cfg.recovery ≠ 0 → t.coils[c].live.state = .recovering ∧ t.coils[c].live.interval = false ∧
          t.coils[c].live.timer = ⟨s.coils[c].cfg.recovery, true, false⟩) ∧
      (s.coils[c].live.cls = some .eject → s.coils[c].cfg.profile = .holdRelease → s.coils[c].live.ending = false →
        s.coils[c].cfg.holdWindow ≠ 0 →
        t.coils[c].live = { s.coils[c].live with
          state := .holding, timer := ⟨s.coils[c].cfg.holdWindow, true, false⟩ })) ∧
  (∀ (s : State) (c : CoilNo) (d : DevNo), s.coils[c].live.owner = some (.device d) →
    s.coils[c].live.timer.due = true →
    let settled : DeviceLive := { s.devices[d].live with settle := ⟨s.devices[d].cfg.settleTime, true, false⟩ }
    let device : Device := { s.devices[d] with
      live := { settled with state := .confirming, confirm := ⟨s.devices[d].cfg.confirmTimeout, true, false⟩ } }
    (s.coils[c].live.state = .firing → ∃ t : State, exec (.pulseEnd c) s = .next t ∧ t.slots = s.slots ∧
      (s.devices[d].cfg.coil = c → s.coils[c].live.held = none → s.devices[d].live.state = .ejecting →
        s.coils[c].cfg.profile = .pulse → t.devices = s.devices.set d device) ∧
      (s.devices[d].cfg.coil = c → s.coils[c].live.held = some d → s.devices[d].live.state = .ejecting →
        t.devices = s.devices.set d { s.devices[d] with live := settled }) ∧
      (s.devices[d].cfg.coil = c → s.devices[d].live.state = .idle ∨ s.devices[d].live.state = .confirming ∨
        s.devices[d].live.state = .jammed → t.devices = s.devices.set d { s.devices[d] with live := settled }) ∧
      (s.devices[d].cfg.coil ≠ c ∨ s.devices[d].live.state = .disabled → t.devices = s.devices)) ∧
    (s.coils[c].live.state = .holding → s.coils[c].cfg.recovery ≠ 0 →
      let coils := s.coils.set c
        { s.coils[c] with
          live := { s.coils[c].live with
                      state := .recovering, interval := false, ending := false, ageDue := false,
                      timer := ⟨s.coils[c].cfg.recovery, true, false⟩ } }
      (s.devices[d].cfg.coil = c → s.coils[c].live.held = none → s.devices[d].live.state = .ejecting →
        exec (.holdWindowExpiry c) s = .next { s with devices := s.devices.set d device, coils := coils }) ∧
      (s.devices[d].cfg.coil ≠ c ∨ s.devices[d].live.state = .disabled →
        exec (.holdWindowExpiry c) s = .next { s with coils := coils })))

/-! ### Ball accounting and play -/

/-- A flight's expiry makes its ball live, or missing when it was bound for a device. An edge of a PLAYFIELD switch
that no device names and whose edge selection passes nothing confirms at most one ball, the oldest record bound for
the playfield or else a missing ball, and ends a search that is running (R64, R65, R83). An expiry is taken when the
tick that leaves one unit has made it due (the model's reading of time, log 3). -/
def Obligations.BallsInFlightSettle : Prop :=
  (∀ (s : State) (older younger : List FlightRec) (r : FlightRec), s.acct.flights = older ++ r :: younger →
    r.due = true → ∃ t : State, exec (.flightExpiry older.length) s = .next t ∧
      t.acct.flights = older ++ younger ∧ t.acct.installed = s.acct.installed ∧ t.devices = s.devices ∧
      (r.target = .playfield → t.acct.live = s.acct.live + 1 ∧ t.acct.missing = s.acct.missing ∧
        t.isPending .ballMissing = s.isPending .ballMissing) ∧
      (∀ d : DevNo, r.target = .device d → t.acct.missing = s.acct.missing + 1 ∧ t.acct.live = s.acct.live ∧
        t.isPending .ballMissing = true)) ∧
  (∀ (s : State) (n : SwitchNo) (dir : Direction), s.switches[n].cls = .playfield → s.switches[n].selection = .none →
    (∀ d : DevNo, n ∉ s.devices[d].cfg.positions ∧ s.devices[d].cfg.entry ≠ some n) →
    let t := deliverEdge (n, dir) s
    t.devices = s.devices ∧ t.acct.installed = s.acct.installed ∧ t.acct.search = .idle ∧
    (∀ (older younger : List FlightRec) (r : FlightRec), s.acct.flights = older ++ r :: younger →
      r.target = .playfield → (∀ x ∈ older, x.target ≠ .playfield) →
      t.acct.flights = older ++ younger ∧ t.acct.live = s.acct.live + 1 ∧ t.acct.missing = s.acct.missing) ∧
    ((∀ x ∈ s.acct.flights, x.target ≠ .playfield) → 1 ≤ s.acct.missing →
      t.acct.flights = s.acct.flights ∧ t.acct.live = s.acct.live + 1 ∧ t.acct.missing = s.acct.missing - 1 ∧
        t.isPending .ballFound = true) ∧
    ((∀ x ∈ s.acct.flights, x.target ≠ .playfield) → s.acct.missing = 0 →
      t.acct.flights = s.acct.flights ∧ t.acct.live = s.acct.live ∧ t.acct.missing = 0))

/-- The attribution of an entry that is no fallback, from the first place that can supply it: the oldest record bound
for the device, the live count, the oldest record bound for the playfield, the missing count, a record of the same
evaluation, a new ball below 16 installed; at 16 nothing changes (R66, R67). -/
def Obligations.AttributionFollowsTheOrder : Prop :=
  ∀ (s : State) (d : DevNo) (own : Nat),
    let (t, _, supply) := supplyEntry d false own s
    (∀ (older younger : List FlightRec) (r : FlightRec), s.acct.flights = older ++ r :: younger →
      r.target = .device d → (∀ x ∈ older, x.target ≠ .device d) →
      supply = .targeted ∧ t = { s with acct := { s.acct with flights := older ++ younger } }) ∧
    ((∀ x ∈ s.acct.flights, x.target ≠ .device d) →
      (1 ≤ s.acct.live → supply = .live ∧ t = { s with acct := { s.acct with live := s.acct.live - 1 } }) ∧
      (s.acct.live = 0 →
        (∀ (older younger : List FlightRec) (r : FlightRec), s.acct.flights = older ++ r :: younger →
          r.target = .playfield → (∀ x ∈ older, x.target ≠ .playfield) →
          supply = .playfield ∧ t = { s with acct := { s.acct with flights := older ++ younger } }) ∧
        ((∀ x ∈ s.acct.flights, x.target ≠ .playfield) →
          (1 ≤ s.acct.missing → supply = .missing ∧
            t = { s with acct := { s.acct with missing := s.acct.missing - 1 } }.raise .ballFound) ∧
          (s.acct.missing = 0 → 1 ≤ own → supply = .ownExit ∧
            t = { s with acct := { s.acct with flights := s.acct.flights.dropLast } }) ∧
          (s.acct.missing = 0 → own = 0 → s.acct.installed < 16 → supply = .newBall ∧
            t = { s with acct := { s.acct with installed := s.acct.installed + 1 } }.raise .extraBall) ∧
          (s.acct.missing = 0 → own = 0 → 16 ≤ s.acct.installed → supply = .unattributed ∧ t = s))))

/-- Balls in play are the live, missing and in-flight balls, those in the shooter lane and in saucers, and the
trough's owed ejects; in PLAY the multiball flag follows them, and at 0 play ends with its notices, ball save OFF and
the search IDLE; in SERVING and LAUNCH_WAIT the phase returns to NO_PLAY. A ball into the shooter lane in SERVING
brings LAUNCH_WAIT and, with the serve launch flag, owes its launch; in PLAY it always does. A shooter exit in
LAUNCH_WAIT, or in SERVING a trough exit to another target, enters PLAY with the idle timer loaded; no other exit
changes the phase (R71, R72, R74 to R76; the phase tested is the one before the evaluation, log 32, the shooter's owed
eject is taken up at its end, log 14, and the save timer's count becomes 0 at the end of play, log 35). An expiry is
taken when the tick that leaves one unit has made it due (the model's reading of time, log 3). -/
def Obligations.BallsInPlayDecideThePhase : Prop :=
  (∀ s : State,
    let p := s.acct.live + s.acct.missing + s.acct.flights.length + s.devices[shooter].live.occupancy +
      ((indices 8).map fun d => if s.devices[d].cfg.kind = .saucer then s.devices[d].live.occupancy else 0).sum +
      s.devices[trough].live.owed
    let t := formPlay s
    t.acct.inPlay = p ∧
    (s.acct.phase = .play → 2 ≤ p → t.acct.phase = .play ∧ t.acct.multiball = true ∧
      t.isPending .multiballStarted = (s.isPending .multiballStarted || !s.acct.multiball)) ∧
    (s.acct.phase = .play → p ≤ 1 → t.acct.multiball = false ∧
      t.isPending .multiballEnded = (s.isPending .multiballEnded || s.acct.multiball)) ∧
    (s.acct.phase = .play → p = 0 → t.acct.phase = .ended ∧ t.isPending .ballEnded = true ∧ t.acct.saveState = .off ∧
      t.acct.saveTimer = ⟨0, false, false⟩ ∧ t.acct.search = .idle ∧ t.acct.idleTimer.running = false ∧
      (∀ c ∈ t.page.stack, c.tpl.endOnDrain = false)) ∧
    (s.acct.phase = .serving ∨ s.acct.phase = .launchWait → p = 0 →
      t = { s with acct := { s.acct with inPlay := 0, phase := .noPlay } }) ∧
    (s.acct.phase = .noPlay ∨ s.acct.phase = .ended → t = { s with acct := { s.acct with inPlay := p } })) ∧
  ((∀ s : State, s.devices[shooter].live.settle.running = true → s.devices[shooter].live.settle.due = true →
    s.devices[shooter].cfg.entry = none → s.devices[shooter].live.order = .none →
    s.devices[shooter].live.state ≠ .disabled → s.acct.installed < 16 →
    s.closedCount shooter = s.devices[shooter].live.occupancy + 1 →
    s.devices[shooter].cfg.kind = .shooter →
    let owed := s.devices[shooter].live.owed
    ∃ t : State, exec (.evaluation shooter) s = .next t ∧ t.acct.inPlay = t.ballsInPlay ∧
      (s.acct.phase = .serving → t.acct.phase = .launchWait ∧
        t.devices[shooter].live.owed = if s.acct.serveLaunch then min 8 (owed + 1) else owed) ∧
      (s.acct.phase = .play → t.acct.phase = .play ∧ t.devices[shooter].live.owed = min 8 (owed + 1)) ∧
      (s.acct.phase ≠ .serving → s.acct.phase ≠ .play → t.acct.phase = s.acct.phase ∧
        t.devices[shooter].live.owed = owed)) ∧
  (∀ (s : State) (d : DevNo), s.devices[d].live.settle.running = true → s.devices[d].live.settle.due = true →
    s.devices[d].cfg.entry = none → s.closedCount d < s.devices[d].live.occupancy →
    let starts : Prop := (s.acct.phase = .launchWait ∧ d = shooter) ∨
      (s.acct.phase = .serving ∧ d = trough ∧ s.devices[d].cfg.target ≠ .device shooter)
    ∃ t : State, exec (.evaluation d) s = .next t ∧ t.acct.inPlay = t.ballsInPlay ∧
      (starts → t.acct.phase = .play ∧ t.acct.idleTimer = ⟨max 10 s.options.searchDelay, true, false⟩ ∧
        (2 ≤ t.ballsInPlay → t.acct.multiball = true ∧
          t.isPending .multiballStarted = (s.isPending .multiballStarted || !s.acct.multiball))) ∧
      (¬ starts → t.acct.phase = s.acct.phase)))

/-- Ball save: the save timer's expiry, SET_BALL_SAVE, and the drain that is saved exactly when the phase is PLAY,
ball save is ACTIVE or in GRACE, the game is not tilted and the save limit is 0 or not reached (R77 to R79; the trough
takes up the owed eject of a saved drain when its evaluation is complete, log 14). An expiry is taken when the tick
that leaves one unit has made it due (the model's reading of time, log 3). -/
def Obligations.BallSaveOutcome : Prop :=
  (∀ s : State, s.acct.saveTimer.running = true → s.acct.saveTimer.due = true →
    (s.acct.saveState = .active → s.options.graceTime ≠ 0 → exec .saveTimerExpiry s = .next
      { s with acct := { s.acct with saveState := .grace, saveTimer := ⟨s.options.graceTime, true, false⟩ } }) ∧
    (s.acct.saveState = .grace ∨ (s.acct.saveState = .active ∧ s.options.graceTime = 0) →
      exec .saveTimerExpiry s = .next
        { s with acct := { s.acct with saveState := .off, saveTimer := ⟨0, false, false⟩ } })) ∧
  (∀ (s : State) (t1 t0 : Byte), s.link.executing = none →
    (s.acct.phase ≠ .play → exec (.setBallSave [t1, t0]) s = .next (s.refused 2 .refusedState)) ∧
    (s.acct.phase = .play → exec (.setBallSave [t1, t0]) s = .next
      { s with acct := { s.acct with
                  saveState := if t1.toNat * 256 + t0.toNat = 0 then .off else .active,
                  saveTimer := if t1.toNat * 256 + t0.toNat = 0 then ⟨0, false, false⟩
                    else ⟨t1.toNat * 256 + t0.toNat, true, false⟩ },
               link := s.link.after 2 { status := .ok, body := [] } })) ∧
  (∀ s : State,
    (s.acct.phase = .play ∧ s.acct.saveState ≠ .off ∧ s.session.tilt ≠ .tilted ∧
        (s.options.saveLimit = 0 ∨ s.acct.savesUsed < s.options.saveLimit) → s.devices[trough].live.state ≠ .disabled →
      drain s = State.raise
        { s with devices := s.devices.set trough
                    { s.devices[trough] with
                      live := { s.devices[trough].live with owed := min 8 (s.devices[trough].live.owed + 1) } },
                 acct := { s.acct with savesUsed := min 255 (s.acct.savesUsed + 1) } } .ballSaved) ∧
    (¬ (s.acct.phase = .play ∧ s.acct.saveState ≠ .off ∧ s.session.tilt ≠ .tilted ∧
        (s.options.saveLimit = 0 ∨ s.acct.savesUsed < s.options.saveLimit)) → drain s = s))

/-- Ball search: it starts with round 1 at the idle timer's expiry or at START_SEARCH in PLAY; each step requests the
lowest member above the last search coil, passing over a member whose device is not IDLE or is a LOCK with a ball, and
one whose coil is not IDLE. A round with no member left ends: below the limit the next one starts at once, at the
limit the live balls become missing and the slow interval runs, above it the slow interval runs alone, and its end
starts a round (R80 to R82, R84; a round whose remaining members are all passed over ends at that expiry, log 23). An
expiry is taken when the tick that leaves one unit has made it due (the model's reading of time, log 3). -/
def Obligations.SearchOutcome : Prop :=
  (∀ s : State,
    (s.acct.idleTimer.running = true → s.acct.idleTimer.due = true → ∃ t : State,
      exec .idleTimerExpiry s = .next t ∧ t.acct.search = .searching ∧ t.acct.round = 1 ∧
        t.isPending .searchStarted = true ∧ t.acct.searchTimer = ⟨s.options.searchSpacing, true, false⟩ ∧
        t.acct.idleTimer = ⟨0, false, false⟩ ∧ t.acct.live = s.acct.live ∧ t.acct.missing = s.acct.missing ∧
        t.devices = s.devices) ∧
    (s.link.executing = none →
      (s.acct.phase ≠ .play → exec (.startSearch []) s = .next (s.refused 0 .refusedState)) ∧
      (s.acct.phase = .play → s.acct.search = .searching →
        exec (.startSearch []) s = .next (s.refused 0 .refusedBusy)) ∧
      (s.acct.phase = .play → s.acct.search = .idle → ∃ t : State,
        exec (.startSearch []) s = .next t ∧ t.acct.search = .searching ∧ t.acct.round = 1 ∧
          t.isPending .searchStarted = true ∧ t.acct.searchTimer = ⟨s.options.searchSpacing, true, false⟩ ∧
          t.acct.idleTimer.count = s.acct.idleTimer.count ∧ t.devices = s.devices ∧
          t.link = s.link.after 0 { status := .ok, body := [] }))) ∧
  (∀ s : State, s.acct.search = .searching → s.acct.searchTimer.running = true → s.acct.searchTimer.due = true →
    (s.acct.phase = .play → 1 ≤ s.ballsInPlay) →
    let member (e : CoilNo) : Prop := s.coils[e].cfg.searchFlag = true ∨ ∃ d : DevNo,
      s.devices[d].live.state ≠ .disabled ∧ s.devices[d].cfg.searchFlag = true ∧ s.devices[d].cfg.coil = e
    let taken (e : CoilNo) : Prop := member e ∧ s.passedOver e = false ∧ s.coils[e].live.state = .idle
    let left (e : CoilNo) : Prop := ∀ l : CoilNo, s.acct.lastSearch = some l → l < e
    let requested (c : CoilNo) (t : State) : Prop := t.acct.lastSearch = some c ∧
      t.coils[c].live.state = .waiting ∧ t.coils[c].live.owner = some .search ∧
      t.coils[c].live.cls = some .search ∧ t.coils[c].live.priority = min 15 s.options.searchPriority ∧
      (∀ e : CoilNo, e ≠ c → t.coils[e] = s.coils[e])
    let spaced (t : State) : Prop := t.acct.searchTimer = ⟨s.options.searchSpacing, true, false⟩ ∧
      t.acct.searchSlow = false ∧ t.acct.live = s.acct.live ∧ t.acct.missing = s.acct.missing
    let slow (t : State) : Prop := t.acct.searchTimer = ⟨s.options.slowInterval, true, false⟩ ∧
      t.acct.searchSlow = true ∧ t.acct.lastSearch = none ∧ t.coils = s.coils
    (∀ c : CoilNo, s.passedOver c = true ↔ s.coils[c].cfg.searchFlag = false ∧ ∃ d : DevNo,
      s.devices[d].live.state ≠ .disabled ∧ s.devices[d].cfg.searchFlag = true ∧ s.devices[d].cfg.coil = c ∧
      (∀ e : DevNo, e < d → ¬ (s.devices[e].live.state ≠ .disabled ∧ s.devices[e].cfg.searchFlag = true ∧
        s.devices[e].cfg.coil = c)) ∧
      (s.devices[d].live.state ≠ .idle ∨
        (s.devices[d].cfg.kind = .lock ∧ 1 ≤ s.devices[d].live.occupancy))) ∧
    ∃ t : State, exec .searchTimerExpiry s = .next t ∧ t.acct.search = .searching ∧ t.devices = s.devices ∧
      (∀ c : CoilNo, s.acct.searchSlow = false → taken c → left c → (∀ e : CoilNo, e < c → left e → ¬ taken e) →
        requested c t ∧ spaced t ∧ t.acct.round = s.acct.round) ∧
      (s.acct.searchSlow = false → (∀ e : CoilNo, left e → ¬ taken e) →
        (s.acct.round < s.options.roundLimit → t.acct.round = min 255 (s.acct.round + 1) ∧ spaced t ∧
          (∀ c : CoilNo, taken c → (∀ e : CoilNo, e < c → ¬ taken e) → requested c t)) ∧
        (s.acct.round = s.options.roundLimit → t.acct.round = min 255 (s.acct.round + 1) ∧ slow t ∧
          t.acct.missing = s.acct.missing + s.acct.live ∧ t.acct.live = 0 ∧
          t.isPending .ballMissing = (s.isPending .ballMissing || decide (1 ≤ s.acct.live))) ∧
        (s.options.roundLimit < s.acct.round → t.acct.round = min 255 (s.acct.round + 1) ∧ slow t ∧
          t.acct.missing = s.acct.missing ∧ t.acct.live = s.acct.live)) ∧
      (s.acct.searchSlow = true → t.acct.round = s.acct.round ∧ spaced t ∧
        (∀ c : CoilNo, taken c → (∀ e : CoilNo, e < c → ¬ taken e) → requested c t)))

/-- RECOUNT: its refusals in their order; accepted, every used device takes its occupancy from its switches and the
counts follow from their sum and B; a SAUCER whose occupancy rises from 0 to 1 starts its hold, or at hold time 0 owes
an eject and, when IDLE, takes it; owed ejects and states of the other devices, ball save, the search and, with at
most 16 balls counted, the slots stay; P is formed, and SERVING or LAUNCH_WAIT returns to NO_PLAY when it is 0 (R69,
R76; the search ends where live plus missing falls to 0, and the order is taken after the counts are set and hold
timers go by the switches, whatever a surplus above 16 takes off, log 21). -/
def Obligations.RecountSetsUpTheCountsAfresh : Prop :=
  ∀ (s : State) (b : Byte), s.link.executing = none →
    (s.devicesEnabled = false ∨ s.acct.phase = .play → exec (.recount [b]) s = .next (s.refused 1 .refusedState)) ∧
    (s.devicesEnabled = true → s.acct.phase ≠ .play → b.toNat = 0 ∨ 8 < b.toNat →
      exec (.recount [b]) s = .next (s.refused 1 .badValue)) ∧
    (s.devicesEnabled = true → s.acct.phase ≠ .play → 1 ≤ b.toNat → b.toNat ≤ 8 →
      (∃ d : DevNo, s.devices[d].live.state = .ejecting ∨ s.devices[d].live.state = .confirming) →
      exec (.recount [b]) s = .next (s.refused 1 .refusedBusy)) ∧
    (s.DevicesSafe → s.devicesEnabled = true → s.acct.phase ≠ .play → 1 ≤ b.toNat → b.toNat ≤ 8 →
      (∀ d : DevNo, s.devices[d].live.state ≠ .ejecting ∧ s.devices[d].live.state ≠ .confirming) →
      let sum := ((indices 8).map fun d =>
        if s.devices[d].cfg.kind = .unused then 0 else s.closedCount d).sum
      let fills (d : DevNo) : Prop := s.devices[d].cfg.kind = .saucer ∧ s.closedCount d = 1 ∧
        s.devices[d].live.occupancy = 0
      ∃ t : State, exec (.recount [b]) s = .next t ∧ t.Conserved ∧ t.acct.live = 0 ∧ t.acct.flights = [] ∧
        (sum ≤ b.toNat → t.acct.installed = b.toNat ∧ t.acct.missing = b.toNat - sum) ∧
        (b.toNat < sum → t.acct.installed = min 16 sum ∧ t.acct.missing = 0 ∧ t.isPending .extraBall = true) ∧
        (∀ d : DevNo, s.devices[d].cfg.kind ≠ .unused → sum ≤ 16 →
          t.devices[d].live.occupancy = s.closedCount d ∧ t.devices[d].live.countFault = false ∧
            t.devices[d].live.entriesSeen = 0 ∧ t.devices[d].live.settle.running = false) ∧
        (∀ d : DevNo, ¬ (fills d ∧ s.devices[d].cfg.holdTime = 0) →
          t.devices[d].live.owed = s.devices[d].live.owed ∧ t.devices[d].live.state = s.devices[d].live.state ∧
          t.devices[d].live.order = s.devices[d].live.order) ∧
        (∀ d : DevNo, fills d → s.devices[d].cfg.holdTime ≠ 0 →
          t.devices[d].live.hold = ⟨s.devices[d].cfg.holdTime, true, false⟩) ∧
        (∀ d : DevNo, fills d → s.devices[d].cfg.holdTime = 0 →
          t.devices[d].live.owed = min 8 (s.devices[d].live.owed + 1) ∧
          (s.devices[d].live.state = .idle → sum ≤ 16 →
            t.devices[d].live.state = .ejecting ∧ t.devices[d].live.order = .owed) ∧
          (s.devices[d].live.state = .jammed → t.devices[d].live.state = .jammed)) ∧
        (∀ d : DevNo, s.devices[d].cfg.kind = .saucer → s.closedCount d = 0 →
          t.devices[d].live.hold.running = false) ∧
        (sum ≤ 16 → t.slots = s.slots) ∧
        t.acct.inPlay = t.ballsInPlay ∧
        t.acct.phase = (if (s.acct.phase = .serving ∨ s.acct.phase = .launchWait) ∧ t.ballsInPlay = 0 then .noPlay
          else s.acct.phase) ∧
        (t.acct.missing ≠ 0 ∨ s.acct.live + s.acct.missing = 0 ∨ s.acct.search = .idle →
          t.acct.search = s.acct.search ∧ t.acct.round = s.acct.round) ∧
        t.acct.serveLaunch = s.acct.serveLaunch ∧ t.acct.saveState = s.acct.saveState ∧
        t.acct.saveTimer.count = s.acct.saveTimer.count ∧ t.acct.savesUsed = s.acct.savesUsed ∧
        t.link = s.link.after 1 { status := .ok, body := [] })

/-- SERVE: refused by the first row of its table that applies; accepted, with a ball in the shooter lane the phase is
LAUNCH_WAIT and only an automatic launch owes an eject, otherwise the trough owes one and the phase is SERVING; tilt,
warnings, multiplier, ball save and search start afresh, and P is formed (R73; with save time 0 the save timer's count
becomes 0, log 35). -/
def Obligations.ServeOutcome : Prop :=
  (∀ (s : State) (time : Byte × Byte) (auto : Bool), s.link.executing = none →
    let serve := exec (.serve [time.1, time.2, flagByte auto]) s
    let ready := s.session.state = .opened ∧ (s.acct.phase = .noPlay ∨ s.acct.phase = .ended)
    let rolling := 0 < s.acct.live ∨ s.acct.flights ≠ [] ∨ (∃ d : DevNo, 0 < s.devices[d].live.owed) ∨
      ∃ n : SlotNo, s.slots[n].state = .active
    (¬ ready → serve = .next (s.refused 3 .refusedState)) ∧
    (ready → rolling → serve = .next (s.refused 3 .refusedBusy)) ∧
    (ready → ¬ rolling → s.devices[shooter].live.occupancy = 0 → s.devices[trough].live.occupancy = 0 →
      serve = .next (s.refused 3 .refusedState))) ∧
  (∀ (s : State) (t1 t0 : Byte) (auto : Bool), s.link.executing = none → s.session.state = .opened →
    s.acct.phase = .noPlay ∨ s.acct.phase = .ended → s.acct.live = 0 → s.acct.flights = [] →
    (∀ d : DevNo, s.devices[d].live.owed = 0) → (∀ n : SlotNo, s.slots[n].state ≠ .active) →
    1 ≤ s.devices[shooter].live.occupancy ∨ 1 ≤ s.devices[trough].live.occupancy →
    s.devices[trough].live.state ≠ .disabled → s.devices[shooter].live.state ≠ .disabled →
    (s.acct.search = .idle → s.acct.round = 0) →
    ∃ t : State, exec (.serve [t1, t0, flagByte auto]) s = .next t ∧
      (1 ≤ s.devices[shooter].live.occupancy → t.acct.phase = .launchWait ∧
        t.devices[shooter].live.owed = (if auto then 1 else 0) ∧ t.devices[trough].live.owed = 0) ∧
      (s.devices[shooter].live.occupancy = 0 → t.acct.phase = .serving ∧ t.devices[trough].live.owed = 1 ∧
        t.devices[shooter].live.owed = 0) ∧
      t.acct.serveLaunch = auto ∧ t.session.tilt = .normal ∧ t.session.warnings = 0 ∧
      t.session.swing = s.session.swing ∧ t.session.current = s.session.current ∧ t.pfMult = 1 ∧ t.pfTimer = 0 ∧
      t.acct.savesUsed = 0 ∧ t.acct.search = .idle ∧ t.acct.round = 0 ∧ t.acct.idleTimer.running = false ∧
      (word16 t1 t0 = 0 → t.acct.saveState = .off ∧ t.acct.saveTimer = ⟨0, false, false⟩) ∧
      (word16 t1 t0 ≠ 0 → t.acct.saveState = .active ∧ t.acct.saveTimer = ⟨word16 t1 t0, true, false⟩) ∧
      t.acct.inPlay = t.ballsInPlay ∧ t.acct.missing = s.acct.missing ∧ t.acct.live = 0 ∧ t.acct.flights = [] ∧
      t.link = s.link.after 3 { status := .ok, body := [] })

/-! ### Pages, locks and the router -/

/-- The reading requests of the accounting, the pages, the locks, the router, the modes and the capability record
answer with the layouts of R190 and change nothing, but that READ_AWARD_HITS leaves every award-hit flag clear (R85,
R86, R105, R106, R121, R122, R160, R187, R190). Where a chapter gives a layout by name only, the reading is the
model's: a reply carries the fields its rule names and no leading number beyond them (log 24). -/
def Obligations.GameReadsAnswer : Prop :=
  (∀ s : State, s.link.executing = none →
    exec (.readAccounting []) s = .next (s.answered 0
      ([byte s.acct.installed, byte s.acct.live, byte s.acct.missing, byte s.acct.flights.length,
        nameByte PlayPhase.names s.acct.phase, flagByte s.acct.serveLaunch, byte s.acct.inPlay,
        flagByte s.acct.multiball, nameByte SaveState.names s.acct.saveState] ++ bytes16 s.acct.saveTimer.count ++
        [flagByte s.acct.saveTimer.running, byte s.acct.savesUsed, nameByte SearchState.names s.acct.search,
        byte s.acct.round] ++ s.acct.idleTimer.bytes ++ s.acct.searchTimer.bytes ++
        [optByte (s.acct.lastSearch.map (·.val))] ++ (indices 8).map fun d => byte s.devices[d].live.occupancy)) ∧
    (∀ start : Byte, 15 < start.toNat → exec (.readFlights [start]) s = .next (s.refused 1 .badValue)) ∧
    (∀ start : Byte, start.toNat ≤ 15 → ∃ records : List Byte,
      exec (.readFlights [start]) s = .next (s.answered 1
        ([byte s.acct.flights.length, byte (min 8 (s.acct.flights.length - start.toNat))] ++ records)) ∧
      records.length = 8 * min 8 (s.acct.flights.length - start.toNat) ∧
      ∀ (k : Nat) (r : FlightRec), k < 8 → s.acct.flights[start.toNat + k]? = some r →
        (records.drop (8 * k)).take 8 = [byte r.source.val, targetByte r.target] ++ bytes32 r.stamp.toNat ++
          [byte r.remaining, nameByte Cause.names r.cause])) ∧
  (∀ s : State, s.link.executing = none →
    (∀ p : PlayerNo, s.pages[p].stack.length ≤ 8 →
      let g := s.pages[p]
      ∃ runs : List RunState, runs.length = g.stack.length ∧
        (∀ (beneath above : List Context) (c : Context), g.stack = beneath ++ c :: above →
          runs[beneath.length]? = some (if c.paused then .paused
            else if ∃ x ∈ above, x.tpl.stacking = .exclusive then .suspended else .running)) ∧
        let out : List Byte := bcdBytes 6 g.score ++ [byte g.rollover] ++ (indices 6).map (fun k => byte g.lit[k]) ++
          (indices 6).map (fun k => byte g.credits[k]) ++ [byte g.stack.length] ++
          (g.stack.zip runs).flatMap (fun x => [byte x.1.id, nameByte RunState.names x.2]) ++
          List.replicate (2 * (8 - g.stack.length)) 0 ++
          [byte g.last.id, nameByte EndReason.names g.last.reason] ++ bcdBytes 6 g.last.total ++
          [byte s.session.current.val, byte s.session.players]
        out.length = 46 ∧ exec (.readPlayer [byte p.val]) s = .next (s.answered 1 out)) ∧
    (∀ p : Byte, 3 < p.toNat → exec (.readPlayer [p]) s = .next (s.refused 1 .notFound)) ∧
    (let block (k : LockNo) : List Byte :=
      let v := s.devices[lockDevice k]
      let page := s.pages[s.session.current]
      let held := v.live.occupancy - v.live.owed
      [nameByte DeviceKind.names v.cfg.kind] ++
        (if v.cfg.kind = .lock then
          [nameByte LockPolicy.names v.cfg.policy, byte v.live.occupancy, byte v.live.owed, byte held,
            byte page.lit[k], byte page.credits[k], byte (page.credits[k] - held),
            byte ((indices 4).map fun p => if p.val < s.session.players then s.pages[p].credits[k] else 0).sum]
        else List.replicate 8 0) ++
        [nameByte LockOutcome.names s.decisions[k].outcome, nameByte LockReason.names s.decisions[k].reason,
          byte s.decisions[k].player.val] ++ bytes32 s.decisions[k].stamp.toNat
     ((indices 6).flatMap block).length = 96 ∧
       exec (.readLocks []) s = .next (s.answered 0 ((indices 6).flatMap block)))) ∧
  (∀ s : State, s.link.executing = none →
    (∀ i : Fin 32, exec (.readWindow [byte i.val]) s = .next (s.answered 1
      [byte i.val, flagByte s.windows[i].enabled, byte s.windows[i].base.toNat, byte s.windows[i].mask.toNat,
        nameByte EdgeFilter.names s.windows[i].filter, flagByte s.windows[i].translate, s.windows[i].target])) ∧
    (∀ i : Byte, 31 < i.toNat → exec (.readWindow [i]) s = .next (s.refused 1 .notFound)) ∧
    (∀ i : Fin 256, exec (.readAward [byte i.val]) s = .next (s.answered 1
      ([byte i.val, nameByte AwardKind.names s.awards[i].kind] ++ bcdBytes 4 s.awards[i].base ++
        [byte s.awards[i].scope, flagByte s.awards[i].requiresRunning, s.awards[i].argument,
          flagByte s.awards[i].notify, flagByte (s.awardHits.getLsbD i.val)]))) ∧
    (∃ flags : List Byte, flags.length = 32 ∧
      (∀ i : Fin 256, (flags.getD (i.val / 8) 0).getLsbD (i.val % 8) = s.awardHits.getLsbD i.val) ∧
      exec (.readAwardHits []) s = .next ({ s with awardHits := 0 }.answered 0 flags))) ∧
  (∀ s : State, s.link.executing = none →
    (∀ (p : PlayerNo) (beneath above : List Context) (c : Context), s.pages[p].stack = beneath ++ c :: above →
      s.pages[p].stack.length ≤ 8 →
      let r : RunState := if c.paused then .paused
        else if ∃ x ∈ above, x.tpl.stacking = .exclusive then .suspended else .running
      exec (.readMode [byte p.val, byte beneath.length]) s = .next (s.answered 2
        ([byte c.id, nameByte Stacking.names c.tpl.stacking, nameByte Scope.names c.tpl.scope, byte c.tpl.multiplier,
          byte c.tpl.goal, byte c.progress, flagByte c.paused, nameByte RunState.names r, flagByte c.timed] ++
          bytes16 c.timer ++ bcdBytes 4 c.tpl.jackpotBase ++ bcdBytes 4 c.tpl.jackpotStep ++
          bcdBytes 4 c.tpl.jackpotMax ++ bcdBytes 4 c.jackpot ++ bcdBytes 4 c.tpl.hurryStart ++
          bcdBytes 4 c.tpl.hurryStep ++ bcdBytes 4 c.tpl.hurryFloor ++ bytes16 c.tpl.hurryPeriod ++
          bytes16 c.hurryRemaining ++ bcdBytes 4 c.hurry ++
          [byte c.tpl.completionPct, flagByte c.tpl.endOnDrain, flagByte c.tpl.endOnTilt, byte c.tpl.next] ++
          bcdBytes 6 c.total ++ [byte beneath.length, byte s.pages[p].stack.length] ++ s.pages[p].last.bytes))) ∧
    (∀ p i : Byte, 3 < p.toNat → exec (.readMode [p, i]) s = .next (s.refused 2 .notFound)) ∧
    (∀ (p : PlayerNo) (i : Byte), s.pages[p].stack.length ≤ i.toNat →
      exec (.readMode [byte p.val, i]) s = .next (s.refused 2 .notFound)) ∧
    exec (.readCapability []) s = .next (s.answered 0
      [0x42, 0x72, 0x65, 0x7A, 0x6B, 0x61, 0x6E, 0x20, 0x4B, 0x6F, 0x76, 0x72, 0x61, 0x63, 0x20, 0x20, 0x4B, 0x56,
        0x32, 0x34, 0x30, 0x38, 0x20, 0x20, 128, 16, 8, 24, 2, 8, 8, 8, 16, 16, 4, 63, 8, 32, 1, 0, 22, 60, 1, 12, 8]))

/-- The capture decision at a LOCK: captured exactly when the phase is PLAY, the game is not tilted, the lock has no
order and owes nothing and a lock is lit; otherwise rejected with the first reason that applies and one eject owed;
recorded with the player and the frame; a lock takes up the eject of a rejected ball when its evaluation is complete
(log 14). The host form of LIGHT_LOCK raises the lit locks by the smaller of n and the room left (R93 to R97). -/
def Obligations.LockDecisionsAndLighting : Prop :=
  (∀ (s : State) (d : DevNo) (k : LockNo), d = lockDevice k → s.devices[d].cfg.kind = .lock →
    s.devices[d].live.state ≠ .disabled →
    let reason : LockReason :=
      if s.acct.phase ≠ .play then .notPlay
      else if s.session.tilt = .tilted then .tilted
      else if s.devices[d].live.order ≠ .none ∨ 0 < s.devices[d].live.owed then .deviceBusy
      else if s.pages[s.session.current].lit[k] = 0 then .notLit
      else .none
    let t := captureDecision d s
    let record (o : LockOutcome) : LockDecision :=
      { outcome := o, reason := reason, player := s.session.current, stamp := s.frameCount }
    (reason ≠ .none → t = State.raise
      { s with decisions := s.decisions.set k (record .rejected),
               devices := s.devices.set d
                  { s.devices[d] with
                    live := { s.devices[d].live with owed := min 8 (s.devices[d].live.owed + 1) } } } .lockRejected) ∧
    (reason = .none → t.decisions = s.decisions.set k (record .captured) ∧ t.isPending .lockCaptured = true ∧
      t.pages[s.session.current].lit[k] + 1 = s.pages[s.session.current].lit[k] ∧
      t.pages[s.session.current].credits[k] = s.pages[s.session.current].credits[k] + 1 ∧
      (∀ p : PlayerNo, p ≠ s.session.current → t.pages[p] = s.pages[p]) ∧
      (s.ballsInPlay ≠ 0 → t.devices = s.devices) ∧
      (s.ballsInPlay = 0 → s.devices[trough].live.state ≠ .disabled →
        t.devices[trough].live.owed = min 8 (s.devices[trough].live.owed + 1)))) ∧
  (∀ (s : State) (n : Byte), s.link.executing = none →
    (∀ d : Byte, 7 < d.toNat → exec (.lightLock [d, n]) s = .next (s.refused 2 .notFound)) ∧
    (∀ d : DevNo, s.session.state = .closed →
      exec (.lightLock [byte d.val, n]) s = .next (s.refused 2 .refusedState)) ∧
    (∀ d : DevNo, s.session.state = .opened → d.val < 2 ∨ s.devices[d].cfg.kind ≠ .lock ∨ n = 0 →
      exec (.lightLock [byte d.val, n]) s = .next (s.refused 2 .badValue)) ∧
    (∀ k : LockNo, s.session.state = .opened → s.devices[lockDevice k].cfg.kind = .lock → n ≠ 0 →
      let page := s.pages[s.session.current]
      let gain := min n.toNat (s.devices[lockDevice k].cfg.capacity - page.lit[k] - page.credits[k])
      exec (.lightLock [byte (lockDevice k).val, n]) s = .next
        { s with pages := s.pages.set s.session.current { page with lit := page.lit.set k (page.lit[k] + gain) },
                 link := s.link.after 2
                   { status := .ok, body := [byte (page.lit[k] + gain), byte (n.toNat - gain)] } }))

/-- START_MULTIBALL: refused outside PLAY and while tilted; accepted, the current player's credits at the masked locks
return to 0, each of those locks owes the balls it can give, the trough owes the deficits and the extra (held at 8),
ball save follows the save time, and the reply tells the five numbers (R100 to R103). -/
def Obligations.StartMultiballSourcesBalls : Prop :=
  ∀ (s : State) (target mask t1 t0 : Byte), s.link.executing = none →
    (s.acct.phase ≠ .play ∨ s.session.tilt = .tilted →
      exec (.startMultiball [target, mask, t1, t0]) s = .next (s.refused 4 .refusedState)) ∧
    (s.acct.phase = .play → s.session.tilt ≠ .tilted → 1 ≤ s.ballsInPlay →
      s.devices[trough].live.state ≠ .disabled →
      (∀ d : DevNo, s.devices[d].cfg.kind = .lock → s.devices[d].live.state ≠ .disabled) →
      let masked (k : LockNo) : Bool :=
        mask.getLsbD (lockDevice k).val && s.devices[lockDevice k].cfg.kind == .lock
      let credits (k : LockNo) := s.pages[s.session.current].credits[k]
      let held (k : LockNo) := s.devices[lockDevice k].live.occupancy - s.devices[lockDevice k].live.owed
      let total (f : LockNo → Nat) := ((indices 6).map fun k => if masked k then f k else 0).sum
      let aim := min 8 (max 2 target.toNat)
      let deficits := total fun k => credits k - min (credits k) (held k)
      let extra := aim - (s.acct.inPlay + total credits)
      let owed := s.devices[trough].live.owed
      ∃ t : State, exec (.startMultiball [target, mask, t1, t0]) s = .next t ∧
        (∀ k : LockNo, t.pages[s.session.current].credits[k] = (if masked k then 0 else credits k) ∧
          t.pages[s.session.current].lit[k] = s.pages[s.session.current].lit[k] ∧
          (masked k = true → s.devices[lockDevice k].live.owed ≤ 8 → t.devices[lockDevice k].live.owed =
            min 8 (s.devices[lockDevice k].live.owed + min (credits k) (held k)))) ∧
        (owed ≤ 8 → t.devices[trough].live.owed = min 8 (owed + deficits + extra)) ∧
        (word16 t1 t0 = 0 → t.acct.saveState = s.acct.saveState) ∧
        (word16 t1 t0 ≠ 0 → t.acct.saveState = .active ∧ t.acct.saveTimer = ⟨word16 t1 t0, true, false⟩) ∧
        t.acct.savesUsed = s.acct.savesUsed ∧ t.acct.inPlay = t.ballsInPlay ∧
        (owed ≤ 8 → t.link = s.link.after 4
          { status := .ok,
            body := [byte aim, byte (total fun k => min (credits k) (held k)), byte deficits, byte extra,
              byte (min 8 (owed + deficits + extra) - owed)] }))

/-- SET_SWITCH, SET_WINDOW and SET_AWARD: the whole table of each in its order, the clamps, and the fields an accepted
request stores; the award-hit flag stays (R11, R119, R120). -/
def Obligations.SwitchWindowAndAwardRequests : Prop :=
  (∀ s : State, s.link.executing = none →
    (∀ n cls cd od sel : Byte, 127 < n.toNat →
      exec (.setSwitch [n, cls, cd, od, sel]) s = .next (s.refused 5 .notFound)) ∧
    (∀ (n : SwitchNo) (cls cd od sel : Byte), 5 < cls.toNat ∨ 3 < sel.toNat →
      exec (.setSwitch [byte n.val, cls, cd, od, sel]) s = .next (s.refused 5 .badValue)) ∧
    (∀ (n : SwitchNo) (cls : SwitchClass) (cd od : Byte) (sel : EdgeSelection),
      exec (.setSwitch [byte n.val, nameByte SwitchClass.names cls, cd, od, nameByte EdgeSelection.names sel]) s =
        if cls = .unused ∧ s.devicesEnabled = true ∧
            ∃ d : DevNo, n ∈ s.devices[d].cfg.positions ∨ s.devices[d].cfg.entry = some n then
          .next (s.refused 5 .refusedState)
        else .next
          { s with switches := s.switches.set n
                      { s.switches[n] with cls := cls, closeDebounce := min 15 (max 1 cd.toNat),
                                           openDebounce := min 15 (max 1 od.toNat), selection := sel,
                                           pendingFrames := 0 },
                   link := s.link.after 5 { status := .ok, body := [] } })) ∧
  (∀ (s : State) (en base mask ef tr target : Byte), s.link.executing = none →
    let bad : Prop := 1 < en.toNat ∨ 1 < tr.toNat ∨ 127 < base.toNat ∨ 127 < mask.toNat ∨ 2 < ef.toNat
    (∀ i : Byte, 31 < i.toNat →
      exec (.setWindow [i, en, base, mask, ef, tr, target]) s = .next (s.refused 7 .notFound)) ∧
    (∀ i : Fin 32, bad →
      exec (.setWindow [byte i.val, en, base, mask, ef, tr, target]) s = .next (s.refused 7 .badValue)) ∧
    (∀ i : Fin 32, ¬ bad →
      exec (.setWindow [byte i.val, en, base, mask, ef, tr, target]) s = .next
        { s with windows := s.windows.set i
                    { enabled := en == 1, base := BitVec.ofNat 7 base.toNat, mask := BitVec.ofNat 7 mask.toNat,
                      filter := if ef = 0 then .close else if ef = 1 then .opening else .either,
                      translate := tr == 1, target := target },
                 link := s.link.after 7 { status := .ok, body := [] } })) ∧
  (∀ (s : State) (i : Fin 256) (kind scope rr arg nt : Byte) (value : Nat), s.link.executing = none →
    value ≤ Config.maxValue →
    (9 < kind.toNat ∨ 63 < scope.toNat ∨ 1 < rr.toNat ∨ 1 < nt.toNat →
      exec (.setAward ([byte i.val, kind] ++ bcdBytes 4 value ++ [scope, rr, arg, nt])) s =
        .next (s.refused 10 .badValue)) ∧
    (∀ v3 v2 v1 v0 : Byte, bcdValid [v3, v2, v1, v0] = false →
      exec (.setAward [byte i.val, kind, v3, v2, v1, v0, scope, rr, arg, nt]) s = .next (s.refused 10 .badValue)) ∧
    (∀ k : AwardKind, scope.toNat ≤ 63 → rr.toNat ≤ 1 → nt.toNat ≤ 1 →
      exec (.setAward ([byte i.val, nameByte AwardKind.names k] ++ bcdBytes 4 value ++ [scope, rr, arg, nt])) s = .next
        { s with awards := s.awards.set i
                    { kind := k, base := value, scope := scope.toNat, requiresRunning := rr == 1, argument := arg,
                      notify := nt == 1 },
                 link := s.link.after 10 { status := .ok, body := [] } }))

/-- The winning window of a switch event is the enabled window of lowest index whose base agrees with the switch in
every compared position and whose filter admits the direction; with translate 1 the award index is the target combined
with the free part of the switch number (R108, R109). -/
def Obligations.LowestWindowWins : Prop :=
  ∀ (s : State) (n : SwitchNo) (dir : Direction),
    let hits (i : Fin 32) : Prop := s.windows[i].enabled = true ∧
      (∀ k : Fin 7, s.windows[i].mask.getLsbD k.val = true → n.val.testBit k.val = s.windows[i].base.getLsbD k.val) ∧
      (s.windows[i].filter = .either ∨ (s.windows[i].filter = .close ∧ dir = .closing) ∨
        (s.windows[i].filter = .opening ∧ dir = .opening))
    (∀ i : Fin 32, s.winningWindow n dir = some i ↔ hits i ∧ ∀ j : Fin 32, j < i → ¬ hits j) ∧
    ((∀ i : Fin 32, ¬ hits i) → switchEvent n dir s = s) ∧
    (∀ i : Fin 32, s.winningWindow n dir = some i →
      switchEvent n dir s = dispatch (s.windows[i].awardIndex n).toFin s) ∧
    (∀ w : Window, w.translate = false → w.awardIndex n = w.target) ∧
    (∀ (w : Window) (k : Fin 8), w.translate = true → (w.awardIndex n).getLsbD k.val =
      (w.target.getLsbD k.val || (n.val.testBit k.val && decide (k.val < 7) && !w.mask.getLsbD k.val)))

/-- A dispatch is refused while the session is not OPEN or the game is tilted; otherwise an entry that notifies sets
its award-hit flag before its scope is tested, and an entry whose scoped mode must run and does not does nothing more.
POINTS with a LOCAL scoped mode adds base × M to the score and to the mode's total, M being the clamped product of the
playfield multiplier, the RUNNING GLOBAL multipliers and the mode's own (R111 to R114, R125, R126, R129). -/
def Obligations.DispatchScoresTheProduct : Prop :=
  (∀ (s : State) (i : Fin 256),
    (s.session.state = .closed ∨ s.session.tilt = .tilted → dispatch i s = s) ∧
    (s.session.state = .opened → s.session.tilt ≠ .tilted →
      (s.awards[i].notify = true → (dispatch i s).awardHits.getLsbD i.val = true ∧
        (dispatch i s).isPending .awardHit = true) ∧
      (s.awards[i].scope ≠ 0 → s.awards[i].requiresRunning = true →
        runningContext s.pages[s.session.current].stack s.awards[i].scope = none →
        dispatch i s = if s.awards[i].notify then
          State.raise { s with awardHits := s.awardHits ||| (1#256 <<< i.val) } .awardHit else s))) ∧
  (∀ (s : State) (i : Fin 256) (c : Context), s.session.state = .opened → s.session.tilt ≠ .tilted →
    s.awards[i].kind = .points → s.awards[i].notify = false → s.awards[i].scope = c.id → c.id ≠ 0 →
    runningContext s.pages[s.session.current].stack c.id = some c → c.tpl.scope = .localScope →
    let p := s.session.current
    let gs := (globals s.pages[p].stack).map fun g => g.tpl.multiplier
    let m := min 99 (s.pfMult * gs.prod * c.tpl.multiplier)
    let v := s.awards[i].base * m
    let t := dispatch i s
    (s.pages[p].score + v ≤ 999999999999 → t.pages[p].score = s.pages[p].score + v ∧
      t.pages[p].rollover = s.pages[p].rollover) ∧
    (∀ q : PlayerNo, q ≠ p → t.pages[q] = s.pages[q]) ∧
    t.pages[p].stack = s.pages[p].stack.map fun x =>
      if x.id = c.id then { x with total := min 999999999999 (x.total + v) } else x)

/-- The kinds of an admitted award. PF_MULT steps the playfield multiplier and reloads its timer; NOTIFY does nothing
more; LIGHT_LOCK lights one lock of the device its argument names; START_MODE pushes the mode its argument names or
raises MODE_REFUSED; START_MULTIBALL sources its balls from every lock; without a scoped mode the jackpot and hurry-up
kinds do nothing and ADVANCE scores as POINTS. On a RUNNING scoped mode JACKPOT_BUILD raises its jackpot to the
maximum, JACKPOT_COLLECT scores it and sets it to the base, HURRY_COLLECT scores the hurry value and completes the
mode, and ADVANCE scores and then takes one step of progress, completing at a goal above 0 (R93, R100 to R102, R113 to
R117, R126, R129, R131, R134, R144, R149). -/
def Obligations.AwardKindsTakeTheirEffects : Prop :=
  (∀ (s : State) (i : Fin 256), s.session.state = .opened → s.session.tilt ≠ .tilted → s.awards[i].notify = false →
    s.awards[i].scope = 0 ∨ s.awards[i].requiresRunning = false ∨
      (∃ c : Context, runningContext s.pages[s.session.current].stack s.awards[i].scope = some c) →
    let e := s.awards[i]
    let p := s.session.current
    let page := s.pages[p]
    let plain (l : List Context) := l.map fun x => { x with timerDue := false, hurryDue := false }
    let t := dispatch i s
    (e.kind = .pfMult → t = { s with pfMult := min 9 (s.pfMult + 1), pfTimer := s.options.pfMultTime, pfDue := false }) ∧
    (e.kind = .notify → t = s) ∧
    (e.kind = .lightLock →
      (∀ k : LockNo, e.argument = byte (lockDevice k).val → s.devices[lockDevice k].cfg.kind = .lock →
        let gain := min 1 (s.devices[lockDevice k].cfg.capacity - page.lit[k] - page.credits[k])
        t = { s with pages := s.pages.set p { page with lit := page.lit.set k (page.lit[k] + gain) } }) ∧
      ((∀ k : LockNo, e.argument = byte (lockDevice k).val → s.devices[lockDevice k].cfg.kind ≠ .lock) → t = s)) ∧
    (e.kind = .startMode →
      (∀ (k : Fin 63) (tpl : Template), e.argument = byte (k.val + 1) → s.templates[k] = some tpl →
        (∀ c ∈ page.stack, c.id ≠ k.val + 1) → page.stack.length < 8 →
        ∃ beneath : List Context, plain beneath = plain page.stack ∧
          t.pages[p].stack = beneath ++
            [{ id := k.val + 1, tpl := tpl, timed := decide (0 < tpl.initialTimer), timer := tpl.initialTimer,
               timerDue := false, paused := false, progress := 0, jackpot := tpl.jackpotBase, hurry := tpl.hurryStart,
               hurryRemaining := tpl.hurryPeriod, hurryDue := false, total := 0 }] ∧
          t.pages[p].score = page.score ∧ t.notices = s.notices ∧ t.devices = s.devices) ∧
      (e.argument = 0 ∨ 63 < e.argument.toNat → t = s.raise .modeRefused) ∧
      (∀ k : Fin 63, e.argument = byte (k.val + 1) →
        s.templates[k] = none ∨ (∃ c ∈ page.stack, c.id = k.val + 1) ∨ 8 ≤ page.stack.length →
        t = s.raise .modeRefused)) ∧
    (e.kind = .startMultiball → (s.acct.phase ≠ .play → t = s) ∧
      (s.acct.phase = .play → 1 ≤ s.ballsInPlay → s.devices[trough].live.state ≠ .disabled →
        s.devices[trough].live.owed ≤ 8 →
        (∀ d : DevNo, s.devices[d].cfg.kind = .lock → s.devices[d].live.state ≠ .disabled) →
        let lock (k : LockNo) : Bool := s.devices[lockDevice k].cfg.kind == .lock
        let held (k : LockNo) := s.devices[lockDevice k].live.occupancy - s.devices[lockDevice k].live.owed
        let total (f : LockNo → Nat) := ((indices 6).map fun k => if lock k then f k else 0).sum
        let credits (k : LockNo) := page.credits[k]
        let deficits := total fun k => credits k - min (credits k) (held k)
        let extra := min 8 (max 2 e.argument.toNat) - (s.acct.inPlay + total credits)
        (∀ k : LockNo, t.pages[p].credits[k] = (if lock k then 0 else credits k) ∧ t.pages[p].lit[k] = page.lit[k] ∧
          (lock k = true → s.devices[lockDevice k].live.owed ≤ 8 → t.devices[lockDevice k].live.owed =
            min 8 (s.devices[lockDevice k].live.owed + min (credits k) (held k)))) ∧
        t.devices[trough].live.owed = min 8 (s.devices[trough].live.owed + deficits + extra) ∧
        t.acct.saveState = (if s.options.multiballSave = 0 then s.acct.saveState else .active) ∧
        (s.options.multiballSave ≠ 0 → t.acct.saveTimer = ⟨s.options.multiballSave, true, false⟩) ∧
        t.acct.inPlay = t.ballsInPlay ∧ t.pages[p].score = page.score)) ∧
    (e.scope = 0 →
      (e.kind = .jackpotBuild ∨ e.kind = .jackpotCollect ∨ e.kind = .hurryCollect → t = s) ∧
      (e.kind = .points ∨ e.kind = .advance →
        let m := min 99 (s.pfMult * ((globals page.stack).map fun g => g.tpl.multiplier).prod)
        t = (addScore p (e.base * m) s).1))) ∧
  (∀ (s : State) (i : Fin 256) (beneath above : List Context) (c : Context),
    s.session.state = .opened → s.session.tilt ≠ .tilted → s.awards[i].notify = false →
    s.awards[i].scope = c.id → c.id ≠ 0 → s.pages[s.session.current].stack = beneath ++ c :: above →
    (∀ x ∈ beneath ++ above, x.id ≠ c.id) → c.paused = false → (∀ x ∈ above, x.tpl.stacking ≠ .exclusive) →
    let e := s.awards[i]
    let p := s.session.current
    let page := s.pages[p]
    let gs := (globals page.stack).map fun g => g.tpl.multiplier
    let m := min 99 (s.pfMult * gs.prod * if c.tpl.scope = .localScope then c.tpl.multiplier else 1)
    let plain (l : List Context) := l.map fun x => { x with timerDue := false, hurryDue := false }
    let scored (v : Nat) : Context := { c with total := min 999999999999 (c.total + v) }
    let bonus (v : Nat) : Nat := (scored v).total * c.tpl.completionPct / 100 / 10 * 10
    let completes (v : Nat) (t : State) : Prop := t.pages[p].score = page.score + v + bonus v ∧
      t.pages[p].last = { id := c.id, reason := .completed, total := (scored v).total } ∧
      t.isPending .modeEnded = true ∧ (c.tpl.next = 0 → plain t.pages[p].stack = plain (beneath ++ above))
    let t := dispatch i s
    (e.kind = .jackpotBuild → t = { s with pages := s.pages.set p { page with
      stack := beneath ++
        { c with jackpot := min (c.jackpot + c.tpl.jackpotStep) c.tpl.jackpotMax } :: above } }) ∧
    (e.kind = .jackpotCollect → page.score + c.jackpot * m ≤ 999999999999 →
      t = { s with pages := s.pages.set p { page with
        score := page.score + c.jackpot * m,
        stack := beneath ++ { scored (c.jackpot * m) with jackpot := c.tpl.jackpotBase } :: above } }) ∧
    (e.kind = .hurryCollect → page.score + c.hurry * m + bonus (c.hurry * m) ≤ 999999999999 →
      completes (c.hurry * m) t) ∧
    (e.kind = .points → page.score + e.base * m ≤ 999999999999 →
      t = { s with pages := s.pages.set p { page with
        score := page.score + e.base * m, stack := beneath ++ scored (e.base * m) :: above } }) ∧
    (e.kind = .advance → c.progress + 1 < c.tpl.goal → page.score + e.base * m ≤ 999999999999 →
      t = { s with pages := s.pages.set p { page with
        score := page.score + e.base * m,
        stack := beneath ++ { scored (e.base * m) with progress := c.progress + 1 } :: above } }) ∧
    (e.kind = .advance → c.tpl.goal = 0 → page.score + e.base * m ≤ 999999999999 →
      t = { s with pages := s.pages.set p { page with
        score := page.score + e.base * m,
        stack := beneath ++ { scored (e.base * m) with progress := 0 } :: above } }) ∧
    (e.kind = .advance → 0 < c.tpl.goal → c.tpl.goal ≤ c.progress + 1 →
      page.score + e.base * m + bonus (e.base * m) ≤ 999999999999 → completes (e.base * m) t))

/-! ### Score arithmetic -/

/-- The score addition: the exact sum when it fits, else by the score policy and the rollover count (R127). -/
def Obligations.ScoreAdditionFollowsThePolicy : Prop :=
  ∀ (s : State) (p : PlayerNo) (v : Nat),
    let g := s.pages[p]
    let sum := g.score + v
    (sum ≤ 999999999999 → addScore p v s = ({ s with pages := s.pages.set p { g with score := sum } }, .stored)) ∧
    (999999999999 < sum → s.options.policy = .saturate ∨ 9 ≤ g.rollover →
      addScore p v s = ({ s with pages := s.pages.set p { g with score := 999999999999 } }, .saturated)) ∧
    (999999999999 < sum → s.options.policy = .roll → g.rollover ≤ 8 →
      addScore p v s = (State.raise
        { s with pages := s.pages.set p
                    { g with score := sum - 1000000000000, rollover := g.rollover + 1 } } .scoreRollover, .rolled)) ∧
    (g.score ≤ 999999999999 → v ≤ 999999999990 → sum - 1000000000000 ≤ 999999999989)

/-- ADD_POINTS: its refusals, and the addition an accepted request makes and reports (R136, R137, R178, R189, R190; a
digit above 9 is answered before the player is checked, log 13). -/
def Obligations.AddPointsOutcome : Prop :=
  ∀ (s : State) (value : Nat) (multiplied : Bool), s.link.executing = none → value ≤ 99999999 →
    (∀ p : Byte, 3 < p.toNat → exec (.addPoints ([p] ++ bcdBytes 4 value ++ [flagByte multiplied])) s =
      .next (s.refused 6 .notFound)) ∧
    (∀ (p : PlayerNo) (mu : Byte), 1 < mu.toNat → exec (.addPoints ([byte p.val] ++ bcdBytes 4 value ++ [mu])) s =
      .next (s.refused 6 .badValue)) ∧
    (∀ p mu v3 v2 v1 v0 : Byte, bcdValid [v3, v2, v1, v0] = false →
      exec (.addPoints [p, v3, v2, v1, v0, mu]) s = .next (s.refused 6 .badValue)) ∧
    (∀ p : PlayerNo, s.session.state = .closed ∨ s.session.players ≤ p.val →
      exec (.addPoints ([byte p.val] ++ bcdBytes 4 value ++ [flagByte multiplied])) s =
        .next (s.refused 6 .refusedState)) ∧
    (∀ p : PlayerNo, s.session.state = .opened → p.val < s.session.players →
      let gs := (globals s.pages[s.session.current].stack).map fun g => g.tpl.multiplier
      let m := if multiplied then min 99 (s.pfMult * gs.prod) else 1
      let v := value * m
      let t := (addScore p v s).1
      let reply : Reply :=
        { status := .ok,
          body := [nameByte ScoreResult.names (addScore p v s).2, byte m] ++ bcdBytes 5 v ++
            bcdBytes 6 t.pages[p].score ++ [byte t.pages[p].rollover] }
      exec (.addPoints ([byte p.val] ++ bcdBytes 4 value ++ [flagByte multiplied])) s = .next
        { t with link := s.link.after 6 reply })

/-- SET_PF_MULT in an OPEN session stores the clamped value and the time, and READ_MULTIPLIER shows the multiplier
with every factor of the product, the scoped factor being the multiplier of a RUNNING LOCAL mode of that id and
otherwise 1; the timer's expiry returns the multiplier to 1 (R133, R135, R138, R190). An expiry is taken when the tick
that leaves one unit has made it due (the model's reading of time, log 3). -/
def Obligations.PlayfieldMultiplierOutcome : Prop :=
  ∀ (s : State) (v t1 t0 : Byte), s.link.executing = none →
    (s.session.state = .closed → exec (.setPfMult [v, t1, t0]) s = .next (s.refused 3 .refusedState)) ∧
    (s.session.state = .opened → exec (.setPfMult [v, t1, t0]) s = .next
      { s with pfMult := min 9 (max 1 v.toNat), pfTimer := t1.toNat * 256 + t0.toNat, pfDue := false,
               link := s.link.after 3 { status := .ok, body := [byte (min 9 (max 1 v.toNat))] } }) ∧
    (s.pfDue = true → exec .pfMultTimerExpiry s = .next { s with pfMult := 1, pfTimer := 0, pfDue := false }) ∧
    (∀ scope : Byte, 63 < scope.toNat → exec (.readMultiplier [scope]) s = .next (s.refused 1 .badValue)) ∧
    (let gs := globals s.pages[s.session.current].stack
     ∀ scope : Byte, scope.toNat ≤ 63 → gs.length ≤ 8 → ∃ h : Nat,
       (∀ c : Context, scope ≠ 0 → runningContext s.pages[s.session.current].stack scope.toNat = some c →
         c.tpl.scope = .localScope → h = c.tpl.multiplier) ∧
       ((scope = 0 ∨ ∀ c : Context, runningContext s.pages[s.session.current].stack scope.toNat = some c →
         c.tpl.scope ≠ .localScope) → h = 1) ∧
       exec (.readMultiplier [scope]) s = .next (s.answered 1
        ([byte s.pfMult] ++ bytes16 s.pfTimer ++
          [if s.pfTimer = 0 then 2 else if 1 ≤ s.acct.live ∧ s.session.tilt ≠ .tilted then 0 else 1,
            nameByte ScorePolicy.names s.options.policy, byte gs.length] ++
          gs.flatMap (fun g => [byte g.id, byte g.tpl.multiplier]) ++ List.replicate (2 * (8 - gs.length)) 0 ++
          [byte h] ++ bytes32 (s.pfMult * (gs.map fun g => g.tpl.multiplier).prod * h) ++
          [byte (min 99 (s.pfMult * (gs.map fun g => g.tpl.multiplier).prod * h))])))

/-! ### Modes -/

/-- SET_TEMPLATE: its refusals, the clamps, and the template an accepted request defines; READ_TEMPLATE shows it, and
answers NOT_FOUND for an id that names no defined template (R141, R178, R189, R190; a digit above 9 is answered before
the id, log 13). -/
def Obligations.TemplateRequestsOutcome : Prop :=
  ∀ (s : State) (stk : Stacking) (scope : Scope) (mult goal t1 t0 p1 p0 pct next : Byte) (drain tilt : Bool)
    (base step top start fall floor : Nat),
    s.link.executing = none → base ≤ 99999999 → step ≤ 99999999 → top ≤ 99999999 → start ≤ 99999999 →
    fall ≤ 99999999 → floor ≤ 99999999 →
    let numbers : List Byte := bcdBytes 4 base ++ bcdBytes 4 step ++ bcdBytes 4 top ++ bcdBytes 4 start ++
      bcdBytes 4 fall ++ bcdBytes 4 floor
    let send (id st sc dr ti : Byte) := exec (.setTemplate ([id, st, sc, mult, goal, t1, t0] ++ numbers ++
      [p1, p0, pct, dr, ti, next])) s
    let refusal (st : Status) : Host.Outcome State Fault Refusal := .next (s.refused 37 st)
    let st := nameByte Stacking.names stk
    let sc := nameByte Scope.names scope
    let bad : Prop := 63 < next.toNat ∨ top < base ∨ (0 < start ∧ start < floor) ∨
      (0 < start ∧ p1.toNat * 256 + p0.toNat = 0)
    (∀ id x y : Byte, id = 0 ∨ 63 < id.toNat → send id x y (flagByte drain) (flagByte tilt) = refusal .notFound) ∧
    (∀ (id x y dr ti : Byte) (digits : List Byte), digits.length = 24 → bcdValid digits = false →
      exec (.setTemplate ([id, x, y, mult, goal, t1, t0] ++ digits ++ [p1, p0, pct, dr, ti, next])) s =
        refusal .badValue) ∧
    (∀ (k : Fin 63) (x y dr ti : Byte), 1 < x.toNat ∨ 1 < y.toNat ∨ 1 < dr.toNat ∨ 1 < ti.toNat →
      send (byte (k.val + 1)) x y dr ti = refusal .badValue) ∧
    (∀ k : Fin 63, bad → send (byte (k.val + 1)) st sc (flagByte drain) (flagByte tilt) = refusal .badValue) ∧
    (∀ k : Fin 63, ¬ bad →
      let template : Template :=
        { stacking := stk, scope := scope, multiplier := min 9 (max 1 mult.toNat), goal := goal.toNat,
          initialTimer := t1.toNat * 256 + t0.toNat, jackpotBase := base, jackpotStep := step, jackpotMax := top,
          hurryStart := start, hurryStep := if start = 0 then 0 else fall,
          hurryFloor := if start = 0 then 0 else floor,
          hurryPeriod := if start = 0 then 0 else p1.toNat * 256 + p0.toNat,
          completionPct := min 100 pct.toNat, endOnDrain := drain, endOnTilt := tilt, next := next.toNat }
      let t : State := { s with templates := s.templates.set k (some template),
                                link := s.link.after 37 { status := .ok, body := [] } }
      send (byte (k.val + 1)) st sc (flagByte drain) (flagByte tilt) = .next t) ∧
    (∀ (k : Fin 63) (t : Template), s.templates[k] = some t →
      exec (.readTemplate [byte (k.val + 1)]) s = .next (s.answered 1
        ([byte (k.val + 1), nameByte Stacking.names t.stacking, nameByte Scope.names t.scope, byte t.multiplier,
          byte t.goal] ++ bytes16 t.initialTimer ++ bcdBytes 4 t.jackpotBase ++ bcdBytes 4 t.jackpotStep ++
          bcdBytes 4 t.jackpotMax ++ bcdBytes 4 t.hurryStart ++ bcdBytes 4 t.hurryStep ++ bcdBytes 4 t.hurryFloor ++
          bytes16 t.hurryPeriod ++ [byte t.completionPct, flagByte t.endOnDrain, flagByte t.endOnTilt, byte t.next]))) ∧
    (∀ id : Byte, id = 0 ∨ 63 < id.toNat → exec (.readTemplate [id]) s = .next (s.refused 1 .notFound)) ∧
    (∀ k : Fin 63, s.templates[k] = none → exec (.readTemplate [byte (k.val + 1)]) s = .next (s.refused 1 .notFound))

/-- PUSH_MODE: its refusals in their order; accepted, the new context stands RUNNING on top of the current player's
stack with the values its template gives it, the contexts beneath keep every field, and none beneath an EXCLUSIVE one
is RUNNING (R142 to R145, R155). -/
def Obligations.PushModeOutcome : Prop :=
  ∀ (s : State) (k : Fin 63), s.link.executing = none →
    let id := k.val + 1
    let stack := s.pages[s.session.current].stack
    let send := exec (.pushMode [byte id]) s
    (∀ x : Byte, x = 0 ∨ 63 < x.toNat → exec (.pushMode [x]) s = .next (s.refused 1 .notFound)) ∧
    (s.templates[k] = none → send = .next (s.refused 1 .notFound)) ∧
    (∀ tpl : Template, s.templates[k] = some tpl →
      ((∃ c ∈ stack, c.id = id) → send = .next (s.refused 1 .refusedDuplicate)) ∧
      ((∀ c ∈ stack, c.id ≠ id) → 8 ≤ stack.length → send = .next (s.refused 1 .refusedFull)) ∧
      ((∀ c ∈ stack, c.id ≠ id) → stack.length < 8 → s.session.state = .closed →
        send = .next (s.refused 1 .refusedState)) ∧
      ((∀ c ∈ stack, c.id ≠ id) → stack.length < 8 → s.session.state = .opened →
        ∃ (t : State) (beneath : List Context), send = .next t ∧
          t.pages[s.session.current].stack = beneath ++
            [{ id := id, tpl := tpl, timed := decide (0 < tpl.initialTimer), timer := tpl.initialTimer,
               timerDue := false, paused := false, progress := 0, jackpot := tpl.jackpotBase, hurry := tpl.hurryStart,
               hurryRemaining := tpl.hurryPeriod, hurryDue := false, total := 0 }] ∧
          beneath.map (fun c => { c with timerDue := false, hurryDue := false }) =
            stack.map (fun c => { c with timerDue := false, hurryDue := false }) ∧
          t.pages[s.session.current].score = s.pages[s.session.current].score ∧
          t.pages[s.session.current].last = s.pages[s.session.current].last ∧
          t.devices = s.devices ∧ t.notices = s.notices ∧ t.templates = s.templates ∧
          (tpl.stacking = .exclusive →
            ∀ x ∈ (derived t.pages[s.session.current].stack).dropLast, x.2 ≠ .running) ∧
          t.link = s.link.after 1
            { status := .ok,
              body := [byte stack.length, nameByte RunState.names .running, byte (stack.length + 1)] }))

/-- The requests that address one context of the current player's stack: each is refused while the session is CLOSED
and answers NOT_FOUND for an id that is not there. RETIRE_MODE removes the context without bonus or chain, PAUSE_MODE
and RESUME_MODE write its paused flag, ADD_MODE_TIME raises the timer of a timed context, held at 65,535 (R145, R148,
R155 to R158; the tick that made a timer due takes nothing off the sum, log 36). -/
def Obligations.ContextRequestsOutcome : Prop :=
  ∀ (s : State) (id t1 t0 : Byte), s.link.executing = none →
    let p := s.session.current
    (s.session.state = .closed →
      exec (.retireMode [id]) s = .next (s.refused 1 .refusedState) ∧
      exec (.pauseMode [id]) s = .next (s.refused 1 .refusedState) ∧
      exec (.resumeMode [id]) s = .next (s.refused 1 .refusedState) ∧
      exec (.addModeTime [id, t1, t0]) s = .next (s.refused 3 .refusedState)) ∧
    (s.session.state = .opened → (∀ c ∈ s.pages[p].stack, c.id ≠ id.toNat) →
      exec (.retireMode [id]) s = .next (s.refused 1 .notFound) ∧
      exec (.pauseMode [id]) s = .next (s.refused 1 .notFound) ∧
      exec (.resumeMode [id]) s = .next (s.refused 1 .notFound) ∧
      exec (.addModeTime [id, t1, t0]) s = .next (s.refused 3 .notFound)) ∧
    (∀ (beneath above : List Context) (c : Context), s.session.state = .opened →
      s.pages[p].stack = beneath ++ c :: above → c.id = id.toNat →
      (∀ x ∈ beneath ++ above, x.id ≠ id.toNat) →
      let plain (l : List Context) := l.map fun x => { x with timerDue := false, hurryDue := false }
      (∃ t : State, exec (.retireMode [id]) s = .next t ∧ plain t.pages[p].stack = plain (beneath ++ above) ∧
        t.pages[p].last = { id := c.id, reason := .retired, total := c.total } ∧
        t.pages[p].score = s.pages[p].score ∧ t.isPending .modeEnded = true ∧ t.devices = s.devices ∧
        t.link = s.link.after 1
          { status := .ok, body := bcdBytes 6 c.total ++ [byte (beneath.length + above.length)] }) ∧
      (∃ t : State, exec (.pauseMode [id]) s = .next t ∧
        plain t.pages[p].stack = plain (beneath ++ { c with paused := true } :: above) ∧
        t.notices = s.notices ∧ (∀ x ∈ t.pages[p].stack, x.id = id.toNat → x.timerDue = false ∧ x.hurryDue = false) ∧
        t.link = s.link.after 1 { status := .ok, body := [nameByte RunState.names .paused] }) ∧
      (∃ t : State, exec (.resumeMode [id]) s = .next t ∧
        plain t.pages[p].stack = plain (beneath ++ { c with paused := false } :: above) ∧ t.notices = s.notices ∧
        t.link = s.link.after 1
          { status := .ok,
            body := [nameByte RunState.names
              (if ∃ x ∈ above, x.tpl.stacking = .exclusive then .suspended else .running)] }) ∧
      (let time := t1.toNat * 256 + t0.toNat
       let timer := if c.timed ∧ time ≠ 0 then min 65535 (c.timer + time) else c.timer
       exec (.addModeTime [id, t1, t0]) s = .next
        { s with
          pages := s.pages.set p
            { s.pages[p] with
              stack := beneath ++
                { c with timer := timer, timerDue := if c.timed ∧ time ≠ 0 then false else c.timerDue } :: above },
          link := s.link.after 3 { status := .ok, body := bytes16 timer } }))

/-- ADVANCE_MODE: an n of 0 is BAD_VALUE; below the goal the progress rises and nothing else is scored; at a goal of 0
it stays 0 and nothing completes; a goal above 0 that is reached completes the context: the bonus of its total and
percentage, rounded down to a multiple of 10, joins the score, the context leaves with reason COMPLETED, and its next
mode is pushed or refused with MODE_REFUSED, undefined or already on the stack (R130, R148 to R150, R159; without a
completion the reply's result byte is a free value, log 11). -/
def Obligations.AdvanceModeOutcome : Prop :=
  ∀ (s : State) (id n : Byte), s.link.executing = none →
    let p := s.session.current
    (s.session.state = .closed → exec (.advanceMode [id, n]) s = .next (s.refused 2 .refusedState)) ∧
    (s.session.state = .opened → (∀ c ∈ s.pages[p].stack, c.id ≠ id.toNat) →
      exec (.advanceMode [id, n]) s = .next (s.refused 2 .notFound)) ∧
    (∀ (beneath above : List Context) (c : Context), s.session.state = .opened →
      s.pages[p].stack = beneath ++ c :: above → c.id = id.toNat →
      (∀ x ∈ beneath ++ above, x.id ≠ id.toNat) →
      let plain (l : List Context) := l.map fun x => { x with timerDue := false, hurryDue := false }
      let bonus := c.total * c.tpl.completionPct / 100 / 10 * 10
      (n = 0 → exec (.advanceMode [id, n]) s = .next (s.refused 2 .badValue)) ∧
      (n ≠ 0 → c.progress + n.toNat < c.tpl.goal → ∃ free : Byte, exec (.advanceMode [id, n]) s = .next
        { s with
          freeIndex := s.freeIndex + 1,
          pages := s.pages.set p
            { s.pages[p] with stack := beneath ++ { c with progress := c.progress + n.toNat } :: above },
          link := s.link.after 2
            { status := .ok, body := [byte (c.progress + n.toNat), 0, 0, 0, 0, 0, 0, 0, free] } }) ∧
      (n ≠ 0 → c.tpl.goal = 0 → ∃ free : Byte, exec (.advanceMode [id, n]) s = .next
        { s with
          freeIndex := s.freeIndex + 1,
          pages := s.pages.set p { s.pages[p] with stack := beneath ++ { c with progress := 0 } :: above },
          link := s.link.after 2 { status := .ok, body := [0, 0, 0, 0, 0, 0, 0, 0, free] } }) ∧
      (n ≠ 0 → 0 < c.tpl.goal → c.tpl.goal ≤ c.progress + n.toNat →
        s.pages[p].score + bonus ≤ 999999999999 → ∃ t : State, exec (.advanceMode [id, n]) s = .next t ∧
          t.pages[p].score = s.pages[p].score + bonus ∧ t.pages[p].rollover = s.pages[p].rollover ∧
          t.pages[p].last = { id := c.id, reason := .completed, total := c.total } ∧
          t.isPending .modeEnded = true ∧ t.devices = s.devices ∧ t.freeIndex = s.freeIndex ∧
          (c.tpl.next = 0 → plain t.pages[p].stack = plain (beneath ++ above) ∧
            t.isPending .modeRefused = s.isPending .modeRefused ∧
            t.link = s.link.after 2
              { status := .ok, body := [byte c.tpl.goal, 1] ++ bcdBytes 6 bonus ++ [0] }) ∧
          (∀ k : Fin 63, c.tpl.next = k.val + 1 → s.templates[k] = none →
            plain t.pages[p].stack = plain (beneath ++ above) ∧ t.isPending .modeRefused = true ∧
            t.link = s.link.after 2
              { status := .ok,
                body := [byte c.tpl.goal, 1] ++ bcdBytes 6 bonus ++
                  [0, byte c.tpl.next, nameByte Status.names .notFound] }) ∧
          (∀ (k : Fin 63) (tpl : Template), c.tpl.next = k.val + 1 → s.templates[k] = some tpl →
            (∃ x ∈ beneath ++ above, x.id = c.tpl.next) →
            plain t.pages[p].stack = plain (beneath ++ above) ∧ t.isPending .modeRefused = true ∧
            t.link = s.link.after 2
              { status := .ok,
                body := [byte c.tpl.goal, 1] ++ bcdBytes 6 bonus ++
                  [0, byte c.tpl.next, nameByte Status.names .refusedDuplicate] }) ∧
          (∀ (k : Fin 63) (tpl : Template), c.tpl.next = k.val + 1 → s.templates[k] = some tpl →
            (∀ x ∈ beneath ++ above, x.id ≠ c.tpl.next) → beneath.length + above.length < 8 →
            (∃ new : Context, plain t.pages[p].stack = plain (beneath ++ above) ++ [new] ∧ new.id = c.tpl.next ∧
              new.tpl = tpl ∧ new.progress = 0 ∧ new.total = 0 ∧ new.timer = tpl.initialTimer) ∧
            t.isPending .modeRefused = s.isPending .modeRefused ∧
            t.link = s.link.after 2
              { status := .ok,
                body := [byte c.tpl.goal, 1] ++ bcdBytes 6 bonus ++ [0, byte c.tpl.next, 0] })))

/-- A mode timer's expiry ends its context TIMED_OUT, with no bonus and no chain; a hurry period's expiry lowers the
hurry value by the step to no lower than the floor, and reloads the period while the value stands above the floor
(R132, R147, R148). An expiry is taken when the tick that leaves one unit has made it due (the model's reading of
time, log 3). -/
def Obligations.ModeExpiriesOutcome : Prop :=
  ∀ (s : State) (beneath above : List Context) (c : Context),
    let p := s.session.current
    s.pages[p].stack = beneath ++ c :: above → (∀ x ∈ beneath ++ above, x.id ≠ c.id) →
    let plain (l : List Context) := l.map fun x => { x with timerDue := false, hurryDue := false }
    (c.timed = true → c.timerDue = true → ∃ t : State, exec (.modeTimerExpiry c.id) s = .next t ∧
      plain t.pages[p].stack = plain (beneath ++ above) ∧
      t.pages[p].last = { id := c.id, reason := .timedOut, total := c.total } ∧
      t.pages[p].score = s.pages[p].score ∧ t.isPending .modeEnded = true ∧ t.link = s.link ∧
      (∀ q : PlayerNo, q ≠ p → t.pages[q].score = s.pages[q].score ∧ t.pages[q].last = s.pages[q].last)) ∧
    (c.hurryDue = true →
      let value := max (c.hurry - c.tpl.hurryStep) c.tpl.hurryFloor
      exec (.hurryPeriodExpiry c.id) s = .next
        { s with
          pages := s.pages.set p
            { s.pages[p] with
              stack := beneath ++
                { c with hurry := value, hurryDue := false,
                         hurryRemaining := if c.tpl.hurryFloor < value then c.tpl.hurryPeriod else 0 } :: above } }) ∧
    (c.timerDue = false → exec (.modeTimerExpiry c.id) s = .next s) ∧
    (c.hurryDue = false → exec (.hurryPeriodExpiry c.id) s = .next s)

/-! ### The session -/

/-- OPEN_SESSION: refused in an OPEN session and while the devices are DISABLED; accepted, it starts a game for the
clamped number of players and clears their pages, each other page keeping its own. ADD_PLAYER clears the next page and
counts it; refused while CLOSED and at four players. READ_SESSION shows the record (R90, R163, R164, R172, R190). -/
def Obligations.SessionStartsForItsPlayers : Prop :=
  ∀ (s : State) (n : Byte), s.link.executing = none →
    let players := min 4 (max 1 n.toNat)
    let empty : Page :=
      { score := 0, rollover := 0, lit := .replicate 6 0, credits := .replicate 6 0, stack := [],
        last := { id := 0, reason := .none, total := 0 } }
    (s.session.state = .opened ∨ (∀ d : DevNo, s.devices[d].live.state = .disabled) →
      exec (.openSession [n]) s = .next (s.refused 1 .refusedState)) ∧
    (s.session.state = .closed → (∃ d : DevNo, s.devices[d].live.state ≠ .disabled) →
      ∃ t : State, exec (.openSession [n]) s = .next t ∧
        t.session = { state := .opened, players := players, current := 0, tilt := .normal, warnings := 0,
                      swing := ⟨0, false, false⟩ } ∧
        (∀ p : PlayerNo, p.val < players → t.pages[p] = empty) ∧
        (∀ p : PlayerNo, players ≤ p.val → t.pages[p].score = s.pages[p].score ∧
          t.pages[p].lit = s.pages[p].lit ∧ t.pages[p].credits = s.pages[p].credits ∧
          t.pages[p].last = s.pages[p].last) ∧
        t.acct.phase = .noPlay ∧ t.acct.live = s.acct.live ∧ t.acct.flights = s.acct.flights ∧ t.pfMult = 1 ∧
        t.pfTimer = 0 ∧ t.devices = s.devices ∧ t.slots = s.slots ∧ t.notices = s.notices ∧
        t.link = s.link.after 1 { status := .ok, body := [byte players] }) ∧
    (s.session.state = .closed → exec (.addPlayer []) s = .next (s.refused 0 .refusedState)) ∧
    (s.session.state = .opened → s.session.players = 4 → exec (.addPlayer []) s = .next (s.refused 0 .refusedFull)) ∧
    (∀ p : PlayerNo, s.session.state = .opened → s.session.players = p.val → exec (.addPlayer []) s = .next
      { s with session := { s.session with players := p.val + 1 }, pages := s.pages.set p empty,
               link := s.link.after 0 { status := .ok, body := [byte (p.val + 1), byte p.val] } }) ∧
    exec (.readSession []) s = .next (s.answered 0
      ([nameByte SessionState.names s.session.state, byte s.session.players, byte s.session.current.val,
        nameByte TiltStatus.names s.session.tilt, byte s.session.warnings] ++ s.session.swing.bytes ++
        [byte s.options.tiltLimit, byte s.options.swingWindow, nameByte PlayPhase.names s.acct.phase]))

/-- SET_PLAYER: its refusals in their order; accepted between balls, the player becomes current in NO_PLAY, and each
PURGE lock that holds more balls than the player's credits owes the excess, up to 8; tilt, warnings and multiplier
stay (R98, R165). -/
def Obligations.SetPlayerReconcilesTheLocks : Prop :=
  ∀ (s : State), s.link.executing = none →
    (∀ p : Byte, s.session.state = .closed → exec (.setPlayer [p]) s = .next (s.refused 1 .refusedState)) ∧
    (∀ p : Byte, s.session.state = .opened → 3 < p.toNat →
      exec (.setPlayer [p]) s = .next (s.refused 1 .notFound)) ∧
    (∀ p : PlayerNo, s.session.state = .opened → s.session.players ≤ p.val →
      exec (.setPlayer [byte p.val]) s = .next (s.refused 1 .badValue)) ∧
    (∀ p : PlayerNo, s.session.state = .opened → p.val < s.session.players →
      s.acct.phase ≠ .noPlay ∧ s.acct.phase ≠ .ended →
      exec (.setPlayer [byte p.val]) s = .next (s.refused 1 .refusedState)) ∧
    (∀ p : PlayerNo, s.session.state = .opened → p.val < s.session.players →
      s.acct.phase = .noPlay ∨ s.acct.phase = .ended →
      (∀ d : DevNo, s.devices[d].cfg.kind = .lock → s.devices[d].live.state ≠ .disabled ∧
        s.devices[d].live.owed ≤ 8) →
      let excess (k : LockNo) : Nat :=
        if s.devices[lockDevice k].cfg.kind = .lock ∧ s.devices[lockDevice k].cfg.policy = .purge then
          s.devices[lockDevice k].live.occupancy - s.devices[lockDevice k].live.owed - s.pages[p].credits[k]
        else 0
      let owed (k : LockNo) : Nat := min 8 (s.devices[lockDevice k].live.owed + excess k)
      ∃ t : State, exec (.setPlayer [byte p.val]) s = .next t ∧ t.acct.phase = .noPlay ∧
        t.session = { s.session with current := p } ∧ t.pfMult = s.pfMult ∧ t.pfTimer = s.pfTimer ∧
        (∀ q : PlayerNo, t.pages[q].score = s.pages[q].score ∧ t.pages[q].credits = s.pages[q].credits ∧
          t.pages[q].lit = s.pages[q].lit) ∧
        (∀ k : LockNo, s.devices[lockDevice k].cfg.kind = .lock → t.devices[lockDevice k].live.owed = owed k) ∧
        (∀ d : DevNo, d.val < 2 ∨ s.devices[d].cfg.kind ≠ .lock → t.devices[d] = s.devices[d]) ∧
        (∀ d : DevNo, t.devices[d].live.occupancy = s.devices[d].live.occupancy) ∧
        t.link = s.link.after 1
          { status := .ok,
            body := [byte p.val, byte ((indices 6).map fun k =>
              if s.devices[lockDevice k].cfg.kind = .lock then owed k - s.devices[lockDevice k].live.owed
              else 0).sum] })

/-- CLOSE_SESSION, between balls only, and a slam, at any moment of an OPEN session, close the session: every context
of every page ends CLOSED, the bottom one recorded, with one MODE_ENDED; scores and locks stay. A slam also raises
SLAM, ends play without BALL_ENDED, drops what the trough and the shooter lane owe, and stops ball save and the search
(R148, R154, R166, R170). -/
def Obligations.ClosingEndsEveryMode : Prop :=
  ∀ s : State,
    let closes (t : State) : Prop :=
      t.session = { s.session with state := .closed } ∧
      (∀ p : PlayerNo, t.pages[p].stack = [] ∧ t.pages[p].score = s.pages[p].score ∧
        t.pages[p].lit = s.pages[p].lit ∧ t.pages[p].credits = s.pages[p].credits ∧
        (s.pages[p].stack = [] → t.pages[p].last = s.pages[p].last) ∧
        (∀ c : Context, s.pages[p].stack.head? = some c →
          t.pages[p].last = { id := c.id, reason := .closed, total := c.total })) ∧
      (t.isPending .modeEnded = true ↔ s.isPending .modeEnded = true ∨ ∃ p : PlayerNo, s.pages[p].stack ≠ [])
    (s.link.executing = none →
      (s.session.state = .closed ∨ (s.acct.phase ≠ .noPlay ∧ s.acct.phase ≠ .ended) →
        exec (.closeSession []) s = .next (s.refused 0 .refusedState)) ∧
      (s.session.state = .opened → s.acct.phase = .noPlay ∨ s.acct.phase = .ended →
        ∃ t : State, exec (.closeSession []) s = .next t ∧ closes t ∧ t.acct.phase = s.acct.phase ∧
          t.devices = s.devices ∧ t.slots = s.slots ∧ t.coils = s.coils ∧
          t.link = s.link.after 0 { status := .ok, body := [] })) ∧
    (s.session.state = .closed → slamEvent s = s) ∧
    (s.session.state = .opened →
      let t := slamEvent s
      closes t ∧ t.isPending .slam = true ∧ t.isPending .ballEnded = s.isPending .ballEnded ∧
        t.acct.phase = .ended ∧ t.acct.multiball = false ∧ t.acct.saveState = .off ∧ t.acct.search = .idle ∧
        t.acct.idleTimer.running = false ∧ t.acct.live = s.acct.live ∧ t.acct.flights = s.acct.flights ∧
        t.acct.missing = s.acct.missing ∧ t.slots = s.slots ∧ t.acct.inPlay = t.ballsInPlay ∧
        (∀ d : DevNo, t.devices[d] = if d = trough ∨ d = shooter
          then { s.devices[d] with live := { s.devices[d].live with owed := 0 } } else s.devices[d]))

/-- GAME_RESET ends the game from any state and keeps the configuration: every block applies its own effect (R16, R43,
R60, R88, R91, R123, R139, R161, R171). -/
def Obligations.GameResetKeepsTheConfiguration : Prop :=
  ∀ s : State, s.link.executing = none → ∃ t : State, exec (.gameReset []) s = .next t ∧
    t.link = s.link.after 0 { status := .ok, body := [] } ∧
    t.session = { s.session with state := .closed, tilt := .normal, warnings := 0, swing := ⟨0, false, false⟩ } ∧
    t.activity = 0 ∧ t.awardHits = 0 ∧ t.pfMult = 1 ∧ t.pfTimer = 0 ∧
    (∀ d : DevNo, t.devices[d].cfg = s.devices[d].cfg ∧ t.devices[d].live.occupancy = s.devices[d].live.occupancy ∧
      t.devices[d].live.owed = 0 ∧
      (s.devices[d].live.state = .jammed → t.devices[d].live = { s.devices[d].live with owed := 0 }) ∧
      (s.devices[d].live.state = .confirming →
        t.devices[d].live = { s.devices[d].live with owed := 0, stopPending := true })) ∧
    (∀ n : SlotNo, s.slots[n].state = .queued → (∀ d : DevNo, s.devices[d].live.order ≠ .slot n) →
      t.slots[n].state = .idle ∧ t.slots[n].result = .cancelled) ∧
    (∀ c : CoilNo, t.coils[c].cfg = s.coils[c].cfg ∧
      (s.coils[c].live.state = .waiting → s.coils[c].live.held = none →
        s.coils[c].live.cls = some .search ∨ s.coils[c].live.cls = some .direct →
        (∀ d : DevNo, s.coils[c].live.owner ≠ some (.device d)) →
        t.coils[c].live.state = .idle ∧ t.coils[c].live.owner = none)) ∧
    t.acct.installed = s.acct.installed ∧ t.acct.live = 0 ∧ t.acct.flights = [] ∧
    t.acct.missing = s.acct.missing + s.acct.live + s.acct.flights.length ∧ t.acct.phase = .noPlay ∧
    t.acct.multiball = false ∧ t.acct.saveState = .off ∧ t.acct.savesUsed = 0 ∧ t.acct.search = .idle ∧
    t.acct.inPlay = t.ballsInPlay ∧
    (∀ p : PlayerNo, t.pages[p].score = 0 ∧ t.pages[p].rollover = 0 ∧ t.pages[p].stack = [] ∧
      (∀ k : LockNo, t.pages[p].lit[k] = 0 ∧ t.pages[p].credits[k] = 0) ∧
      (s.pages[p].stack = [] → t.pages[p].last = { id := 0, reason := .none, total := 0 }) ∧
      (∀ c : Context, s.pages[p].stack.head? = some c →
        t.pages[p].last = { id := c.id, reason := .closed, total := c.total })) ∧
    ((∃ p : PlayerNo, s.pages[p].stack ≠ []) → t.isPending .modeEnded = true) ∧
    t.switches = s.switches ∧ t.windows = s.windows ∧ t.awards = s.awards ∧ t.templates = s.templates ∧
    t.options = s.options ∧ t.notices.enable = s.notices.enable ∧ t.notices.route = s.notices.route

/-! ### Notices and options -/

/-- Raising a notice sets its pending flag and changes nothing else; each attention line is active exactly when some
kind is pending, enabled and routed to it; READ_NOTICES shows flags, link error record and lines; CLEAR_NOTICES clears
exactly the pending flags its set names, and the error count with LINK_ERROR; SET_NOTICE_ENABLE and SET_NOTICE_ROUTE
write all 22 flags. SET_GAME_OPTIONS: refused in an OPEN session, then for an unknown arbitration mode or score policy
or a save limit above 15; accepted, every field is stored after its clamp and the reply carries the record as stored,
which READ_GAME_OPTIONS returns at any time (R180 to R186, R189, R190). -/
def Obligations.NoticesAndOptionsOutcome : Prop :=
  ((∀ (s : State) (k : Notice), (s.raise k).isPending k = true ∧
    (∀ j : Notice, j ≠ k → (s.raise k).isPending j = s.isPending j) ∧
    { s.raise k with notices := { (s.raise k).notices with pending := s.notices.pending } } = s) ∧
  (∀ n : Notices, n.attnA = true ↔ ∃ k : Fin 22, n.pending[k] = true ∧ n.enable[k] = true ∧ n.route[k] = false) ∧
  (∀ n : Notices, n.attnB = true ↔ ∃ k : Fin 22, n.pending[k] = true ∧ n.enable[k] = true ∧ n.route[k] = true) ∧
  (∀ s : State, s.link.executing = none → ∃ pending enable route : List Byte,
    pending.length = 3 ∧ enable.length = 3 ∧ route.length = 3 ∧
    (∀ k : Fin 22, (pending.getD (k.val / 8) 0).getLsbD (k.val % 8) = s.notices.pending[k] ∧
      (enable.getD (k.val / 8) 0).getLsbD (k.val % 8) = s.notices.enable[k] ∧
      (route.getD (k.val / 8) 0).getLsbD (k.val % 8) = s.notices.route[k]) ∧
    exec (.readNotices []) s = .next (s.answered 0
      (pending ++ enable ++ route ++ [nameByte LinkCause.names s.link.lastCause, byte s.link.errorCount,
        byte ((if s.notices.attnA then 1 else 0) + if s.notices.attnB then 2 else 0)])))) ∧
  (∀ (s : State) (b0 b1 b2 : Byte), s.link.executing = none →
    let named (k : Fin 22) : Bool := ([b0, b1, b2].getD (k.val / 8) 0).getLsbD (k.val % 8)
    (∃ (left : BitVec 22) (before : List Byte), before.length = 3 ∧
      (∀ k : Fin 22, (before.getD (k.val / 8) 0).getLsbD (k.val % 8) = s.notices.pending[k] ∧
        left[k] = (s.notices.pending[k] && !named k)) ∧
      exec (.clearNotices [b0, b1, b2]) s = .next
        { s with notices := { s.notices with pending := left },
                 link := { s.link with
                    executing := some { status := .ok, body := before }, waiting := none,
                    shifted := List.replicate 6 0xFF,
                    errorCount := if named 21 then 0 else s.link.errorCount } }) ∧
    (∃ flags : BitVec 22, (∀ k : Fin 22, flags[k] = named k) ∧
      exec (.setNoticeEnable [b0, b1, b2]) s = .next
        { s with notices := { s.notices with enable := flags }, link := s.link.after 3 { status := .ok, body := [] } } ∧
      exec (.setNoticeRoute [b0, b1, b2]) s = .next
        { s with notices := { s.notices with route := flags }, link := s.link.after 3 { status := .ok, body := [] } })) ∧
  (∀ (s : State) (ar ep sp dp gg p1 p0 m1 m0 gt sl sd ss rl si tl sw po : Byte), s.link.executing = none →
    let send := exec (.setGameOptions [ar, ep, sp, dp, gg, p1, p0, m1, m0, gt, sl, sd, ss, rl, si, tl, sw, po]) s
    let bad : Prop := 1 < ar.toNat ∨ 1 < po.toNat ∨ 15 < sl.toNat
    let record (o : Options) : List Byte :=
      [nameByte Arbitration.names o.arbitration, byte o.ejectPriority, byte o.searchPriority, byte o.directPriority,
        byte o.groupGap] ++ bytes16 o.pfMultTime ++ bytes16 o.multiballSave ++
        [byte o.graceTime, byte o.saveLimit, byte o.searchDelay, byte o.searchSpacing, byte o.roundLimit,
          byte o.slowInterval, byte o.tiltLimit, byte o.swingWindow, nameByte ScorePolicy.names o.policy]
    (s.session.state = .opened → send = .next (s.refused 18 .refusedState)) ∧
    (s.session.state = .closed → bad → send = .next (s.refused 18 .badValue)) ∧
    (s.session.state = .closed → ¬ bad →
      let stored : Options :=
        { arbitration := if ar = 0 then .fixed else .rotate, ejectPriority := min 15 ep.toNat,
          searchPriority := min 15 sp.toNat, directPriority := min 15 dp.toNat, groupGap := gg.toNat,
          pfMultTime := p1.toNat * 256 + p0.toNat, multiballSave := m1.toNat * 256 + m0.toNat,
          graceTime := gt.toNat, saveLimit := sl.toNat, searchDelay := max 10 sd.toNat,
          searchSpacing := max 1 ss.toNat, roundLimit := min 8 (max 1 rl.toNat), slowInterval := max 1 si.toNat,
          tiltLimit := min 9 (max 1 tl.toNat), swingWindow := sw.toNat,
          policy := if po = 0 then .saturate else .roll }
      let t : State := { s with options := stored, link := s.link.after 18 { status := .ok, body := record stored } }
      send = .next t) ∧
    exec (.readGameOptions []) s = .next (s.answered 0 (record s.options)))

/-! ### The link -/

/-- The CRC byte: a register that starts at 0, takes each byte position by position and is then shifted eight times,
with 07 combined in after each 1 shifted out; 01 00 give 15; a frame with its own CRC byte leaves 0; replies carry the
same CRC over status, length and body (R175). -/
def Obligations.CrcFollowsItsPolynomial : Prop :=
  let shift (r : Byte) : Byte := if r.getLsbD 7 then (r <<< 1) ^^^ 0x07 else r <<< 1
  crc8 [] = 0 ∧ (∀ (bs : List Byte) (b : Byte), crc8 (bs ++ [b]) = shift^[8] (crc8 bs ^^^ b)) ∧
  crc8 [0x01, 0x00] = 0x15 ∧ (∀ bs : List Byte, crc8 (bs ++ [crc8 bs]) = 0) ∧
  (∀ (code : Byte) (body : List Byte),
    requestFrame code body = code :: byte body.length :: body ++ [crc8 (code :: byte body.length :: body)]) ∧
  (∀ r : Reply, ∃ status : Byte, r.bytes =
    status :: byte r.body.length :: r.body ++ [crc8 (status :: byte r.body.length :: r.body)])

/-- Every request that can be sent, written as a frame, is read back as that request, whatever bytes follow its CRC
byte; a frame cut short or with another CRC byte is a bad frame; and every frame with a complete byte is read as some
command that can reach the part (R174, R176, R177, R188). The reading of a frame is that of one begun while no request
executes (log 7). -/
def Obligations.FramesRoundTrip : Prop :=
  (∀ (i : Instr) (code : Byte) (body : List Byte), codeOf i = some (code, body) → WellFormed i →
    ∃ bytes : List Byte, writeFrame i = some bytes ∧ bytes.length = body.length + 3 ∧
      (∀ extra : List Byte, readFrame (bytes ++ extra) = some i) ∧
      (∀ k : Nat, 1 ≤ k → k < bytes.length → readFrame (bytes.take k) = some (.badFrame (bytes.take k)) ∧
        frameCause (bytes.take k) = some .shortFrame) ∧
      (∀ crc : Byte, some crc ≠ bytes.getLast? → ∀ extra : List Byte,
        frameCause (bytes.dropLast ++ crc :: extra) = some .badCrc)) ∧
  readFrame [0x00, 0x00, 0x00] = some (.fetch 0) ∧ readFrame [] = none ∧
  (∀ bytes : List Byte, bytes ≠ [] → ∃ i : Instr, readFrame bytes = some i ∧ WellFormed i)

/-- Executions: a body whose length is not the named request's is answered BAD_VALUE and changes nothing; a code that
names no request, or the fetch code with a body, is answered UNKNOWN_REQUEST; the end of an execution makes its reply
the waiting one and RDY active (R178, R188, R190). A refused reply carries no body, here and in every other statement
(log 12). The effect of a request falls at its frame, the reply at the end of its execution (the model's steps, log
7). -/
def Obligations.ExecutionsAnswerEveryRequest : Prop :=
  let lengths : List (Byte × Nat) :=
    [(0x10, 5), (0x11, 1), (0x12, 0), (0x13, 0), (0x20, 22), (0x21, 1), (0x22, 0), (0x23, 2), (0x24, 2), (0x25, 1),
     (0x26, 1), (0x27, 1), (0x30, 9), (0x31, 2), (0x32, 1), (0x33, 0), (0x40, 1), (0x41, 3), (0x42, 2), (0x43, 0),
     (0x44, 0), (0x45, 1), (0x50, 2), (0x51, 4), (0x52, 1), (0x53, 0), (0x60, 7), (0x61, 10), (0x62, 1), (0x63, 1),
     (0x64, 0), (0x70, 6), (0x71, 3), (0x72, 1), (0x80, 37), (0x81, 1), (0x82, 1), (0x83, 1), (0x84, 1), (0x85, 1),
     (0x86, 3), (0x87, 2), (0x88, 2), (0x90, 1), (0x91, 0), (0x92, 1), (0x93, 0), (0x94, 0), (0x95, 0), (0xA0, 0),
     (0xA1, 3), (0xA2, 3), (0xA3, 3), (0xA4, 18), (0xA5, 0), (0xA6, 0)]
  ∀ s : State,
    (s.link.executing = none → ∀ r ∈ lengths, ∀ (body : List Byte) (i : Instr), codeOf i = some (r.1, body) →
      body.length ≤ 60 → body.length ≠ r.2 → exec i s = .next (s.refused body.length .badValue)) ∧
    (s.link.executing = none → ∀ (code : Byte) (body : List Byte), body.length ≤ 60 →
      ((∀ r ∈ lengths, r.1 ≠ code) ∧ code ≠ 0) ∨ (code = 0 ∧ body ≠ []) →
      exec (.unknownRequest code body) s = .next (s.refused body.length .unknownRequest)) ∧
    (∀ r : Reply, s.link.executing = some r → ∃ t : State, exec .executionEnd s = .next t ∧ t.rdy = true ∧
      t = { s with link := { s.link with executing := none, waiting := some r } }) ∧
    (s.link.executing = none → exec .executionEnd s = .next s)

/-- A frame that reaches the part while a request executes, whatever it carries, and a frame begun during an execution
that has ended since, is discarded with filler throughout, LINK_ERROR and cause OVERRUN, the execution, its reply and
any waiting reply untouched. A fetch shifts filler during its own bytes and then the waiting reply, or NO_REPLY; a
reply whose CRC byte is out is gone, one cut short stays. A bad frame replaces any waiting reply by BAD_FRAME and
records the first check it fails (R176, R177, R179, R180, R188). -/
def Obligations.FramesThatAreNoRequest : Prop :=
  (∀ s : State,
    let overrun (n : Nat) : Host.Outcome State Fault Refusal := .next (State.raise
      { s with link := { s.link with shifted := List.replicate n 0xFF, lastCause := .overrun,
                                     errorCount := min 255 (s.link.errorCount + 1) } } .linkError)
    (∀ r : Reply, s.link.executing = some r →
      (∀ (i : Instr) (code : Byte) (body : List Byte), codeOf i = some (code, body) →
        exec i s = overrun (body.length + 3)) ∧
      (∀ clocked : Nat, exec (.fetch clocked) s = overrun (clocked + 3)) ∧
      (∀ bytes : List Byte, WellFormed (.badFrame bytes) → exec (.badFrame bytes) s = overrun bytes.length) ∧
      (∀ (code : Byte) (body : List Byte), WellFormed (.unknownRequest code body) →
        exec (.unknownRequest code body) s = overrun (body.length + 3))) ∧
    (∀ n : Nat, 1 ≤ n → exec (.overrun n) s = overrun n)) ∧
  (∀ s : State, s.link.executing = none →
    (∀ clocked : Nat,
      let out := (s.link.waiting.getD { status := .noReply, body := [] }).bytes
      ∃ t : State, exec (.fetch clocked) s = .next t ∧
        t = { s with link := { s.link with shifted := t.link.shifted, waiting := t.link.waiting } } ∧
        t.link.shifted.length = clocked + 3 ∧ t.link.shifted.take 3 = [0xFF, 0xFF, 0xFF] ∧
        (∀ k : Nat, k < clocked → t.link.shifted[3 + k]? = some (out.getD k 0xFF)) ∧
        t.link.waiting = (if out.length ≤ clocked then none else s.link.waiting)) ∧
    (∀ bytes : List Byte, ∀ cause : LinkCause, frameCause bytes = some cause →
      exec (.badFrame bytes) s = .next (State.raise
        { s with link := { s.link with shifted := List.replicate bytes.length 0xFF,
                                       waiting := some { status := .badFrame, body := [] }, lastCause := cause,
                                       errorCount := min 255 (s.link.errorCount + 1) } } .linkError)) ∧
    (∀ code len : Byte, ∀ rest : List Byte,
      (60 < len.toNat → frameCause (code :: len :: rest) = some .badLength) ∧
      (len.toNat ≤ 60 → rest.length ≤ len.toNat → frameCause (code :: len :: rest) = some .shortFrame) ∧
      (∀ (body extra : List Byte) (crc : Byte), rest = body ++ crc :: extra → body.length = len.toNat →
        len.toNat ≤ 60 → frameCause (code :: len :: rest) =
          if crc = crc8 (code :: len :: body) then none else some .badCrc)))

/-! ### The invariants every step keeps -/

/-- Reset leaves every invariant true (R15, R43, R59, R62, R91, R161, R173). -/
def Obligations.ResetIsSafe : Prop :=
  State.reset.Conserved ∧ State.reset.DevicesSafe ∧ State.reset.SlotsSafe ∧ State.reset.CoilsSafe ∧
    State.reset.GameSafe ∧ State.reset.SessionSafe ∧ State.reset.LocksSafe ∧ State.reset.SwitchesSafe

/-- Every command but POWER_ON_RESET keeps to its own records: each host-written part changes only by its own request,
the scan frame alone moves the frame count, the levels and the stamps, a pending notice is cleared by CLEAR_NOTICES
alone, the score of a player who is not current changes only by ADD_POINTS or where a page is cleared, and no command
touches the queue (R1, R4, R17, R44, R58, R90, R107, R110, R140, R181, R184, R185; the queue and freeIndex are the
model's own, logs 1 and 2). -/
def Obligations.RecordsChangeOnlyByTheirCommands : Prop :=
  ∀ (c : Instr) (s t : State), exec c s = .next t → c ≠ .powerOnReset →
    t.pending = s.pending ∧
    ((∀ b : List Byte, c ≠ .setSwitch b) → ∀ n : SwitchNo, t.switches[n].cls = s.switches[n].cls ∧
      t.switches[n].closeDebounce = s.switches[n].closeDebounce ∧
      t.switches[n].openDebounce = s.switches[n].openDebounce ∧ t.switches[n].selection = s.switches[n].selection) ∧
    ((∀ (raw : BitVec 128) (early : List Event), c ≠ .scanFrame raw early) →
      t.frameCount = s.frameCount ∧ t.tickPhase = s.tickPhase ∧
      ∀ n : SwitchNo, t.switches[n].level = s.switches[n].level ∧
        t.switches[n].lastClose = s.switches[n].lastClose ∧ t.switches[n].lastOpen = s.switches[n].lastOpen) ∧
    ((∀ b : List Byte, c ≠ .setDevice b) → ∀ d : DevNo, t.devices[d].cfg = s.devices[d].cfg) ∧
    ((∀ b : List Byte, c ≠ .setCoil b) → ∀ k : CoilNo, t.coils[k].cfg = s.coils[k].cfg) ∧
    ((∀ b : List Byte, c ≠ .setWindow b) → t.windows = s.windows) ∧
    ((∀ b : List Byte, c ≠ .setAward b) → t.awards = s.awards) ∧
    ((∀ b : List Byte, c ≠ .setTemplate b) → t.templates = s.templates) ∧
    ((∀ b : List Byte, c ≠ .setGameOptions b) → t.options = s.options) ∧
    ((∀ b : List Byte, c ≠ .setNoticeEnable b) → t.notices.enable = s.notices.enable) ∧
    ((∀ b : List Byte, c ≠ .setNoticeRoute b) → t.notices.route = s.notices.route) ∧
    ((∀ b : List Byte, c ≠ .clearNotices b) → ∀ k : Notice, s.isPending k = true → t.isPending k = true) ∧
    ((∀ b : List Byte, c ≠ .openSession b ∧ c ≠ .addPlayer b ∧ c ≠ .addPoints b ∧ c ≠ .gameReset b) →
      ∀ p : PlayerNo, p ≠ s.session.current → t.pages[p].score = s.pages[p].score) ∧
    ((∀ b : List Byte, c ≠ .advanceMode b) → t.freeIndex = s.freeIndex)

/-- No ball is lost or made up: every step keeps the conservation identity, with at most 16 balls installed (R62). -/
def Obligations.StepConservesTheBalls : Prop :=
  ∀ s t : State, s.Conserved → step s = .next t → t.Conserved

/-- Every step keeps the device records consistent: kinds fit numbers, occupancies fit capacities, targets are lawful,
and a DISABLED device is at rest (R17, R18, R40, R41, R62, R63). -/
def Obligations.StepKeepsTheDevicesSafe : Prop :=
  ∀ s t : State, s.DevicesSafe → step s = .next t → t.DevicesSafe

/-- Every step keeps the eject slots consistent: the QUEUED slots of each device hold the issue numbers from 0 upward
without gaps, and no slot counts more balls than were asked for (R26). -/
def Obligations.StepKeepsTheSlotQueues : Prop :=
  ∀ s t : State, s.SlotsSafe → step s = .next t → t.SlotsSafe

/-- At most one coil of each power group fires at a time: every step keeps it, and keeps ages and priorities in their
ranges (R45, R47, R50). -/
def Obligations.StepFiresOneCoilPerGroup : Prop :=
  ∀ s t : State, s.CoilsSafe → step s = .next t → t.CoilsSafe

/-- Every step keeps scores, stacks, contexts, templates and the playfield multiplier in their ranges, with no mode id
twice on a stack (R89, R110, R124, R133, R140, R142, R143). -/
def Obligations.StepKeepsTheGameSafe : Prop :=
  ∀ s t : State, s.GameSafe → step s = .next t → t.GameSafe

/-- Every step keeps the session consistent: a ball is served, launched or in play only in an OPEN session, the stacks
of a CLOSED one are empty, and tilt status and warnings agree (R144, R162, R168). -/
def Obligations.StepKeepsTheSessionSafe : Prop :=
  ∀ s t : State, s.SessionSafe → step s = .next t → t.SessionSafe

/-- The lit locks and credits of a player at a lock together never exceed its capacity, and debounce counts and
pending frames stay in their ranges: every step keeps both (R1, R3, R92). -/
def Obligations.StepKeepsLocksAndSwitchesSafe : Prop :=
  (∀ s t : State, s.LocksSafe → step s = .next t → t.LocksSafe) ∧
  (∀ s t : State, s.SwitchesSafe → step s = .next t → t.SwitchesSafe)
end

