-- ==== Sys2Proof/Laws/State.lean ====
section
/-! SUPPORT. One lemma per field per update of the state, and what reading one record of a collection gives after a write to
one of them. Later proofs use these and unfold no update. -/

namespace Sys2Proof.Machine

/-! ### modDevice -/

@[simp] theorem State.modDevice_pending (s : State) (d : DevNo) (f : Device → Device) : (s.modDevice d f).pending = s.pending := rfl
@[simp] theorem State.modDevice_freeIndex (s : State) (d : DevNo) (f : Device → Device) : (s.modDevice d f).freeIndex = s.freeIndex := rfl
@[simp] theorem State.modDevice_tickPhase (s : State) (d : DevNo) (f : Device → Device) : (s.modDevice d f).tickPhase = s.tickPhase := rfl
@[simp] theorem State.modDevice_frameCount (s : State) (d : DevNo) (f : Device → Device) : (s.modDevice d f).frameCount = s.frameCount := rfl
@[simp] theorem State.modDevice_switches (s : State) (d : DevNo) (f : Device → Device) : (s.modDevice d f).switches = s.switches := rfl
@[simp] theorem State.modDevice_activity (s : State) (d : DevNo) (f : Device → Device) : (s.modDevice d f).activity = s.activity := rfl
@[simp] theorem State.modDevice_slots (s : State) (d : DevNo) (f : Device → Device) : (s.modDevice d f).slots = s.slots := rfl
@[simp] theorem State.modDevice_coils (s : State) (d : DevNo) (f : Device → Device) : (s.modDevice d f).coils = s.coils := rfl
@[simp] theorem State.modDevice_groupA (s : State) (d : DevNo) (f : Device → Device) : (s.modDevice d f).groupA = s.groupA := rfl
@[simp] theorem State.modDevice_groupB (s : State) (d : DevNo) (f : Device → Device) : (s.modDevice d f).groupB = s.groupB := rfl
@[simp] theorem State.modDevice_acct (s : State) (d : DevNo) (f : Device → Device) : (s.modDevice d f).acct = s.acct := rfl
@[simp] theorem State.modDevice_pages (s : State) (d : DevNo) (f : Device → Device) : (s.modDevice d f).pages = s.pages := rfl
@[simp] theorem State.modDevice_decisions (s : State) (d : DevNo) (f : Device → Device) : (s.modDevice d f).decisions = s.decisions := rfl
@[simp] theorem State.modDevice_windows (s : State) (d : DevNo) (f : Device → Device) : (s.modDevice d f).windows = s.windows := rfl
@[simp] theorem State.modDevice_awards (s : State) (d : DevNo) (f : Device → Device) : (s.modDevice d f).awards = s.awards := rfl
@[simp] theorem State.modDevice_awardHits (s : State) (d : DevNo) (f : Device → Device) : (s.modDevice d f).awardHits = s.awardHits := rfl
@[simp] theorem State.modDevice_pfMult (s : State) (d : DevNo) (f : Device → Device) : (s.modDevice d f).pfMult = s.pfMult := rfl
@[simp] theorem State.modDevice_pfTimer (s : State) (d : DevNo) (f : Device → Device) : (s.modDevice d f).pfTimer = s.pfTimer := rfl
@[simp] theorem State.modDevice_pfDue (s : State) (d : DevNo) (f : Device → Device) : (s.modDevice d f).pfDue = s.pfDue := rfl
@[simp] theorem State.modDevice_templates (s : State) (d : DevNo) (f : Device → Device) : (s.modDevice d f).templates = s.templates := rfl
@[simp] theorem State.modDevice_session (s : State) (d : DevNo) (f : Device → Device) : (s.modDevice d f).session = s.session := rfl
@[simp] theorem State.modDevice_notices (s : State) (d : DevNo) (f : Device → Device) : (s.modDevice d f).notices = s.notices := rfl
@[simp] theorem State.modDevice_link (s : State) (d : DevNo) (f : Device → Device) : (s.modDevice d f).link = s.link := rfl
@[simp] theorem State.modDevice_options (s : State) (d : DevNo) (f : Device → Device) : (s.modDevice d f).options = s.options := rfl

/-! ### modLive -/

@[simp] theorem State.modLive_pending (s : State) (d : DevNo) (f : DeviceLive → DeviceLive) : (s.modLive d f).pending = s.pending := rfl
@[simp] theorem State.modLive_freeIndex (s : State) (d : DevNo) (f : DeviceLive → DeviceLive) : (s.modLive d f).freeIndex = s.freeIndex := rfl
@[simp] theorem State.modLive_tickPhase (s : State) (d : DevNo) (f : DeviceLive → DeviceLive) : (s.modLive d f).tickPhase = s.tickPhase := rfl
@[simp] theorem State.modLive_frameCount (s : State) (d : DevNo) (f : DeviceLive → DeviceLive) : (s.modLive d f).frameCount = s.frameCount := rfl
@[simp] theorem State.modLive_switches (s : State) (d : DevNo) (f : DeviceLive → DeviceLive) : (s.modLive d f).switches = s.switches := rfl
@[simp] theorem State.modLive_activity (s : State) (d : DevNo) (f : DeviceLive → DeviceLive) : (s.modLive d f).activity = s.activity := rfl
@[simp] theorem State.modLive_slots (s : State) (d : DevNo) (f : DeviceLive → DeviceLive) : (s.modLive d f).slots = s.slots := rfl
@[simp] theorem State.modLive_coils (s : State) (d : DevNo) (f : DeviceLive → DeviceLive) : (s.modLive d f).coils = s.coils := rfl
@[simp] theorem State.modLive_groupA (s : State) (d : DevNo) (f : DeviceLive → DeviceLive) : (s.modLive d f).groupA = s.groupA := rfl
@[simp] theorem State.modLive_groupB (s : State) (d : DevNo) (f : DeviceLive → DeviceLive) : (s.modLive d f).groupB = s.groupB := rfl
@[simp] theorem State.modLive_acct (s : State) (d : DevNo) (f : DeviceLive → DeviceLive) : (s.modLive d f).acct = s.acct := rfl
@[simp] theorem State.modLive_pages (s : State) (d : DevNo) (f : DeviceLive → DeviceLive) : (s.modLive d f).pages = s.pages := rfl
@[simp] theorem State.modLive_decisions (s : State) (d : DevNo) (f : DeviceLive → DeviceLive) : (s.modLive d f).decisions = s.decisions := rfl
@[simp] theorem State.modLive_windows (s : State) (d : DevNo) (f : DeviceLive → DeviceLive) : (s.modLive d f).windows = s.windows := rfl
@[simp] theorem State.modLive_awards (s : State) (d : DevNo) (f : DeviceLive → DeviceLive) : (s.modLive d f).awards = s.awards := rfl
@[simp] theorem State.modLive_awardHits (s : State) (d : DevNo) (f : DeviceLive → DeviceLive) : (s.modLive d f).awardHits = s.awardHits := rfl
@[simp] theorem State.modLive_pfMult (s : State) (d : DevNo) (f : DeviceLive → DeviceLive) : (s.modLive d f).pfMult = s.pfMult := rfl
@[simp] theorem State.modLive_pfTimer (s : State) (d : DevNo) (f : DeviceLive → DeviceLive) : (s.modLive d f).pfTimer = s.pfTimer := rfl
@[simp] theorem State.modLive_pfDue (s : State) (d : DevNo) (f : DeviceLive → DeviceLive) : (s.modLive d f).pfDue = s.pfDue := rfl
@[simp] theorem State.modLive_templates (s : State) (d : DevNo) (f : DeviceLive → DeviceLive) : (s.modLive d f).templates = s.templates := rfl
@[simp] theorem State.modLive_session (s : State) (d : DevNo) (f : DeviceLive → DeviceLive) : (s.modLive d f).session = s.session := rfl
@[simp] theorem State.modLive_notices (s : State) (d : DevNo) (f : DeviceLive → DeviceLive) : (s.modLive d f).notices = s.notices := rfl
@[simp] theorem State.modLive_link (s : State) (d : DevNo) (f : DeviceLive → DeviceLive) : (s.modLive d f).link = s.link := rfl
@[simp] theorem State.modLive_options (s : State) (d : DevNo) (f : DeviceLive → DeviceLive) : (s.modLive d f).options = s.options := rfl

/-! ### modSlot -/

@[simp] theorem State.modSlot_pending (s : State) (n : SlotNo) (f : Slot → Slot) : (s.modSlot n f).pending = s.pending := rfl
@[simp] theorem State.modSlot_freeIndex (s : State) (n : SlotNo) (f : Slot → Slot) : (s.modSlot n f).freeIndex = s.freeIndex := rfl
@[simp] theorem State.modSlot_tickPhase (s : State) (n : SlotNo) (f : Slot → Slot) : (s.modSlot n f).tickPhase = s.tickPhase := rfl
@[simp] theorem State.modSlot_frameCount (s : State) (n : SlotNo) (f : Slot → Slot) : (s.modSlot n f).frameCount = s.frameCount := rfl
@[simp] theorem State.modSlot_switches (s : State) (n : SlotNo) (f : Slot → Slot) : (s.modSlot n f).switches = s.switches := rfl
@[simp] theorem State.modSlot_activity (s : State) (n : SlotNo) (f : Slot → Slot) : (s.modSlot n f).activity = s.activity := rfl
@[simp] theorem State.modSlot_devices (s : State) (n : SlotNo) (f : Slot → Slot) : (s.modSlot n f).devices = s.devices := rfl
@[simp] theorem State.modSlot_coils (s : State) (n : SlotNo) (f : Slot → Slot) : (s.modSlot n f).coils = s.coils := rfl
@[simp] theorem State.modSlot_groupA (s : State) (n : SlotNo) (f : Slot → Slot) : (s.modSlot n f).groupA = s.groupA := rfl
@[simp] theorem State.modSlot_groupB (s : State) (n : SlotNo) (f : Slot → Slot) : (s.modSlot n f).groupB = s.groupB := rfl
@[simp] theorem State.modSlot_acct (s : State) (n : SlotNo) (f : Slot → Slot) : (s.modSlot n f).acct = s.acct := rfl
@[simp] theorem State.modSlot_pages (s : State) (n : SlotNo) (f : Slot → Slot) : (s.modSlot n f).pages = s.pages := rfl
@[simp] theorem State.modSlot_decisions (s : State) (n : SlotNo) (f : Slot → Slot) : (s.modSlot n f).decisions = s.decisions := rfl
@[simp] theorem State.modSlot_windows (s : State) (n : SlotNo) (f : Slot → Slot) : (s.modSlot n f).windows = s.windows := rfl
@[simp] theorem State.modSlot_awards (s : State) (n : SlotNo) (f : Slot → Slot) : (s.modSlot n f).awards = s.awards := rfl
@[simp] theorem State.modSlot_awardHits (s : State) (n : SlotNo) (f : Slot → Slot) : (s.modSlot n f).awardHits = s.awardHits := rfl
@[simp] theorem State.modSlot_pfMult (s : State) (n : SlotNo) (f : Slot → Slot) : (s.modSlot n f).pfMult = s.pfMult := rfl
@[simp] theorem State.modSlot_pfTimer (s : State) (n : SlotNo) (f : Slot → Slot) : (s.modSlot n f).pfTimer = s.pfTimer := rfl
@[simp] theorem State.modSlot_pfDue (s : State) (n : SlotNo) (f : Slot → Slot) : (s.modSlot n f).pfDue = s.pfDue := rfl
@[simp] theorem State.modSlot_templates (s : State) (n : SlotNo) (f : Slot → Slot) : (s.modSlot n f).templates = s.templates := rfl
@[simp] theorem State.modSlot_session (s : State) (n : SlotNo) (f : Slot → Slot) : (s.modSlot n f).session = s.session := rfl
@[simp] theorem State.modSlot_notices (s : State) (n : SlotNo) (f : Slot → Slot) : (s.modSlot n f).notices = s.notices := rfl
@[simp] theorem State.modSlot_link (s : State) (n : SlotNo) (f : Slot → Slot) : (s.modSlot n f).link = s.link := rfl
@[simp] theorem State.modSlot_options (s : State) (n : SlotNo) (f : Slot → Slot) : (s.modSlot n f).options = s.options := rfl

/-! ### modCoil -/

@[simp] theorem State.modCoil_pending (s : State) (c : CoilNo) (f : Coil → Coil) : (s.modCoil c f).pending = s.pending := rfl
@[simp] theorem State.modCoil_freeIndex (s : State) (c : CoilNo) (f : Coil → Coil) : (s.modCoil c f).freeIndex = s.freeIndex := rfl
@[simp] theorem State.modCoil_tickPhase (s : State) (c : CoilNo) (f : Coil → Coil) : (s.modCoil c f).tickPhase = s.tickPhase := rfl
@[simp] theorem State.modCoil_frameCount (s : State) (c : CoilNo) (f : Coil → Coil) : (s.modCoil c f).frameCount = s.frameCount := rfl
@[simp] theorem State.modCoil_switches (s : State) (c : CoilNo) (f : Coil → Coil) : (s.modCoil c f).switches = s.switches := rfl
@[simp] theorem State.modCoil_activity (s : State) (c : CoilNo) (f : Coil → Coil) : (s.modCoil c f).activity = s.activity := rfl
@[simp] theorem State.modCoil_devices (s : State) (c : CoilNo) (f : Coil → Coil) : (s.modCoil c f).devices = s.devices := rfl
@[simp] theorem State.modCoil_slots (s : State) (c : CoilNo) (f : Coil → Coil) : (s.modCoil c f).slots = s.slots := rfl
@[simp] theorem State.modCoil_groupA (s : State) (c : CoilNo) (f : Coil → Coil) : (s.modCoil c f).groupA = s.groupA := rfl
@[simp] theorem State.modCoil_groupB (s : State) (c : CoilNo) (f : Coil → Coil) : (s.modCoil c f).groupB = s.groupB := rfl
@[simp] theorem State.modCoil_acct (s : State) (c : CoilNo) (f : Coil → Coil) : (s.modCoil c f).acct = s.acct := rfl
@[simp] theorem State.modCoil_pages (s : State) (c : CoilNo) (f : Coil → Coil) : (s.modCoil c f).pages = s.pages := rfl
@[simp] theorem State.modCoil_decisions (s : State) (c : CoilNo) (f : Coil → Coil) : (s.modCoil c f).decisions = s.decisions := rfl
@[simp] theorem State.modCoil_windows (s : State) (c : CoilNo) (f : Coil → Coil) : (s.modCoil c f).windows = s.windows := rfl
@[simp] theorem State.modCoil_awards (s : State) (c : CoilNo) (f : Coil → Coil) : (s.modCoil c f).awards = s.awards := rfl
@[simp] theorem State.modCoil_awardHits (s : State) (c : CoilNo) (f : Coil → Coil) : (s.modCoil c f).awardHits = s.awardHits := rfl
@[simp] theorem State.modCoil_pfMult (s : State) (c : CoilNo) (f : Coil → Coil) : (s.modCoil c f).pfMult = s.pfMult := rfl
@[simp] theorem State.modCoil_pfTimer (s : State) (c : CoilNo) (f : Coil → Coil) : (s.modCoil c f).pfTimer = s.pfTimer := rfl
@[simp] theorem State.modCoil_pfDue (s : State) (c : CoilNo) (f : Coil → Coil) : (s.modCoil c f).pfDue = s.pfDue := rfl
@[simp] theorem State.modCoil_templates (s : State) (c : CoilNo) (f : Coil → Coil) : (s.modCoil c f).templates = s.templates := rfl
@[simp] theorem State.modCoil_session (s : State) (c : CoilNo) (f : Coil → Coil) : (s.modCoil c f).session = s.session := rfl
@[simp] theorem State.modCoil_notices (s : State) (c : CoilNo) (f : Coil → Coil) : (s.modCoil c f).notices = s.notices := rfl
@[simp] theorem State.modCoil_link (s : State) (c : CoilNo) (f : Coil → Coil) : (s.modCoil c f).link = s.link := rfl
@[simp] theorem State.modCoil_options (s : State) (c : CoilNo) (f : Coil → Coil) : (s.modCoil c f).options = s.options := rfl

/-! ### modCoilLive -/

@[simp] theorem State.modCoilLive_pending (s : State) (c : CoilNo) (f : CoilLive → CoilLive) : (s.modCoilLive c f).pending = s.pending := rfl
@[simp] theorem State.modCoilLive_freeIndex (s : State) (c : CoilNo) (f : CoilLive → CoilLive) : (s.modCoilLive c f).freeIndex = s.freeIndex := rfl
@[simp] theorem State.modCoilLive_tickPhase (s : State) (c : CoilNo) (f : CoilLive → CoilLive) : (s.modCoilLive c f).tickPhase = s.tickPhase := rfl
@[simp] theorem State.modCoilLive_frameCount (s : State) (c : CoilNo) (f : CoilLive → CoilLive) : (s.modCoilLive c f).frameCount = s.frameCount := rfl
@[simp] theorem State.modCoilLive_switches (s : State) (c : CoilNo) (f : CoilLive → CoilLive) : (s.modCoilLive c f).switches = s.switches := rfl
@[simp] theorem State.modCoilLive_activity (s : State) (c : CoilNo) (f : CoilLive → CoilLive) : (s.modCoilLive c f).activity = s.activity := rfl
@[simp] theorem State.modCoilLive_devices (s : State) (c : CoilNo) (f : CoilLive → CoilLive) : (s.modCoilLive c f).devices = s.devices := rfl
@[simp] theorem State.modCoilLive_slots (s : State) (c : CoilNo) (f : CoilLive → CoilLive) : (s.modCoilLive c f).slots = s.slots := rfl
@[simp] theorem State.modCoilLive_groupA (s : State) (c : CoilNo) (f : CoilLive → CoilLive) : (s.modCoilLive c f).groupA = s.groupA := rfl
@[simp] theorem State.modCoilLive_groupB (s : State) (c : CoilNo) (f : CoilLive → CoilLive) : (s.modCoilLive c f).groupB = s.groupB := rfl
@[simp] theorem State.modCoilLive_acct (s : State) (c : CoilNo) (f : CoilLive → CoilLive) : (s.modCoilLive c f).acct = s.acct := rfl
@[simp] theorem State.modCoilLive_pages (s : State) (c : CoilNo) (f : CoilLive → CoilLive) : (s.modCoilLive c f).pages = s.pages := rfl
@[simp] theorem State.modCoilLive_decisions (s : State) (c : CoilNo) (f : CoilLive → CoilLive) : (s.modCoilLive c f).decisions = s.decisions := rfl
@[simp] theorem State.modCoilLive_windows (s : State) (c : CoilNo) (f : CoilLive → CoilLive) : (s.modCoilLive c f).windows = s.windows := rfl
@[simp] theorem State.modCoilLive_awards (s : State) (c : CoilNo) (f : CoilLive → CoilLive) : (s.modCoilLive c f).awards = s.awards := rfl
@[simp] theorem State.modCoilLive_awardHits (s : State) (c : CoilNo) (f : CoilLive → CoilLive) : (s.modCoilLive c f).awardHits = s.awardHits := rfl
@[simp] theorem State.modCoilLive_pfMult (s : State) (c : CoilNo) (f : CoilLive → CoilLive) : (s.modCoilLive c f).pfMult = s.pfMult := rfl
@[simp] theorem State.modCoilLive_pfTimer (s : State) (c : CoilNo) (f : CoilLive → CoilLive) : (s.modCoilLive c f).pfTimer = s.pfTimer := rfl
@[simp] theorem State.modCoilLive_pfDue (s : State) (c : CoilNo) (f : CoilLive → CoilLive) : (s.modCoilLive c f).pfDue = s.pfDue := rfl
@[simp] theorem State.modCoilLive_templates (s : State) (c : CoilNo) (f : CoilLive → CoilLive) : (s.modCoilLive c f).templates = s.templates := rfl
@[simp] theorem State.modCoilLive_session (s : State) (c : CoilNo) (f : CoilLive → CoilLive) : (s.modCoilLive c f).session = s.session := rfl
@[simp] theorem State.modCoilLive_notices (s : State) (c : CoilNo) (f : CoilLive → CoilLive) : (s.modCoilLive c f).notices = s.notices := rfl
@[simp] theorem State.modCoilLive_link (s : State) (c : CoilNo) (f : CoilLive → CoilLive) : (s.modCoilLive c f).link = s.link := rfl
@[simp] theorem State.modCoilLive_options (s : State) (c : CoilNo) (f : CoilLive → CoilLive) : (s.modCoilLive c f).options = s.options := rfl

/-! ### modPage -/

@[simp] theorem State.modPage_pending (s : State) (p : PlayerNo) (f : Page → Page) : (s.modPage p f).pending = s.pending := rfl
@[simp] theorem State.modPage_freeIndex (s : State) (p : PlayerNo) (f : Page → Page) : (s.modPage p f).freeIndex = s.freeIndex := rfl
@[simp] theorem State.modPage_tickPhase (s : State) (p : PlayerNo) (f : Page → Page) : (s.modPage p f).tickPhase = s.tickPhase := rfl
@[simp] theorem State.modPage_frameCount (s : State) (p : PlayerNo) (f : Page → Page) : (s.modPage p f).frameCount = s.frameCount := rfl
@[simp] theorem State.modPage_switches (s : State) (p : PlayerNo) (f : Page → Page) : (s.modPage p f).switches = s.switches := rfl
@[simp] theorem State.modPage_activity (s : State) (p : PlayerNo) (f : Page → Page) : (s.modPage p f).activity = s.activity := rfl
@[simp] theorem State.modPage_devices (s : State) (p : PlayerNo) (f : Page → Page) : (s.modPage p f).devices = s.devices := rfl
@[simp] theorem State.modPage_slots (s : State) (p : PlayerNo) (f : Page → Page) : (s.modPage p f).slots = s.slots := rfl
@[simp] theorem State.modPage_coils (s : State) (p : PlayerNo) (f : Page → Page) : (s.modPage p f).coils = s.coils := rfl
@[simp] theorem State.modPage_groupA (s : State) (p : PlayerNo) (f : Page → Page) : (s.modPage p f).groupA = s.groupA := rfl
@[simp] theorem State.modPage_groupB (s : State) (p : PlayerNo) (f : Page → Page) : (s.modPage p f).groupB = s.groupB := rfl
@[simp] theorem State.modPage_acct (s : State) (p : PlayerNo) (f : Page → Page) : (s.modPage p f).acct = s.acct := rfl
@[simp] theorem State.modPage_decisions (s : State) (p : PlayerNo) (f : Page → Page) : (s.modPage p f).decisions = s.decisions := rfl
@[simp] theorem State.modPage_windows (s : State) (p : PlayerNo) (f : Page → Page) : (s.modPage p f).windows = s.windows := rfl
@[simp] theorem State.modPage_awards (s : State) (p : PlayerNo) (f : Page → Page) : (s.modPage p f).awards = s.awards := rfl
@[simp] theorem State.modPage_awardHits (s : State) (p : PlayerNo) (f : Page → Page) : (s.modPage p f).awardHits = s.awardHits := rfl
@[simp] theorem State.modPage_pfMult (s : State) (p : PlayerNo) (f : Page → Page) : (s.modPage p f).pfMult = s.pfMult := rfl
@[simp] theorem State.modPage_pfTimer (s : State) (p : PlayerNo) (f : Page → Page) : (s.modPage p f).pfTimer = s.pfTimer := rfl
@[simp] theorem State.modPage_pfDue (s : State) (p : PlayerNo) (f : Page → Page) : (s.modPage p f).pfDue = s.pfDue := rfl
@[simp] theorem State.modPage_templates (s : State) (p : PlayerNo) (f : Page → Page) : (s.modPage p f).templates = s.templates := rfl
@[simp] theorem State.modPage_session (s : State) (p : PlayerNo) (f : Page → Page) : (s.modPage p f).session = s.session := rfl
@[simp] theorem State.modPage_notices (s : State) (p : PlayerNo) (f : Page → Page) : (s.modPage p f).notices = s.notices := rfl
@[simp] theorem State.modPage_link (s : State) (p : PlayerNo) (f : Page → Page) : (s.modPage p f).link = s.link := rfl
@[simp] theorem State.modPage_options (s : State) (p : PlayerNo) (f : Page → Page) : (s.modPage p f).options = s.options := rfl

/-! ### modAcct -/

@[simp] theorem State.modAcct_pending (s : State) (f : Accounting → Accounting) : (s.modAcct f).pending = s.pending := rfl
@[simp] theorem State.modAcct_freeIndex (s : State) (f : Accounting → Accounting) : (s.modAcct f).freeIndex = s.freeIndex := rfl
@[simp] theorem State.modAcct_tickPhase (s : State) (f : Accounting → Accounting) : (s.modAcct f).tickPhase = s.tickPhase := rfl
@[simp] theorem State.modAcct_frameCount (s : State) (f : Accounting → Accounting) : (s.modAcct f).frameCount = s.frameCount := rfl
@[simp] theorem State.modAcct_switches (s : State) (f : Accounting → Accounting) : (s.modAcct f).switches = s.switches := rfl
@[simp] theorem State.modAcct_activity (s : State) (f : Accounting → Accounting) : (s.modAcct f).activity = s.activity := rfl
@[simp] theorem State.modAcct_devices (s : State) (f : Accounting → Accounting) : (s.modAcct f).devices = s.devices := rfl
@[simp] theorem State.modAcct_slots (s : State) (f : Accounting → Accounting) : (s.modAcct f).slots = s.slots := rfl
@[simp] theorem State.modAcct_coils (s : State) (f : Accounting → Accounting) : (s.modAcct f).coils = s.coils := rfl
@[simp] theorem State.modAcct_groupA (s : State) (f : Accounting → Accounting) : (s.modAcct f).groupA = s.groupA := rfl
@[simp] theorem State.modAcct_groupB (s : State) (f : Accounting → Accounting) : (s.modAcct f).groupB = s.groupB := rfl
@[simp] theorem State.modAcct_pages (s : State) (f : Accounting → Accounting) : (s.modAcct f).pages = s.pages := rfl
@[simp] theorem State.modAcct_decisions (s : State) (f : Accounting → Accounting) : (s.modAcct f).decisions = s.decisions := rfl
@[simp] theorem State.modAcct_windows (s : State) (f : Accounting → Accounting) : (s.modAcct f).windows = s.windows := rfl
@[simp] theorem State.modAcct_awards (s : State) (f : Accounting → Accounting) : (s.modAcct f).awards = s.awards := rfl
@[simp] theorem State.modAcct_awardHits (s : State) (f : Accounting → Accounting) : (s.modAcct f).awardHits = s.awardHits := rfl
@[simp] theorem State.modAcct_pfMult (s : State) (f : Accounting → Accounting) : (s.modAcct f).pfMult = s.pfMult := rfl
@[simp] theorem State.modAcct_pfTimer (s : State) (f : Accounting → Accounting) : (s.modAcct f).pfTimer = s.pfTimer := rfl
@[simp] theorem State.modAcct_pfDue (s : State) (f : Accounting → Accounting) : (s.modAcct f).pfDue = s.pfDue := rfl
@[simp] theorem State.modAcct_templates (s : State) (f : Accounting → Accounting) : (s.modAcct f).templates = s.templates := rfl
@[simp] theorem State.modAcct_session (s : State) (f : Accounting → Accounting) : (s.modAcct f).session = s.session := rfl
@[simp] theorem State.modAcct_notices (s : State) (f : Accounting → Accounting) : (s.modAcct f).notices = s.notices := rfl
@[simp] theorem State.modAcct_link (s : State) (f : Accounting → Accounting) : (s.modAcct f).link = s.link := rfl
@[simp] theorem State.modAcct_options (s : State) (f : Accounting → Accounting) : (s.modAcct f).options = s.options := rfl

/-! ### modSession -/

@[simp] theorem State.modSession_pending (s : State) (f : Session → Session) : (s.modSession f).pending = s.pending := rfl
@[simp] theorem State.modSession_freeIndex (s : State) (f : Session → Session) : (s.modSession f).freeIndex = s.freeIndex := rfl
@[simp] theorem State.modSession_tickPhase (s : State) (f : Session → Session) : (s.modSession f).tickPhase = s.tickPhase := rfl
@[simp] theorem State.modSession_frameCount (s : State) (f : Session → Session) : (s.modSession f).frameCount = s.frameCount := rfl
@[simp] theorem State.modSession_switches (s : State) (f : Session → Session) : (s.modSession f).switches = s.switches := rfl
@[simp] theorem State.modSession_activity (s : State) (f : Session → Session) : (s.modSession f).activity = s.activity := rfl
@[simp] theorem State.modSession_devices (s : State) (f : Session → Session) : (s.modSession f).devices = s.devices := rfl
@[simp] theorem State.modSession_slots (s : State) (f : Session → Session) : (s.modSession f).slots = s.slots := rfl
@[simp] theorem State.modSession_coils (s : State) (f : Session → Session) : (s.modSession f).coils = s.coils := rfl
@[simp] theorem State.modSession_groupA (s : State) (f : Session → Session) : (s.modSession f).groupA = s.groupA := rfl
@[simp] theorem State.modSession_groupB (s : State) (f : Session → Session) : (s.modSession f).groupB = s.groupB := rfl
@[simp] theorem State.modSession_acct (s : State) (f : Session → Session) : (s.modSession f).acct = s.acct := rfl
@[simp] theorem State.modSession_pages (s : State) (f : Session → Session) : (s.modSession f).pages = s.pages := rfl
@[simp] theorem State.modSession_decisions (s : State) (f : Session → Session) : (s.modSession f).decisions = s.decisions := rfl
@[simp] theorem State.modSession_windows (s : State) (f : Session → Session) : (s.modSession f).windows = s.windows := rfl
@[simp] theorem State.modSession_awards (s : State) (f : Session → Session) : (s.modSession f).awards = s.awards := rfl
@[simp] theorem State.modSession_awardHits (s : State) (f : Session → Session) : (s.modSession f).awardHits = s.awardHits := rfl
@[simp] theorem State.modSession_pfMult (s : State) (f : Session → Session) : (s.modSession f).pfMult = s.pfMult := rfl
@[simp] theorem State.modSession_pfTimer (s : State) (f : Session → Session) : (s.modSession f).pfTimer = s.pfTimer := rfl
@[simp] theorem State.modSession_pfDue (s : State) (f : Session → Session) : (s.modSession f).pfDue = s.pfDue := rfl
@[simp] theorem State.modSession_templates (s : State) (f : Session → Session) : (s.modSession f).templates = s.templates := rfl
@[simp] theorem State.modSession_notices (s : State) (f : Session → Session) : (s.modSession f).notices = s.notices := rfl
@[simp] theorem State.modSession_link (s : State) (f : Session → Session) : (s.modSession f).link = s.link := rfl
@[simp] theorem State.modSession_options (s : State) (f : Session → Session) : (s.modSession f).options = s.options := rfl

/-! ### modLink -/

@[simp] theorem State.modLink_pending (s : State) (f : Link → Link) : (s.modLink f).pending = s.pending := rfl
@[simp] theorem State.modLink_freeIndex (s : State) (f : Link → Link) : (s.modLink f).freeIndex = s.freeIndex := rfl
@[simp] theorem State.modLink_tickPhase (s : State) (f : Link → Link) : (s.modLink f).tickPhase = s.tickPhase := rfl
@[simp] theorem State.modLink_frameCount (s : State) (f : Link → Link) : (s.modLink f).frameCount = s.frameCount := rfl
@[simp] theorem State.modLink_switches (s : State) (f : Link → Link) : (s.modLink f).switches = s.switches := rfl
@[simp] theorem State.modLink_activity (s : State) (f : Link → Link) : (s.modLink f).activity = s.activity := rfl
@[simp] theorem State.modLink_devices (s : State) (f : Link → Link) : (s.modLink f).devices = s.devices := rfl
@[simp] theorem State.modLink_slots (s : State) (f : Link → Link) : (s.modLink f).slots = s.slots := rfl
@[simp] theorem State.modLink_coils (s : State) (f : Link → Link) : (s.modLink f).coils = s.coils := rfl
@[simp] theorem State.modLink_groupA (s : State) (f : Link → Link) : (s.modLink f).groupA = s.groupA := rfl
@[simp] theorem State.modLink_groupB (s : State) (f : Link → Link) : (s.modLink f).groupB = s.groupB := rfl
@[simp] theorem State.modLink_acct (s : State) (f : Link → Link) : (s.modLink f).acct = s.acct := rfl
@[simp] theorem State.modLink_pages (s : State) (f : Link → Link) : (s.modLink f).pages = s.pages := rfl
@[simp] theorem State.modLink_decisions (s : State) (f : Link → Link) : (s.modLink f).decisions = s.decisions := rfl
@[simp] theorem State.modLink_windows (s : State) (f : Link → Link) : (s.modLink f).windows = s.windows := rfl
@[simp] theorem State.modLink_awards (s : State) (f : Link → Link) : (s.modLink f).awards = s.awards := rfl
@[simp] theorem State.modLink_awardHits (s : State) (f : Link → Link) : (s.modLink f).awardHits = s.awardHits := rfl
@[simp] theorem State.modLink_pfMult (s : State) (f : Link → Link) : (s.modLink f).pfMult = s.pfMult := rfl
@[simp] theorem State.modLink_pfTimer (s : State) (f : Link → Link) : (s.modLink f).pfTimer = s.pfTimer := rfl
@[simp] theorem State.modLink_pfDue (s : State) (f : Link → Link) : (s.modLink f).pfDue = s.pfDue := rfl
@[simp] theorem State.modLink_templates (s : State) (f : Link → Link) : (s.modLink f).templates = s.templates := rfl
@[simp] theorem State.modLink_session (s : State) (f : Link → Link) : (s.modLink f).session = s.session := rfl
@[simp] theorem State.modLink_notices (s : State) (f : Link → Link) : (s.modLink f).notices = s.notices := rfl
@[simp] theorem State.modLink_options (s : State) (f : Link → Link) : (s.modLink f).options = s.options := rfl

/-! ### raise -/

@[simp] theorem State.raise_pending (s : State) (k : Notice) : (s.raise k).pending = s.pending := rfl
@[simp] theorem State.raise_freeIndex (s : State) (k : Notice) : (s.raise k).freeIndex = s.freeIndex := rfl
@[simp] theorem State.raise_tickPhase (s : State) (k : Notice) : (s.raise k).tickPhase = s.tickPhase := rfl
@[simp] theorem State.raise_frameCount (s : State) (k : Notice) : (s.raise k).frameCount = s.frameCount := rfl
@[simp] theorem State.raise_switches (s : State) (k : Notice) : (s.raise k).switches = s.switches := rfl
@[simp] theorem State.raise_activity (s : State) (k : Notice) : (s.raise k).activity = s.activity := rfl
@[simp] theorem State.raise_devices (s : State) (k : Notice) : (s.raise k).devices = s.devices := rfl
@[simp] theorem State.raise_slots (s : State) (k : Notice) : (s.raise k).slots = s.slots := rfl
@[simp] theorem State.raise_coils (s : State) (k : Notice) : (s.raise k).coils = s.coils := rfl
@[simp] theorem State.raise_groupA (s : State) (k : Notice) : (s.raise k).groupA = s.groupA := rfl
@[simp] theorem State.raise_groupB (s : State) (k : Notice) : (s.raise k).groupB = s.groupB := rfl
@[simp] theorem State.raise_acct (s : State) (k : Notice) : (s.raise k).acct = s.acct := rfl
@[simp] theorem State.raise_pages (s : State) (k : Notice) : (s.raise k).pages = s.pages := rfl
@[simp] theorem State.raise_decisions (s : State) (k : Notice) : (s.raise k).decisions = s.decisions := rfl
@[simp] theorem State.raise_windows (s : State) (k : Notice) : (s.raise k).windows = s.windows := rfl
@[simp] theorem State.raise_awards (s : State) (k : Notice) : (s.raise k).awards = s.awards := rfl
@[simp] theorem State.raise_awardHits (s : State) (k : Notice) : (s.raise k).awardHits = s.awardHits := rfl
@[simp] theorem State.raise_pfMult (s : State) (k : Notice) : (s.raise k).pfMult = s.pfMult := rfl
@[simp] theorem State.raise_pfTimer (s : State) (k : Notice) : (s.raise k).pfTimer = s.pfTimer := rfl
@[simp] theorem State.raise_pfDue (s : State) (k : Notice) : (s.raise k).pfDue = s.pfDue := rfl
@[simp] theorem State.raise_templates (s : State) (k : Notice) : (s.raise k).templates = s.templates := rfl
@[simp] theorem State.raise_session (s : State) (k : Notice) : (s.raise k).session = s.session := rfl
@[simp] theorem State.raise_link (s : State) (k : Notice) : (s.raise k).link = s.link := rfl
@[simp] theorem State.raise_options (s : State) (k : Notice) : (s.raise k).options = s.options := rfl

/-! ### raiseIf and modGroup -/

@[simp] theorem State.raiseIf_pending (s : State) (c : Bool) (k : Notice) : (s.raiseIf c k).pending = s.pending := by
  cases c <;> rfl
@[simp] theorem State.raiseIf_freeIndex (s : State) (c : Bool) (k : Notice) : (s.raiseIf c k).freeIndex = s.freeIndex := by
  cases c <;> rfl
@[simp] theorem State.raiseIf_tickPhase (s : State) (c : Bool) (k : Notice) : (s.raiseIf c k).tickPhase = s.tickPhase := by
  cases c <;> rfl
@[simp] theorem State.raiseIf_frameCount (s : State) (c : Bool) (k : Notice) : (s.raiseIf c k).frameCount = s.frameCount := by
  cases c <;> rfl
@[simp] theorem State.raiseIf_switches (s : State) (c : Bool) (k : Notice) : (s.raiseIf c k).switches = s.switches := by
  cases c <;> rfl
@[simp] theorem State.raiseIf_activity (s : State) (c : Bool) (k : Notice) : (s.raiseIf c k).activity = s.activity := by
  cases c <;> rfl
@[simp] theorem State.raiseIf_devices (s : State) (c : Bool) (k : Notice) : (s.raiseIf c k).devices = s.devices := by
  cases c <;> rfl
@[simp] theorem State.raiseIf_slots (s : State) (c : Bool) (k : Notice) : (s.raiseIf c k).slots = s.slots := by
  cases c <;> rfl
@[simp] theorem State.raiseIf_coils (s : State) (c : Bool) (k : Notice) : (s.raiseIf c k).coils = s.coils := by
  cases c <;> rfl
@[simp] theorem State.raiseIf_groupA (s : State) (c : Bool) (k : Notice) : (s.raiseIf c k).groupA = s.groupA := by
  cases c <;> rfl
@[simp] theorem State.raiseIf_groupB (s : State) (c : Bool) (k : Notice) : (s.raiseIf c k).groupB = s.groupB := by
  cases c <;> rfl
@[simp] theorem State.raiseIf_acct (s : State) (c : Bool) (k : Notice) : (s.raiseIf c k).acct = s.acct := by
  cases c <;> rfl
@[simp] theorem State.raiseIf_pages (s : State) (c : Bool) (k : Notice) : (s.raiseIf c k).pages = s.pages := by
  cases c <;> rfl
@[simp] theorem State.raiseIf_decisions (s : State) (c : Bool) (k : Notice) : (s.raiseIf c k).decisions = s.decisions := by
  cases c <;> rfl
@[simp] theorem State.raiseIf_windows (s : State) (c : Bool) (k : Notice) : (s.raiseIf c k).windows = s.windows := by
  cases c <;> rfl
@[simp] theorem State.raiseIf_awards (s : State) (c : Bool) (k : Notice) : (s.raiseIf c k).awards = s.awards := by
  cases c <;> rfl
@[simp] theorem State.raiseIf_awardHits (s : State) (c : Bool) (k : Notice) : (s.raiseIf c k).awardHits = s.awardHits := by
  cases c <;> rfl
@[simp] theorem State.raiseIf_pfMult (s : State) (c : Bool) (k : Notice) : (s.raiseIf c k).pfMult = s.pfMult := by
  cases c <;> rfl
@[simp] theorem State.raiseIf_pfTimer (s : State) (c : Bool) (k : Notice) : (s.raiseIf c k).pfTimer = s.pfTimer := by
  cases c <;> rfl
@[simp] theorem State.raiseIf_pfDue (s : State) (c : Bool) (k : Notice) : (s.raiseIf c k).pfDue = s.pfDue := by
  cases c <;> rfl
@[simp] theorem State.raiseIf_templates (s : State) (c : Bool) (k : Notice) : (s.raiseIf c k).templates = s.templates := by
  cases c <;> rfl
@[simp] theorem State.raiseIf_session (s : State) (c : Bool) (k : Notice) : (s.raiseIf c k).session = s.session := by
  cases c <;> rfl
@[simp] theorem State.raiseIf_link (s : State) (c : Bool) (k : Notice) : (s.raiseIf c k).link = s.link := by
  cases c <;> rfl
@[simp] theorem State.raiseIf_options (s : State) (c : Bool) (k : Notice) : (s.raiseIf c k).options = s.options := by
  cases c <;> rfl

@[simp] theorem State.modGroup_pending (s : State) (g : Group) (f : GroupRec → GroupRec) : (s.modGroup g f).pending = s.pending := by
  cases g <;> rfl
@[simp] theorem State.modGroup_freeIndex (s : State) (g : Group) (f : GroupRec → GroupRec) : (s.modGroup g f).freeIndex = s.freeIndex := by
  cases g <;> rfl
@[simp] theorem State.modGroup_tickPhase (s : State) (g : Group) (f : GroupRec → GroupRec) : (s.modGroup g f).tickPhase = s.tickPhase := by
  cases g <;> rfl
@[simp] theorem State.modGroup_frameCount (s : State) (g : Group) (f : GroupRec → GroupRec) : (s.modGroup g f).frameCount = s.frameCount := by
  cases g <;> rfl
@[simp] theorem State.modGroup_switches (s : State) (g : Group) (f : GroupRec → GroupRec) : (s.modGroup g f).switches = s.switches := by
  cases g <;> rfl
@[simp] theorem State.modGroup_activity (s : State) (g : Group) (f : GroupRec → GroupRec) : (s.modGroup g f).activity = s.activity := by
  cases g <;> rfl
@[simp] theorem State.modGroup_devices (s : State) (g : Group) (f : GroupRec → GroupRec) : (s.modGroup g f).devices = s.devices := by
  cases g <;> rfl
@[simp] theorem State.modGroup_slots (s : State) (g : Group) (f : GroupRec → GroupRec) : (s.modGroup g f).slots = s.slots := by
  cases g <;> rfl
@[simp] theorem State.modGroup_coils (s : State) (g : Group) (f : GroupRec → GroupRec) : (s.modGroup g f).coils = s.coils := by
  cases g <;> rfl
@[simp] theorem State.modGroup_acct (s : State) (g : Group) (f : GroupRec → GroupRec) : (s.modGroup g f).acct = s.acct := by
  cases g <;> rfl
@[simp] theorem State.modGroup_pages (s : State) (g : Group) (f : GroupRec → GroupRec) : (s.modGroup g f).pages = s.pages := by
  cases g <;> rfl
@[simp] theorem State.modGroup_decisions (s : State) (g : Group) (f : GroupRec → GroupRec) : (s.modGroup g f).decisions = s.decisions := by
  cases g <;> rfl
@[simp] theorem State.modGroup_windows (s : State) (g : Group) (f : GroupRec → GroupRec) : (s.modGroup g f).windows = s.windows := by
  cases g <;> rfl
@[simp] theorem State.modGroup_awards (s : State) (g : Group) (f : GroupRec → GroupRec) : (s.modGroup g f).awards = s.awards := by
  cases g <;> rfl
@[simp] theorem State.modGroup_awardHits (s : State) (g : Group) (f : GroupRec → GroupRec) : (s.modGroup g f).awardHits = s.awardHits := by
  cases g <;> rfl
@[simp] theorem State.modGroup_pfMult (s : State) (g : Group) (f : GroupRec → GroupRec) : (s.modGroup g f).pfMult = s.pfMult := by
  cases g <;> rfl
@[simp] theorem State.modGroup_pfTimer (s : State) (g : Group) (f : GroupRec → GroupRec) : (s.modGroup g f).pfTimer = s.pfTimer := by
  cases g <;> rfl
@[simp] theorem State.modGroup_pfDue (s : State) (g : Group) (f : GroupRec → GroupRec) : (s.modGroup g f).pfDue = s.pfDue := by
  cases g <;> rfl
@[simp] theorem State.modGroup_templates (s : State) (g : Group) (f : GroupRec → GroupRec) : (s.modGroup g f).templates = s.templates := by
  cases g <;> rfl
@[simp] theorem State.modGroup_session (s : State) (g : Group) (f : GroupRec → GroupRec) : (s.modGroup g f).session = s.session := by
  cases g <;> rfl
@[simp] theorem State.modGroup_notices (s : State) (g : Group) (f : GroupRec → GroupRec) : (s.modGroup g f).notices = s.notices := by
  cases g <;> rfl
@[simp] theorem State.modGroup_link (s : State) (g : Group) (f : GroupRec → GroupRec) : (s.modGroup g f).link = s.link := by
  cases g <;> rfl
@[simp] theorem State.modGroup_options (s : State) (g : Group) (f : GroupRec → GroupRec) : (s.modGroup g f).options = s.options := by
  cases g <;> rfl

/-! ### Reading what was written -/

@[simp] theorem State.modAcct_acct (s : State) (f : Accounting → Accounting) : (s.modAcct f).acct = f s.acct := rfl
@[simp] theorem State.modSession_session (s : State) (f : Session → Session) : (s.modSession f).session = f s.session := rfl
@[simp] theorem State.modLink_link (s : State) (f : Link → Link) : (s.modLink f).link = f s.link := rfl
@[simp] theorem State.modGroup_self (s : State) (g : Group) (f : GroupRec → GroupRec) :
    (s.modGroup g f).group g = f (s.group g) := by cases g <;> rfl

theorem State.modDevice_get (s : State) (d e : DevNo) (f : Device → Device) :
    (s.modDevice d f).devices[e] = if e = d then f s.devices[d] else s.devices[e] := by
  by_cases h : e = d
  · subst h; simp [State.modDevice]
  · simp [State.modDevice, h, Fin.val_inj, Ne.symm h]

theorem State.modLive_get (s : State) (d e : DevNo) (f : DeviceLive → DeviceLive) :
    (s.modLive d f).devices[e] =
      if e = d then { s.devices[d] with live := f s.devices[d].live } else s.devices[e] :=
  State.modDevice_get s d e _

@[simp] theorem State.modLive_cfg (s : State) (d e : DevNo) (f : DeviceLive → DeviceLive) :
    (s.modLive d f).devices[e].cfg = s.devices[e].cfg := by
  rw [State.modLive_get]; split
  · next h => subst h; rfl
  · rfl

theorem State.modSlot_get (s : State) (m n : SlotNo) (f : Slot → Slot) :
    (s.modSlot m f).slots[n] = if n = m then f s.slots[m] else s.slots[n] := by
  by_cases h : n = m
  · subst h; simp [State.modSlot]
  · simp [State.modSlot, h, Fin.val_inj, Ne.symm h]

theorem State.modCoil_get (s : State) (c e : CoilNo) (f : Coil → Coil) :
    (s.modCoil c f).coils[e] = if e = c then f s.coils[c] else s.coils[e] := by
  by_cases h : e = c
  · subst h; simp [State.modCoil]
  · simp [State.modCoil, h, Fin.val_inj, Ne.symm h]

theorem State.modCoilLive_get (s : State) (c e : CoilNo) (f : CoilLive → CoilLive) :
    (s.modCoilLive c f).coils[e] =
      if e = c then { s.coils[c] with live := f s.coils[c].live } else s.coils[e] :=
  State.modCoil_get s c e _

@[simp] theorem State.modCoilLive_cfg (s : State) (c e : CoilNo) (f : CoilLive → CoilLive) :
    (s.modCoilLive c f).coils[e].cfg = s.coils[e].cfg := by
  rw [State.modCoilLive_get]; split
  · next h => subst h; rfl
  · rfl

theorem State.modPage_get (s : State) (p q : PlayerNo) (f : Page → Page) :
    (s.modPage p f).pages[q] = if q = p then f s.pages[p] else s.pages[q] := by
  by_cases h : q = p
  · subst h; simp [State.modPage]
  · simp [State.modPage, h, Fin.val_inj, Ne.symm h]

end Sys2Proof.Machine
end

