-- ==== Sys2Proof/Laws/Operations.lean ====
section
/-! SUPPORT. What each shared operation can do, said once, so that no later proof unfolds it: requests and frames,
notices, owed ejects, coil requests, slots, score additions, pushes and phases. -/

namespace Sys2Proof.Machine

/-! ### Notices -/

/-- The pending flags after a raise (R181). -/
theorem isPending_raise (s : State) (k j : Notice) :
    (s.raise k).isPending j = (s.isPending j || decide (j = k)) := by
  simp only [State.isPending, State.raise, BitVec.getLsbD_or]
  cases k <;> cases j <;> rfl

theorem isPending_raiseIf (s : State) (c : Bool) (k j : Notice) :
    (s.raiseIf c k).isPending j = (s.isPending j || (c && decide (j = k))) := by
  cases c
  · simp [State.raiseIf]
  · simp [State.raiseIf, isPending_raise]

@[simp] theorem raise_enable (s : State) (k : Notice) : (s.raise k).notices.enable = s.notices.enable := rfl
@[simp] theorem raise_route (s : State) (k : Notice) : (s.raise k).notices.route = s.notices.route := rfl

/-! ### Requests and frames -/

/-- A request that reaches the part while another executes is an overrun (R179). -/
theorem request_of_executing {len : Nat} {body : List Byte} {run : List Byte → State → State × Reply} {s : State}
    {r : Reply} (h : s.link.executing = some r) :
    request len body run s = .next (overrunFrame (body.length + 3) s) := by
  simp [request, frame, h]

/-- A body that is not of the request's length is answered BAD_VALUE (R178). -/
theorem request_of_wrong_length {len : Nat} {body : List Byte} {run : List Byte → State → State × Reply} {s : State}
    (h : s.link.executing = none) (fits : body.length ≤ 60) (wrong : body.length ≠ len) :
    request len body run s = .next (s.refused body.length .badValue) := by
  simp [request, frame, h, Config.maxBody, Nat.not_lt.mpr fits, wrong, prepare, beginExecution, shiftFiller,
    State.modLink, State.refused, Link.after]

/-- A request taken: its owner runs on the state whose link has begun the execution, and its reply is prepared. -/
theorem request_of_length {len : Nat} {body : List Byte} {run : List Byte → State → State × Reply} {s : State}
    (h : s.link.executing = none) (fits : body.length ≤ 60) (right : body.length = len) :
    request len body run s =
      .next (prepare (run body (beginExecution (body.length + 3) s)).2
        (run body (beginExecution (body.length + 3) s)).1) := by
  subst right
  simp [request, frame, h, Config.maxBody, Nat.not_lt.mpr fits]

/-- A request refused by its owner changes nothing but the link. -/
theorem prepare_refuse (n : Nat) (st : Status) (s : State) :
    prepare (refuse (beginExecution (n + 3) s) st).2 (refuse (beginExecution (n + 3) s) st).1 = s.refused n st := rfl

/-- A request answered by its owner without an effect changes nothing but the link. -/
theorem prepare_ok (n : Nat) (out : List Byte) (s : State) :
    prepare (ok (beginExecution (n + 3) s) out).2 (ok (beginExecution (n + 3) s) out).1 = s.answered n out := rfl

/-- The start of an execution changes nothing but the link. -/
theorem beginExecution_eq (n : Nat) (s : State) : beginExecution n s =
    { s with link := { s.link with shifted := List.replicate n Config.filler, waiting := none } } := rfl

/-- Every request gives a next state. -/
theorem request_next (len : Nat) (body : List Byte) (run : List Byte → State → State × Reply) (s : State) :
    ∃ t : State, request len body run s = .next t := ⟨_, rfl⟩

/-! ### Owed ejects (R25) -/

/-- What adding an owed eject to the count does to each device. -/
theorem addOwedCount_get (d e : DevNo) (s : State) : (addOwedCount d s).devices[e] =
    if e = d ∧ s.devices[d].live.state ≠ .disabled then
      { s.devices[d] with live := { s.devices[d].live with owed := min 8 (s.devices[d].live.owed + 1) } }
    else s.devices[e] := by
  rw [addOwedCount, State.modLive_get]
  by_cases h : e = d
  · subst h
    rw [if_pos (show e = e from rfl)]
    by_cases g : s.devices[e].live.state = .disabled
    · rw [if_pos g, if_neg (fun h : e = e ∧ s.devices[e].live.state ≠ .disabled => h.2 g)]
    · rw [if_neg g, if_pos (⟨rfl, g⟩ : e = e ∧ s.devices[e].live.state ≠ .disabled)]
  · rw [if_neg h, if_neg (fun g : e = d ∧ s.devices[d].live.state ≠ .disabled => h g.1)]

/-! ### Coil requests (R48, R51) -/

/-- A request enters WAITING: only that coil's live part changes. -/
theorem enterWaiting_get (c e : CoilNo) (o : Owner) (k : ReqClass) (s : State) :
    (enterWaiting c o k s).coils[e] =
      if e = c then
        { s.coils[c] with
          live := { s.coils[c].live with
                      state := .waiting, owner := some o, cls := some k, priority := s.options.initialPriority k,
                      age := 0, ageDue := false, pulses := 0, interval := false, ending := false,
                      timer := .stopped } }
      else s.coils[e] := State.modCoilLive_get s c e _

/-- A request made of a coil changes nothing but the coils. -/
theorem requestEject_frame (c : CoilNo) (d : DevNo) (s : State) :
    ∃ coils : Vector Coil 24, requestEject c d s = { s with coils := coils } := by
  unfold requestEject
  split
  · exact ⟨_, rfl⟩
  · exact ⟨_, rfl⟩

/-- A coil that enters IDLE changes nothing but the coils, its held request waiting at once. -/
theorem enterIdle_frame (c : CoilNo) (s : State) :
    ∃ coils : Vector Coil 24, enterIdle c s = { s with coils := coils } := by
  simp only [enterIdle]
  split
  · exact ⟨_, rfl⟩
  · exact ⟨_, rfl⟩

/-- A coil whose work ends changes nothing but the coils. -/
theorem enterRecovering_frame (c : CoilNo) (s : State) :
    ∃ coils : Vector Coil 24, enterRecovering c s = { s with coils := coils } := by
  simp only [enterRecovering]
  split
  · exact enterIdle_frame c _
  · exact ⟨_, rfl⟩

/-- A request withdrawn or ended by its owner changes nothing but the coils (R54). -/
theorem endRequest_frame (c : CoilNo) (d : DevNo) (s : State) :
    ∃ coils : Vector Coil 24, endRequest c d s = { s with coils := coils } := by
  simp only [endRequest]
  split
  · exact ⟨_, rfl⟩
  · split
    · exact ⟨s.coils, rfl⟩
    · split
      · split
        · exact enterIdle_frame c s
        · exact enterRecovering_frame c s
      · exact ⟨_, rfl⟩
      · exact enterRecovering_frame c s
      · split
        · exact enterRecovering_frame c s
        · exact ⟨s.coils, rfl⟩
      · exact ⟨s.coils, rfl⟩

/-- Withdrawing waiting requests changes nothing but the coils. -/
theorem withdrawWaiting_frame (classes : List ReqClass) (s : State) :
    ∃ coils : Vector Coil 24, withdrawWaiting classes s = { s with coils := coils } := by
  unfold withdrawWaiting
  generalize indices 24 = l
  induction l generalizing s with
  | nil => exact ⟨s.coils, rfl⟩
  | cons c l ih =>
    simp only [List.foldl_cons]
    split
    · obtain ⟨v, hv⟩ := enterIdle_frame c s
      obtain ⟨w, hw⟩ := ih (enterIdle c s)
      exact ⟨w, by rw [hw, hv]⟩
    · exact ih s

/-- The grant of a group: either nothing, or its winner fires (R50). -/
theorem takeGrant_cases (g : Group) (s : State) :
    takeGrant g s = s ∨ ∃ c : CoilNo, (s.group g).state = .free ∧ s.winner g = some c ∧ takeGrant g s = fire g c s := by
  unfold takeGrant
  split
  · next h => split
              · next c hc => exact .inr ⟨c, h, hc, rfl⟩
              · exact .inl rfl
  · exact .inl rfl

/-! ### Slots and orders: what looking for an order leaves alone (R26 to R28) -/

/-- Between two states only devices, coils, slots and EJECT_FINISHED differ. -/
abbrev OrderFrame (s t : State) : Prop :=
  ∃ (devices : Vector Device 8) (coils : Vector Coil 24) (slots : Vector Slot 8) (b : Bool),
    t = State.raiseIf { s with devices := devices, coils := coils, slots := slots } b .ejectFinished

theorem OrderFrame.refl (s : State) : OrderFrame s s := ⟨s.devices, s.coils, s.slots, false, rfl⟩

theorem OrderFrame.trans {s t u : State} (h : OrderFrame s t) (g : OrderFrame t u) : OrderFrame s u := by
  obtain ⟨d, c, x, a, rfl⟩ := h
  obtain ⟨d', c', x', b, rfl⟩ := g
  refine ⟨d', c', x', a || b, ?_⟩
  cases a <;> cases b <;> simp [State.raiseIf, State.raise, BitVec.or_assoc]

theorem OrderFrame.of_modLive (d : DevNo) (f : DeviceLive → DeviceLive) (s : State) : OrderFrame s (s.modLive d f) :=
  ⟨_, s.coils, s.slots, false, rfl⟩

theorem OrderFrame.of_modSlot (n : SlotNo) (f : Slot → Slot) (s : State) : OrderFrame s (s.modSlot n f) :=
  ⟨s.devices, s.coils, _, false, rfl⟩

theorem OrderFrame.of_leaveQueue (n : SlotNo) (s : State) : OrderFrame s (leaveQueue n s) :=
  ⟨s.devices, s.coils, _, false, rfl⟩

/-- A finished slot changes nothing but the slots and EJECT_FINISHED, which it raises. -/
theorem OrderFrame.of_finishSlot (n : SlotNo) (r : SlotResult) (s : State) : OrderFrame s (finishSlot n r s) := by
  simp only [finishSlot]
  split
  · exact ⟨s.devices, s.coils, _, true, rfl⟩
  · exact ⟨s.devices, s.coils, _, true, rfl⟩

/-- A request made of a coil changes nothing but the coils. -/
theorem OrderFrame.of_requestEject (c : CoilNo) (d : DevNo) (s : State) : OrderFrame s (requestEject c d s) := by
  obtain ⟨v, hv⟩ := requestEject_frame c d s
  exact ⟨s.devices, v, s.slots, false, hv⟩

/-- A ball started changes nothing but the devices and the coils (R28). -/
theorem OrderFrame.of_startBall (d : DevNo) (n : Nat) (s : State) : OrderFrame s (startBall d n s) :=
  (OrderFrame.of_modLive d _ s).trans (OrderFrame.of_requestEject _ d _)

/-- A device that looks for an order changes nothing but the devices, the coils, the slots and EJECT_FINISHED (R27). -/
theorem OrderFrame.of_takeOrderFuel (fuel : Nat) (d : DevNo) (s : State) : OrderFrame s (takeOrderFuel fuel d s) := by
  induction fuel generalizing s with
  | zero => exact .refl s
  | succ fuel ih =>
    simp only [takeOrderFuel]
    split
    · exact .refl s
    · split
      · exact (OrderFrame.of_modLive d _ s).trans (.of_startBall d 1 _)
      · split
        · exact .refl s
        · next n _ =>
          have active := (OrderFrame.of_leaveQueue n s).trans
            (.of_modSlot n (fun x => { x with state := .active }) _)
          split
          · exact ((active.trans (.of_modLive d _ _)).trans (.of_modSlot n _ _)).trans
              ((OrderFrame.of_finishSlot n .short _).trans (ih _))
          · exact (active.trans (.of_modLive d _ _)).trans (.of_startBall d 1 _)

/-- What an owed eject added to a device leaves alone (R25, R27). -/
theorem OrderFrame.of_addOwed (d : DevNo) (s : State) : OrderFrame s (addOwed d s) :=
  (OrderFrame.of_modLive d _ s).trans (.of_takeOrderFuel 9 d _)

/-- What several owed ejects added to a device leave alone. -/
theorem OrderFrame.of_addOwedTimes (d : DevNo) (n : Nat) (s : State) : OrderFrame s (addOwedTimes d n s) := by
  induction n generalizing s with
  | zero => exact .refl s
  | succ n ih => exact (OrderFrame.of_addOwed d s).trans (ih _)

/-- What the end of an order leaves alone (R33). -/
theorem OrderFrame.of_endOrder (d : DevNo) (r : Slot → SlotResult) (s : State) : OrderFrame s (endOrder d r s) := by
  simp only [endOrder]
  split
  · exact ((OrderFrame.of_finishSlot _ _ s).trans (.of_modLive d _ _)).trans (.of_takeOrderFuel 9 d _)
  · exact (OrderFrame.of_modLive d _ s).trans (.of_takeOrderFuel 9 d _)

/-- The looks for an order after a RECOUNT change nothing but the devices, the coils, the slots and EJECT_FINISHED (R69). -/
theorem OrderFrame.of_retakeOrders (before s : State) : OrderFrame s (retakeOrders before s) := by
  unfold retakeOrders
  generalize indices 8 = ds
  induction ds generalizing s with
  | nil => exact .refl s
  | cons d ds ih =>
    rw [List.foldl_cons]
    split
    · exact (OrderFrame.of_takeOrderFuel 9 d s).trans (ih _)
    · exact ih s

/-! ### Reports of a coil (R20, R28, R41) -/

/-- A report of a coil reaches its owner exactly when that is a device whose eject coil it is; otherwise nothing happens. -/
theorem reportToOwner_cases (c : CoilNo) (l : CoilLive) (report : Bool → DevNo → State → State) (s : State) :
    (∃ d : DevNo, l.owner = some (.device d) ∧ s.devices[d].cfg.coil = c ∧
      reportToOwner c l report s = report (l.held != some d) d s) ∨
    ((∀ d : DevNo, l.owner = some (.device d) → s.devices[d].cfg.coil ≠ c) ∧ reportToOwner c l report s = s) := by
  unfold reportToOwner
  split
  · next d h =>
    by_cases hc : s.devices[d].cfg.coil = c
    · exact .inl ⟨d, h, hc, if_pos hc⟩
    · refine .inr ⟨fun e he => ?_, if_neg hc⟩
      obtain rfl : d = e := by simpa [h] using he
      exact hc
  · next h => exact .inr ⟨fun d hd => (h d hd).elim, rfl⟩

/-- A pulse end that reaches a device changes that device alone: nothing when DISABLED, else its settle timer, and with the
open request over an EJECTING device enters CONFIRMING. -/
theorem devicePulseEnd_cases (last : Bool) (d : DevNo) (s : State) :
    (s.devices[d].live.state = .disabled ∧ devicePulseEnd last d s = s) ∨
    (s.devices[d].live.state = .ejecting ∧ last = true ∧
      devicePulseEnd last d s = enterConfirming d (restartSettle d s)) ∨
    ((s.devices[d].live.state ≠ .ejecting ∨ last = false) ∧ s.devices[d].live.state ≠ .disabled ∧
      devicePulseEnd last d s = restartSettle d s) := by
  have hs : (restartSettle d s).devices[d].live.state = s.devices[d].live.state := by
    simp [restartSettle, State.modDevice]
  unfold devicePulseEnd
  by_cases h : s.devices[d].live.state = .disabled
  · exact .inl ⟨h, if_pos h⟩
  · simp only [if_neg h, hs]
    by_cases g : s.devices[d].live.state = .ejecting ∧ last = true
    · exact .inr (.inl ⟨g.1, g.2, if_pos g⟩)
    · refine .inr (.inr ⟨?_, h, if_neg g⟩)
      by_cases e : s.devices[d].live.state = .ejecting
      · exact .inr (by simpa using fun h => g ⟨e, h⟩)
      · exact .inl e

/-! ### The saucer hold (R37) -/

/-- What an evaluation does to a SAUCER's hold: nothing, a stop at occupancy 0, or at a rise from 0 through an ordinary
entry a start, or at hold time 0 one owed eject counted. -/
theorem saucerHold_cases (d : DevNo) (before ordinary : Nat) (s : State) :
    saucerHold d before ordinary s = s ∨
    (s.devices[d].cfg.kind = .saucer ∧ s.devices[d].live.occupancy = 0 ∧
      saucerHold d before ordinary s = s.modLive d fun l => { l with hold := l.hold.halt }) ∨
    (s.devices[d].cfg.kind = .saucer ∧ s.devices[d].live.occupancy ≠ 0 ∧ before = 0 ∧ 1 ≤ ordinary ∧
      s.devices[d].live.hold.running = false ∧
      ((s.devices[d].cfg.holdTime = 0 ∧ saucerHold d before ordinary s = addOwedCount d s) ∨
       (s.devices[d].cfg.holdTime ≠ 0 ∧ saucerHold d before ordinary s =
          s.modLive d fun l => { l with hold := .load s.devices[d].cfg.holdTime }))) := by
  simp only [saucerHold]
  by_cases hk : s.devices[d].cfg.kind = .saucer
  · rw [if_neg (by simpa using hk)]
    by_cases h0 : s.devices[d].live.occupancy = 0
    · exact .inr (.inl ⟨hk, h0, if_pos h0⟩)
    · rw [if_neg h0]
      by_cases hr : before = 0 ∧ 1 ≤ ordinary ∧ ¬ s.devices[d].live.hold.running = true
      · rw [if_pos hr]
        refine .inr (.inr ⟨hk, h0, hr.1, hr.2.1, by simpa using hr.2.2, ?_⟩)
        by_cases ht : s.devices[d].cfg.holdTime = 0
        · exact .inl ⟨ht, if_pos ht⟩
        · exact .inr ⟨ht, if_neg ht⟩
      · exact .inl (if_neg hr)
  · exact .inl (if_pos hk)

/-! ### Score additions (R127) -/

/-- The three outcomes of a score addition. -/
theorem addScore_cases (p : PlayerNo) (v : Nat) (s : State) :
    (s.pages[p].score + v ≤ Config.maxScore ∧
      addScore p v s = (s.modPage p fun g => { g with score := s.pages[p].score + v }, .stored)) ∨
    (Config.maxScore < s.pages[p].score + v ∧ (s.options.policy = .saturate ∨ 9 ≤ s.pages[p].rollover) ∧
      addScore p v s = (s.modPage p fun g => { g with score := Config.maxScore }, .saturated)) ∨
    (Config.maxScore < s.pages[p].score + v ∧ s.options.policy = .roll ∧ s.pages[p].rollover < 9 ∧
      addScore p v s = ((s.modPage p fun g =>
        { g with score := s.pages[p].score + v - Config.rollModulus, rollover := g.rollover + 1 }).raise .scoreRollover,
        .rolled)) := by
  simp only [addScore]
  by_cases h : s.pages[p].score + v ≤ Config.maxScore
  · exact .inl ⟨h, if_pos h⟩
  · rw [if_neg h]
    cases hp : s.options.policy with
    | saturate => exact .inr (.inl ⟨Nat.lt_of_not_le h, .inl rfl, rfl⟩)
    | roll =>
      by_cases hr : s.pages[p].rollover < 9
      · exact .inr (.inr ⟨Nat.lt_of_not_le h, rfl, hr, if_pos hr⟩)
      · exact .inr (.inl ⟨Nat.lt_of_not_le h, .inr (Nat.le_of_not_lt hr), if_neg hr⟩)

/-! ### Pushes (R144) -/

/-- A push either changes nothing and is refused, or builds its context on top of the stack. -/
theorem push_cases (p : PlayerNo) (id : Nat) (s : State) :
    (∃ st : Status, st ≠ .ok ∧ push p id s = (s, st)) ∨
    ∃ t : Template, s.template id = some t ∧ (∀ c ∈ s.pages[p].stack, c.id ≠ id) ∧
      s.pages[p].stack.length < Config.maxDepth ∧ s.session.state = .opened ∧
      push p id s = (setStack p (s.pages[p].stack ++ [Context.build id t]) s, .ok) := by
  simp only [push]
  cases ht : s.template id with
  | none => exact .inl ⟨.notFound, by simp, rfl⟩
  | some t =>
    dsimp only
    by_cases h1 : s.pages[p].stack.any (fun c => c.id == id) = true
    · exact .inl ⟨.refusedDuplicate, by simp, if_pos h1⟩
    rw [if_neg h1]
    by_cases h2 : Config.maxDepth ≤ s.pages[p].stack.length
    · exact .inl ⟨.refusedFull, by simp, if_pos h2⟩
    rw [if_neg h2]
    by_cases h3 : (!s.isOpen) = true
    · exact .inl ⟨.refusedState, by simp, if_pos h3⟩
    rw [if_neg h3]
    refine .inr ⟨t, rfl, ?_, Nat.lt_of_not_le h2, ?_, rfl⟩
    · intro c hc e
      exact h1 (List.any_eq_true.mpr ⟨c, hc, by simp [e]⟩)
    · simpa [State.isOpen] using h3

/-! ### The hold of timers, and the close of an event -/

/-- Holding the timers changes no page but for the marks of expiries not yet taken. -/
theorem holdTimers_page (s : State) (p : PlayerNo) :
    (holdTimers s).pages[p].score = s.pages[p].score ∧ (holdTimers s).pages[p].rollover = s.pages[p].rollover ∧
      (holdTimers s).pages[p].lit = s.pages[p].lit ∧ (holdTimers s).pages[p].credits = s.pages[p].credits ∧
      (holdTimers s).pages[p].last = s.pages[p].last := by
  simp [holdTimers]

@[simp] theorem holdTimers_devices (s : State) : (holdTimers s).devices = s.devices := rfl
@[simp] theorem holdTimers_slots (s : State) : (holdTimers s).slots = s.slots := rfl
@[simp] theorem holdTimers_coils (s : State) : (holdTimers s).coils = s.coils := rfl
@[simp] theorem holdTimers_session (s : State) : (holdTimers s).session = s.session := rfl
@[simp] theorem holdTimers_notices (s : State) : (holdTimers s).notices = s.notices := rfl
@[simp] theorem holdTimers_link (s : State) : (holdTimers s).link = s.link := rfl
@[simp] theorem holdTimers_switches (s : State) : (holdTimers s).switches = s.switches := rfl
@[simp] theorem holdTimers_options (s : State) : (holdTimers s).options = s.options := rfl

/-- The counts of balls are those before the timers were held. -/
theorem holdTimers_counts (s : State) : (holdTimers s).acct.installed = s.acct.installed ∧
    (holdTimers s).acct.live = s.acct.live ∧ (holdTimers s).acct.missing = s.acct.missing ∧
    (holdTimers s).acct.flights = s.acct.flights ∧ (holdTimers s).acct.phase = s.acct.phase := ⟨rfl, rfl, rfl, rfl, rfl⟩

/-- The end of a search changes nothing but the coils and the accounting record, and no count of balls (R83). -/
theorem endSearch_frame (s : State) : ∃ (coils : Vector Coil 24) (acct : Accounting),
    endSearch s = { s with coils := coils, acct := acct } ∧ acct.search = .idle ∧ acct.live = s.acct.live ∧
      acct.missing = s.acct.missing ∧ acct.flights = s.acct.flights ∧ acct.installed = s.acct.installed ∧
      acct.phase = s.acct.phase := by
  unfold endSearch
  split
  · next h => exact ⟨s.coils, s.acct, rfl, h, rfl, rfl, rfl, rfl, rfl⟩
  · obtain ⟨v, hv⟩ := withdrawWaiting_frame [.search] s
    rw [hv]
    exact ⟨v, _, rfl, rfl, rfl, rfl, rfl, rfl, rfl⟩

/-! ### Debounce (R3) -/

/-- What one frame does to one switch, and whether it accepts an edge. -/
theorem debounce_cases (r : SwitchRec) (closed : Bool) (stamp : Stamp) :
    (levelOf closed = r.level ∧ r.debounce closed stamp = ({ r with pendingFrames := 0 }, none)) ∨
    (levelOf closed ≠ r.level ∧ r.pendingFrames + 1 < (if closed then r.closeDebounce else r.openDebounce) ∧
      r.debounce closed stamp = ({ r with pendingFrames := r.pendingFrames + 1 }, none)) ∨
    (levelOf closed ≠ r.level ∧ (if closed then r.closeDebounce else r.openDebounce) ≤ r.pendingFrames + 1 ∧
      r.debounce closed stamp =
        (if closed then { r with pendingFrames := 0, level := .closed, lastClose := stamp }
          else { r with pendingFrames := 0, level := .opened, lastOpen := stamp },
         some (if closed then .closing else .opening))) := by
  unfold SwitchRec.debounce
  by_cases h : levelOf closed = r.level
  · exact .inl ⟨h, if_pos h⟩
  · rw [if_neg h]
    by_cases g : r.pendingFrames + 1 < (if closed then r.closeDebounce else r.openDebounce)
    · exact .inr (.inl ⟨h, g, if_pos g⟩)
    · refine .inr (.inr ⟨h, Nat.le_of_not_lt g, ?_⟩)
      simp only
      rw [if_neg g]
      cases closed <;> rfl

end Sys2Proof.Machine
end

