-- ==== Sys2Proof/Laws/PerInstr.lean ====
section
/-! SUPPORT. What holds of every command as syntax, one lemma per constructor: the code table of R188 names each request
once, so that code and body determine the request. -/

namespace Sys2Proof.Laws

/-- The code and the body of a request are read back as that request. -/
def codeRoundTrip.Statement (i : Instr) : Prop :=
  ∀ (code : Byte) (body : List Byte), codeOf i = some (code, body) → requestOf code body = some i

theorem codeRoundTrip.powerOnReset : codeRoundTrip.Statement .powerOnReset := by
  rintro _ _ ⟨⟩

theorem codeRoundTrip.scanFrame (raw : BitVec 128) (early : List Event) : codeRoundTrip.Statement (.scanFrame raw early) := by
  rintro _ _ ⟨⟩

theorem codeRoundTrip.evaluation (d : DevNo) : codeRoundTrip.Statement (.evaluation d) := by
  rintro _ _ ⟨⟩

theorem codeRoundTrip.confirmTimerExpiry (d : DevNo) : codeRoundTrip.Statement (.confirmTimerExpiry d) := by
  rintro _ _ ⟨⟩

theorem codeRoundTrip.saucerHoldExpiry (d : DevNo) : codeRoundTrip.Statement (.saucerHoldExpiry d) := by
  rintro _ _ ⟨⟩

theorem codeRoundTrip.grant (g : Group) : codeRoundTrip.Statement (.grant g) := by
  rintro _ _ ⟨⟩

theorem codeRoundTrip.priorityAging (c : CoilNo) : codeRoundTrip.Statement (.priorityAging c) := by
  rintro _ _ ⟨⟩

theorem codeRoundTrip.pulseEnd (c : CoilNo) : codeRoundTrip.Statement (.pulseEnd c) := by
  rintro _ _ ⟨⟩

theorem codeRoundTrip.holdWindowExpiry (c : CoilNo) : codeRoundTrip.Statement (.holdWindowExpiry c) := by
  rintro _ _ ⟨⟩

theorem codeRoundTrip.intervalExpiry (c : CoilNo) : codeRoundTrip.Statement (.intervalExpiry c) := by
  rintro _ _ ⟨⟩

theorem codeRoundTrip.recoveryExpiry (c : CoilNo) : codeRoundTrip.Statement (.recoveryExpiry c) := by
  rintro _ _ ⟨⟩

theorem codeRoundTrip.gapExpiry (g : Group) : codeRoundTrip.Statement (.gapExpiry g) := by
  rintro _ _ ⟨⟩

theorem codeRoundTrip.flightExpiry (position : Nat) : codeRoundTrip.Statement (.flightExpiry position) := by
  rintro _ _ ⟨⟩

theorem codeRoundTrip.saveTimerExpiry : codeRoundTrip.Statement .saveTimerExpiry := by
  rintro _ _ ⟨⟩

theorem codeRoundTrip.idleTimerExpiry : codeRoundTrip.Statement .idleTimerExpiry := by
  rintro _ _ ⟨⟩

theorem codeRoundTrip.searchTimerExpiry : codeRoundTrip.Statement .searchTimerExpiry := by
  rintro _ _ ⟨⟩

theorem codeRoundTrip.pfMultTimerExpiry : codeRoundTrip.Statement .pfMultTimerExpiry := by
  rintro _ _ ⟨⟩

theorem codeRoundTrip.modeTimerExpiry (modeId : Nat) : codeRoundTrip.Statement (.modeTimerExpiry modeId) := by
  rintro _ _ ⟨⟩

theorem codeRoundTrip.hurryPeriodExpiry (modeId : Nat) : codeRoundTrip.Statement (.hurryPeriodExpiry modeId) := by
  rintro _ _ ⟨⟩

theorem codeRoundTrip.swingTimerExpiry : codeRoundTrip.Statement .swingTimerExpiry := by
  rintro _ _ ⟨⟩

theorem codeRoundTrip.fetch (clocked : Nat) : codeRoundTrip.Statement (.fetch clocked) := by
  rintro _ _ ⟨⟩

theorem codeRoundTrip.badFrame (frame : List Byte) : codeRoundTrip.Statement (.badFrame frame) := by
  rintro _ _ ⟨⟩

theorem codeRoundTrip.overrun (clocked : Nat) : codeRoundTrip.Statement (.overrun clocked) := by
  rintro _ _ ⟨⟩

theorem codeRoundTrip.unknownRequest (code : Byte) (body : List Byte) : codeRoundTrip.Statement (.unknownRequest code body) := by
  rintro _ _ ⟨⟩

theorem codeRoundTrip.setSwitch (body : List Byte) : codeRoundTrip.Statement (.setSwitch body) := by
  rintro _ _ ⟨⟩; rfl

theorem codeRoundTrip.readSwitch (body : List Byte) : codeRoundTrip.Statement (.readSwitch body) := by
  rintro _ _ ⟨⟩; rfl

theorem codeRoundTrip.readSwitches (body : List Byte) : codeRoundTrip.Statement (.readSwitches body) := by
  rintro _ _ ⟨⟩; rfl

theorem codeRoundTrip.readActivity (body : List Byte) : codeRoundTrip.Statement (.readActivity body) := by
  rintro _ _ ⟨⟩; rfl

theorem codeRoundTrip.setDevice (body : List Byte) : codeRoundTrip.Statement (.setDevice body) := by
  rintro _ _ ⟨⟩; rfl

theorem codeRoundTrip.enableDevices (body : List Byte) : codeRoundTrip.Statement (.enableDevices body) := by
  rintro _ _ ⟨⟩; rfl

theorem codeRoundTrip.disableDevices (body : List Byte) : codeRoundTrip.Statement (.disableDevices body) := by
  rintro _ _ ⟨⟩; rfl

theorem codeRoundTrip.eject (body : List Byte) : codeRoundTrip.Statement (.eject body) := by
  rintro _ _ ⟨⟩; rfl

theorem codeRoundTrip.cancelEjects (body : List Byte) : codeRoundTrip.Statement (.cancelEjects body) := by
  rintro _ _ ⟨⟩; rfl

theorem codeRoundTrip.clearJam (body : List Byte) : codeRoundTrip.Statement (.clearJam body) := by
  rintro _ _ ⟨⟩; rfl

theorem codeRoundTrip.readDevice (body : List Byte) : codeRoundTrip.Statement (.readDevice body) := by
  rintro _ _ ⟨⟩; rfl

theorem codeRoundTrip.readSlot (body : List Byte) : codeRoundTrip.Statement (.readSlot body) := by
  rintro _ _ ⟨⟩; rfl

theorem codeRoundTrip.setCoil (body : List Byte) : codeRoundTrip.Statement (.setCoil body) := by
  rintro _ _ ⟨⟩; rfl

theorem codeRoundTrip.pulseCoil (body : List Byte) : codeRoundTrip.Statement (.pulseCoil body) := by
  rintro _ _ ⟨⟩; rfl

theorem codeRoundTrip.readCoil (body : List Byte) : codeRoundTrip.Statement (.readCoil body) := by
  rintro _ _ ⟨⟩; rfl

theorem codeRoundTrip.readGroups (body : List Byte) : codeRoundTrip.Statement (.readGroups body) := by
  rintro _ _ ⟨⟩; rfl

theorem codeRoundTrip.recount (body : List Byte) : codeRoundTrip.Statement (.recount body) := by
  rintro _ _ ⟨⟩; rfl

theorem codeRoundTrip.serve (body : List Byte) : codeRoundTrip.Statement (.serve body) := by
  rintro _ _ ⟨⟩; rfl

theorem codeRoundTrip.setBallSave (body : List Byte) : codeRoundTrip.Statement (.setBallSave body) := by
  rintro _ _ ⟨⟩; rfl

theorem codeRoundTrip.startSearch (body : List Byte) : codeRoundTrip.Statement (.startSearch body) := by
  rintro _ _ ⟨⟩; rfl

theorem codeRoundTrip.readAccounting (body : List Byte) : codeRoundTrip.Statement (.readAccounting body) := by
  rintro _ _ ⟨⟩; rfl

theorem codeRoundTrip.readFlights (body : List Byte) : codeRoundTrip.Statement (.readFlights body) := by
  rintro _ _ ⟨⟩; rfl

theorem codeRoundTrip.lightLock (body : List Byte) : codeRoundTrip.Statement (.lightLock body) := by
  rintro _ _ ⟨⟩; rfl

theorem codeRoundTrip.startMultiball (body : List Byte) : codeRoundTrip.Statement (.startMultiball body) := by
  rintro _ _ ⟨⟩; rfl

theorem codeRoundTrip.readPlayer (body : List Byte) : codeRoundTrip.Statement (.readPlayer body) := by
  rintro _ _ ⟨⟩; rfl

theorem codeRoundTrip.readLocks (body : List Byte) : codeRoundTrip.Statement (.readLocks body) := by
  rintro _ _ ⟨⟩; rfl

theorem codeRoundTrip.setWindow (body : List Byte) : codeRoundTrip.Statement (.setWindow body) := by
  rintro _ _ ⟨⟩; rfl

theorem codeRoundTrip.setAward (body : List Byte) : codeRoundTrip.Statement (.setAward body) := by
  rintro _ _ ⟨⟩; rfl

theorem codeRoundTrip.readWindow (body : List Byte) : codeRoundTrip.Statement (.readWindow body) := by
  rintro _ _ ⟨⟩; rfl

theorem codeRoundTrip.readAward (body : List Byte) : codeRoundTrip.Statement (.readAward body) := by
  rintro _ _ ⟨⟩; rfl

theorem codeRoundTrip.readAwardHits (body : List Byte) : codeRoundTrip.Statement (.readAwardHits body) := by
  rintro _ _ ⟨⟩; rfl

theorem codeRoundTrip.addPoints (body : List Byte) : codeRoundTrip.Statement (.addPoints body) := by
  rintro _ _ ⟨⟩; rfl

theorem codeRoundTrip.setPfMult (body : List Byte) : codeRoundTrip.Statement (.setPfMult body) := by
  rintro _ _ ⟨⟩; rfl

theorem codeRoundTrip.readMultiplier (body : List Byte) : codeRoundTrip.Statement (.readMultiplier body) := by
  rintro _ _ ⟨⟩; rfl

theorem codeRoundTrip.setTemplate (body : List Byte) : codeRoundTrip.Statement (.setTemplate body) := by
  rintro _ _ ⟨⟩; rfl

theorem codeRoundTrip.readTemplate (body : List Byte) : codeRoundTrip.Statement (.readTemplate body) := by
  rintro _ _ ⟨⟩; rfl

theorem codeRoundTrip.pushMode (body : List Byte) : codeRoundTrip.Statement (.pushMode body) := by
  rintro _ _ ⟨⟩; rfl

theorem codeRoundTrip.retireMode (body : List Byte) : codeRoundTrip.Statement (.retireMode body) := by
  rintro _ _ ⟨⟩; rfl

theorem codeRoundTrip.pauseMode (body : List Byte) : codeRoundTrip.Statement (.pauseMode body) := by
  rintro _ _ ⟨⟩; rfl

theorem codeRoundTrip.resumeMode (body : List Byte) : codeRoundTrip.Statement (.resumeMode body) := by
  rintro _ _ ⟨⟩; rfl

theorem codeRoundTrip.addModeTime (body : List Byte) : codeRoundTrip.Statement (.addModeTime body) := by
  rintro _ _ ⟨⟩; rfl

theorem codeRoundTrip.advanceMode (body : List Byte) : codeRoundTrip.Statement (.advanceMode body) := by
  rintro _ _ ⟨⟩; rfl

theorem codeRoundTrip.readMode (body : List Byte) : codeRoundTrip.Statement (.readMode body) := by
  rintro _ _ ⟨⟩; rfl

theorem codeRoundTrip.openSession (body : List Byte) : codeRoundTrip.Statement (.openSession body) := by
  rintro _ _ ⟨⟩; rfl

theorem codeRoundTrip.addPlayer (body : List Byte) : codeRoundTrip.Statement (.addPlayer body) := by
  rintro _ _ ⟨⟩; rfl

theorem codeRoundTrip.setPlayer (body : List Byte) : codeRoundTrip.Statement (.setPlayer body) := by
  rintro _ _ ⟨⟩; rfl

theorem codeRoundTrip.closeSession (body : List Byte) : codeRoundTrip.Statement (.closeSession body) := by
  rintro _ _ ⟨⟩; rfl

theorem codeRoundTrip.gameReset (body : List Byte) : codeRoundTrip.Statement (.gameReset body) := by
  rintro _ _ ⟨⟩; rfl

theorem codeRoundTrip.readSession (body : List Byte) : codeRoundTrip.Statement (.readSession body) := by
  rintro _ _ ⟨⟩; rfl

theorem codeRoundTrip.readNotices (body : List Byte) : codeRoundTrip.Statement (.readNotices body) := by
  rintro _ _ ⟨⟩; rfl

theorem codeRoundTrip.clearNotices (body : List Byte) : codeRoundTrip.Statement (.clearNotices body) := by
  rintro _ _ ⟨⟩; rfl

theorem codeRoundTrip.setNoticeEnable (body : List Byte) : codeRoundTrip.Statement (.setNoticeEnable body) := by
  rintro _ _ ⟨⟩; rfl

theorem codeRoundTrip.setNoticeRoute (body : List Byte) : codeRoundTrip.Statement (.setNoticeRoute body) := by
  rintro _ _ ⟨⟩; rfl

theorem codeRoundTrip.setGameOptions (body : List Byte) : codeRoundTrip.Statement (.setGameOptions body) := by
  rintro _ _ ⟨⟩; rfl

theorem codeRoundTrip.readGameOptions (body : List Byte) : codeRoundTrip.Statement (.readGameOptions body) := by
  rintro _ _ ⟨⟩; rfl

theorem codeRoundTrip.readCapability (body : List Byte) : codeRoundTrip.Statement (.readCapability body) := by
  rintro _ _ ⟨⟩; rfl

theorem codeRoundTrip.executionEnd : codeRoundTrip.Statement .executionEnd := by
  rintro _ _ ⟨⟩

end Sys2Proof.Laws
end

