-- ==== Sys2Proof/Tests/Slice0.lean ====
section
/-! SUPPORT. Tests of the model: ill-formed commands that WellFormed refuses, single steps whose expected results are worked
from spec/ (each test names its source), and for every obligation with hypotheses a concrete state that meets them. -/

namespace Sys2Proof.Tests

open Sys2Proof.Machine

/-! ### WellFormed refuses what cannot reach the part -/

theorem test_wf_refuses_a_long_body : (Instr.setSwitch (List.replicate 61 0)).wellFormed = false := by decide
theorem test_wf_takes_the_longest_body : (Instr.setSwitch (List.replicate 60 0)).wellFormed = true := by decide
theorem test_wf_refuses_mode_0 : (Instr.modeTimerExpiry 0).wellFormed = false := by decide
theorem test_wf_refuses_mode_64 : (Instr.hurryPeriodExpiry 64).wellFormed = false := by decide
theorem test_wf_refuses_flight_16 : (Instr.flightExpiry 16).wellFormed = false := by decide
theorem test_wf_refuses_an_early_flight_16 : (Instr.scanFrame 0 [.flight 16]).wellFormed = false := by decide
theorem test_wf_refuses_an_early_mode_0 : (Instr.scanFrame 0 [.modeTimer 0]).wellFormed = false := by decide
theorem test_wf_refuses_an_early_mode_64 : (Instr.scanFrame 0 [.hurryPeriod 64]).wellFormed = false := by decide
theorem test_wf_refuses_an_empty_overrun : (Instr.overrun 0).wellFormed = false := by decide
theorem test_wf_refuses_a_good_bad_frame : (Instr.badFrame [0x00, 0x00, 0x00]).wellFormed = false := by
  decide +kernel
theorem test_wf_refuses_a_known_unknown : (Instr.unknownRequest 0x10 []).wellFormed = false := by decide
theorem test_wf_refuses_a_fetch_as_unknown : (Instr.unknownRequest 0x00 []).wellFormed = false := by decide
theorem test_wf_refuses_a_long_unknown : (Instr.unknownRequest 0x01 (List.replicate 61 0)).wellFormed = false := by
  decide +kernel

/-! ### A machine to test on -/

/-- The state a command leaves. -/
def after (c : Instr) (s : State) : State :=
  match exec c s with
  | .next t => t
  | _ => s

/-- The reply a request prepared. -/
def answer (c : Instr) (s : State) : Option (Status × List Byte) :=
  (after c s).link.executing.map fun r => (r.status, r.body)

def closedSwitch : SwitchRec := { SwitchRec.powerOn with cls := .device, level := .closed }

def device (k : DeviceKind) (ps : List SwitchNo) (entry : Option SwitchNo) (coil : CoilNo) (target : Target)
    (balls : Nat) : Device :=
  { cfg := { kind := k, configured := true, capacity := ps.length, positions := ps, entry := entry, coil := coil,
             target := target, settleTime := 5, confirmTimeout := 200, maxAttempts := 3, flightTime := 20,
             holdTime := 50, policy := .purge, searchFlag := true },
    live := { DeviceLive.powerOn with state := .idle, occupancy := balls } }

/-- Mode 3 of spec/08 section 8.11: STACKING, GLOBAL, multiplier 2. -/
def mode3 : Template :=
  { stacking := .stacking, scope := .globalScope, multiplier := 2, goal := 0, initialTimer := 3000, jackpotBase := 0,
    jackpotStep := 0, jackpotMax := 0, hurryStart := 0, hurryStep := 0, hurryFloor := 0, hurryPeriod := 0,
    completionPct := 0, endOnDrain := true, endOnTilt := true, next := 0 }

/-- Mode 8 of the same section: STACKING, LOCAL, multiplier 3, goal 4, percentage 20, next 9. -/
def mode8 : Template :=
  { mode3 with scope := .localScope, multiplier := 3, goal := 4, initialTimer := 0, completionPct := 20,
               endOnDrain := false, endOnTilt := false, next := 9 }

/-- Mode 9 of the same section: EXCLUSIVE, LOCAL, with a hurry-up. -/
def mode9 : Template :=
  { mode3 with stacking := .exclusive, scope := .localScope, multiplier := 1, initialTimer := 2000,
               hurryStart := 2000000, hurryStep := 50000, hurryFloor := 500000, hurryPeriod := 100,
               completionPct := 10 }

def context3 : Context := Context.build 3 mode3
def context8 : Context := { Context.build 8 mode8 with progress := 3, total := 900000 }

/-- A game in PLAY: two balls in the trough, one in lock device 3 (lock place 1), one live; player 0 of two is current
with a lit lock, a credit and modes 3 and 8 on the stack. -/
def game : State :=
  { State.reset with
    switches := ((State.reset.switches.set 0 closedSwitch).set 1 closedSwitch).set 24 closedSwitch,
    devices := #v[device .trough [0, 1, 2] none 0 (.device 1) 2, device .shooter [8] none 1 .playfield 0,
      device .saucer [16] none 2 .playfield 0, device .lock [24, 25] (some 26) 3 .playfield 1,
      Device.powerOn 4, Device.powerOn 5, Device.powerOn 6, Device.powerOn 7],
    acct := { State.reset.acct with installed := 4, live := 1, phase := .play, inPlay := 1 },
    session := { State.reset.session with state := .opened, players := 2 },
    pages := State.reset.pages.set 0
      { Page.clear with score := 5000000, lit := Page.clear.lit.set 1 1, credits := Page.clear.credits.set 1 1,
                        stack := [context3, context8] },
    templates := ((State.reset.templates.set 2 (some mode3)).set 7 (some mode8)).set 8 (some mode9) }

/-- The same machine with the session CLOSED, every stack empty and no ball in play. -/
def idleRig : State :=
  { game with acct := { game.acct with phase := .noPlay, live := 0, installed := 3, inPlay := 0 },
              session := { game.session with state := .closed },
              pages := game.pages.set 0 { game.pages[0] with stack := [] } }

/-- The same machine with every device configured and DISABLED. -/
def offRig : State :=
  { idleRig with acct := State.reset.acct,
                 devices := idleRig.devices.map fun v => { v with live := .powerOn } }

/-! ### Single steps, with results worked from the manual -/

/-- spec/10 R175. -/
theorem test_crc_example : crc8 [0x01, 0x00] = 0x15 := by decide +kernel

/-- spec/11 R188: a fetch frame is 00 00 00. -/
theorem test_fetch_frame : readFrame [0x00, 0x00, 0x00] = some (.fetch 0) := by decide +kernel

/-- spec/11 section 11.4: the ADD_POINTS body in its frame; the code 70 from R188. -/
theorem test_add_points_frame :
    (writeFrame (.addPoints [0x02, 0x00, 0x02, 0x00, 0x00, 0x00])).map (·.dropLast) =
      some [0x70, 0x06, 0x02, 0x00, 0x02, 0x00, 0x00, 0x00] := by decide +kernel

/-- spec/10 R176: the body length is judged before the CRC. -/
theorem test_bad_length_first : frameCause [0x10, 61, 0x00] = some .badLength := by decide

/-- spec/01 section 1.8, frame 1004: the third closed frame is accepted. -/
theorem test_debounce_accepts : ({ SwitchRec.powerOn with closeDebounce := 3, openDebounce := 5, pendingFrames := 2 }
    : SwitchRec).debounce true 1004 =
      ({ SwitchRec.powerOn with closeDebounce := 3, openDebounce := 5, pendingFrames := 0, level := .closed,
                                lastClose := 1004 }, some .closing) := by decide

/-- spec/01 section 1.8, frame 1001: one open frame cancels the count. -/
theorem test_debounce_cancels : ({ SwitchRec.powerOn with closeDebounce := 3, pendingFrames := 1 } : SwitchRec).debounce
    false 1001 = ({ SwitchRec.powerOn with closeDebounce := 3, pendingFrames := 0 }, none) := by decide

/-- spec/01 R1, R2: after reset one frame with switch 0 closed (close debounce 1) closes it, stamped 1. -/
theorem test_scan_frame : (after (.scanFrame 1 []) State.reset).switches[0].lastClose = 1 ∧
    (after (.scanFrame 1 []) State.reset).frameCount = 1 := by decide +kernel

/-- spec/01 R11: debounce values 0 and 16 are clamped to 1 and 15. -/
theorem test_set_switch_clamps : let r := (after (.setSwitch [37, 1, 0, 16, 1]) State.reset).switches[37]
    r.closeDebounce = 1 ∧ r.openDebounce = 15 ∧ r.cls = .playfield ∧ r.selection = .close := by decide +kernel

/-- spec/02 section 2.10: EJECT(3 balls) at a lock holding a ball takes the lowest IDLE slot, ACTIVE at once. -/
theorem test_eject : answer (.eject [3, 3]) game = some (.ok, [0]) ∧
    (after (.eject [3, 3]) game).slots[0].state = .active ∧ (after (.eject [3, 3]) game).slots[0].requested = 3 ∧
    (after (.eject [3, 3]) game).devices[3].live.state = .ejecting := by decide +kernel

/-- spec/02 R22: with entry switch, c = 1, a = 2, e = 1 gives 2 exits and 1 entry; without, c = 1, a = 2 gives 1 exit. -/
theorem test_counts : swapCount 1 2 1 = (2, 1) ∧ swapCount 3 1 1 = (0, 2) ∧ netCount 1 2 = (1, 0) := by decide

/-- spec/02 section 2.10, last row: the confirm timer's expiry ends a slot order SHORT. -/
theorem test_confirm_ends_short :
    let s := (game.modLive 3 fun l =>
      { l with state := .confirming, order := .slot 2, attemptConfirmed := true, attemptCount := 1,
               occupancy := 0, confirm := ⟨1, true, true⟩ }).modSlot 2 fun _ =>
        { state := .active, device := 3, requested := 3, ejected := 2, result := .none, issue := 0 }
    (after (.confirmTimerExpiry 3) s).slots[2].result = .short ∧
      (after (.confirmTimerExpiry 3) s).devices[3].live.state = .idle := by decide +kernel

/-- spec/03 section 3.9: with 20 granted last, ROTATE meets coil 2 first; with 5, coil 7. -/
theorem test_rotate : (∀ c ∈ [(7 : CoilNo), 12], rotateDistance 20 2 < rotateDistance 20 c) ∧
    (∀ c ∈ [(2 : CoilNo), 12], rotateDistance 5 7 < rotateDistance 5 c) := by decide

/-- spec/03 R56: PULSE_COIL with width 0 is BAD_VALUE, and with a width its coil waits with owner HOST. -/
theorem test_pulse_coil : answer (.pulseCoil [9, 0]) game = some (.badValue, []) ∧
    (after (.pulseCoil [9, 30]) game).coils[9].live.owner = some .host := by decide +kernel

/-- spec/03 R50: a grant fires the waiting coil and makes its group BUSY. -/
theorem test_grant : let s := after (.grant .a) (enterWaiting 9 .host .direct game)
    s.coils[9].live.state = .firing ∧ s.groupA.state = .busy ∧ s.groupA.last = 9 := by decide +kernel

/-- spec/04 section 4.13: S = 3 with B = 2 installs 3 and raises EXTRA_BALL; with B = 4 one ball is missing. -/
theorem test_enable : (after (.enableDevices [2]) offRig).acct.installed = 3 ∧
    (after (.enableDevices [2]) offRig).isPending .extraBall = true ∧
    (after (.enableDevices [4]) offRig).acct.missing = 1 := by decide +kernel

/-- spec/04 section 4.11, SERVE accepted: the trough owes one, P is 1, the save is ACTIVE with 1500. -/
theorem test_serve :
    let s := { game with acct := { game.acct with phase := .noPlay, live := 0, installed := 3 } }
    let t := after (.serve [0x05, 0xDC, 0]) s
    t.devices[0].live.owed = 1 ∧ t.acct.phase = .serving ∧ t.acct.inPlay = 1 ∧ t.acct.saveTimer.count = 1500 := by
  decide +kernel

/-- spec/04 section 4.12, 17.4 s: a playfield edge with a missing ball finds it. -/
theorem test_missing_ball_found :
    let t := playfieldActivity { game with acct := { game.acct with live := 0, missing := 1 } }
    t.acct.live = 1 ∧ t.acct.missing = 0 ∧ t.isPending .ballFound = true := by decide +kernel

/-- spec/05 R93: player 0 has one lit lock and one credit at a lock of two places, so none of 3 more are lit. -/
theorem test_light_lock : answer (.lightLock [3, 3]) game = some (.ok, [1, 3]) := by decide +kernel

/-- spec/05 R101, R102 with P = 1, C = 1, target 4: one lock ball, no deficit, extra 2. -/
theorem test_start_multiball : answer (.startMultiball [4, 0x08, 0, 0]) game = some (.ok, [4, 1, 0, 2, 2]) := by
  decide +kernel

/-- The windows of spec/06 section 6.8. -/
def fourWindows : State :=
  let ws := (game.windows.set 1 ⟨true, 66, 127, .close, false, 100⟩).set 3 ⟨true, 64, 120, .close, true, 16⟩
  { game with windows := (ws.set 7 ⟨true, 12, 127, .either, false, 40⟩).set 31 ⟨true, 0, 0, .close, false, 255⟩ }

/-- spec/06 section 6.8: the winning windows. -/
theorem test_windows : fourWindows.winningWindow 66 .closing = some 1 ∧ fourWindows.winningWindow 67 .closing = some 3 ∧
    fourWindows.winningWindow 12 .opening = some 7 ∧ fourWindows.winningWindow 3 .closing = some 31 ∧
    fourWindows.winningWindow 64 .opening = none := by decide +kernel

/-- spec/06 section 6.8: 70 in the bank gives award 22. -/
theorem test_award_index : Window.awardIndex ⟨true, 64, 120, .close, true, 16⟩ 70 = 22 := by decide

/-- spec/07 section 7.14: the ninth rollover saturates under ROLL. -/
theorem test_ninth_rollover :
    let s := { game with options := { game.options with policy := .roll },
                         pages := game.pages.set 1 { Page.clear with score := 999999990000, rollover := 9 } }
    answer (.addPoints [1, 0x00, 0x02, 0x00, 0x00, 0]) s =
      some (.ok, [1, 1, 0, 0, 2, 0, 0, 0x99, 0x99, 0x99, 0x99, 0x99, 0x99, 9]) := by decide +kernel

/-- spec/07 section 7.15. -/
theorem test_bonus : completionBonus 1234567 15 = 185180 ∧ completionBonus 1234567 100 = 1234560 ∧
    completionBonus 999999999999 100 = 999999999990 := by decide

/-- spec/07 section 7.17: a step past the floor lands on it and stops the period. -/
theorem test_hurry_step :
    let fall : Template :=
      { mode3 with hurryStart := 1000000, hurryStep := 40000, hurryFloor := 250000, hurryPeriod := 20 }
    let c : Context := { context3 with hurry := 280000, tpl := fall }
    c.hurryStep.hurry = 250000 ∧ c.hurryStep.hurryRemaining = 0 := by decide

/-- spec/07 section 7.18: four nines are clamped to 99. -/
theorem test_clamp : let c : Context := { context3 with tpl := { mode3 with multiplier := 9 } }
    min Config.maxProduct (exactProduct 9 [c, c, c] 1) = 99 ∧ exactProduct 9 [c, c, c] 1 = 6561 := by decide

/-- The award of spec/08 section 8.11: ADVANCE, base 50,000, scoped to mode 8. -/
def advanceAward : State :=
  { game with awards := game.awards.set 40 ⟨.advance, 50000, 8, true, 0, false⟩ }

/-- spec/08 section 8.11: the dispatch scores 300,000, completes mode 8 with 240,000 and chains to mode 9. -/
theorem test_completion_and_chain : let t := dispatch 40 advanceAward
    t.pages[0].score = 5540000 ∧ t.pages[0].last = ⟨8, .completed, 1200000⟩ ∧
      (derived t.pages[0].stack).map (fun x => (x.1.id, x.2)) = [(3, .suspended), (9, .running)] := by decide +kernel

/-- spec/08 R145, the table's fourth row: SUSPENDED, PAUSED, RUNNING. -/
theorem test_derived_states :
    let b : Context := { Context.build 9 mode9 with paused := true }
    (derived [context3, b, context8]).map (·.2) = [.suspended, .paused, .running] := by decide

/-- spec/08 R155: the pushed mode stands at position 2. -/
theorem test_push : answer (.pushMode [9]) game = some (.ok, [2, 0, 3]) ∧
    answer (.pushMode [3]) game = some (.refusedDuplicate, []) := by decide +kernel

/-- spec/09 section 9.10, 0.00 s: the first contact warns and starts the window. -/
theorem test_first_warning : (tiltEvent game).session.warnings = 1 ∧ (tiltEvent game).session.tilt = .warned ∧
    (tiltEvent game).session.swing = ⟨100, true, false⟩ := by decide +kernel

/-- spec/09 section 9.10, 6.20 s: the third warning tilts and ends mode 3, leaving mode 8. -/
theorem test_tilt : let t := tiltEvent (game.modSession fun r => { r with warnings := 2, tilt := .warned })
    t.session.tilt = .tilted ∧ t.isPending .tilted = true ∧ t.isPending .modeEnded = true ∧
      t.pages[0].stack.map (fun c => c.id) = [8] := by decide +kernel

/-- spec/09 section 9.11: a slam closes the session and the bottom context is recorded. -/
theorem test_slam : (slamEvent game).session.state = .closed ∧ (slamEvent game).acct.phase = .ended ∧
    (slamEvent game).pages[0].last.id = 3 := by decide +kernel

/-- spec/02 R41: a pulse that still fires on a coil its device has given up for another reaches no device. -/
theorem test_old_pulse_end_is_disregarded :
    let s : State := { game.modLive 3 fun l => { l with state := .ejecting } with
                       coils := game.coils.set 5 { game.coils[5] with
                         live := { CoilLive.powerOn with state := .firing, owner := some (.device 3), cls := some .eject,
                                                         timer := ⟨1, true, true⟩ } } }
    (after (.pulseEnd 5) s).devices[3] = s.devices[3] := by decide +kernel

/-- spec/04 R69 with R25 and R27: an addition held at 8 still makes the IDLE saucer look for its order. -/
theorem test_recount_takes_the_order_at_8 :
    let s : State := { game.modDevice 2 fun v => { cfg := { v.cfg with holdTime := 0 },
                                                   live := { v.live with owed := 8 } } with
                       switches := game.switches.set 16 closedSwitch, acct := idleRig.acct }
    (after (.recount [4]) s).devices[2].live.owed = 8 ∧ (after (.recount [4]) s).devices[2].live.order = .owed := by
  decide +kernel

/-- spec/00, "Time": a stopped timer keeps its count, and READ_DEVICE shows it at byte 34. -/
theorem test_read_device_shows_a_kept_count :
    let s := game.modLive 2 fun l => { l with settle := ⟨4, false, false⟩ }
    (answer (.readDevice [2]) s).map (fun r => r.2[34]?) = some (some 4) := by decide +kernel

/-- spec/10 section 10.7: a fetch during an execution is an overrun, the executing reply untouched. -/
theorem test_overrun : let s := after (.readSession []) game
    (after (.fetch 3) s).link.lastCause = .overrun ∧ (after (.fetch 3) s).link.executing = s.link.executing := by
  decide +kernel

/-- spec/10 section 10.7: a whole fetch empties the reply, and NO_REPLY is status 09. -/
theorem test_fetch : let s := after .executionEnd (after (.setNoticeEnable [0, 0, 0]) game)
    s.rdy = true ∧ (after (.fetch 3) s).rdy = false ∧
      (after (.fetch 1) (after (.fetch 3) s)).link.shifted = [0xFF, 0xFF, 0xFF, 0x09] := by decide +kernel

/-- spec/10 R186: an initial priority of 16 is stored as 15, a search delay of 9 as 10. -/
theorem test_options_clamp :
    let send : Instr := .setGameOptions [0, 16, 10, 6, 2, 0x0B, 0xB8, 3, 0xE8, 200, 0, 9, 25, 3, 50, 3, 100, 0]
    let t := after send idleRig
    t.options.ejectPriority = 15 ∧ t.options.searchDelay = 10 := by decide +kernel

/-! ### For every obligation with hypotheses, states and operands that meet them -/

theorem witness_StepTakesTheFrontCommand : game.pending = [] := by decide

theorem witness_ScanFrameDebouncesEverySwitch :
    levelOf true = game.switches[0].level ∧ levelOf false ≠ game.switches[0].level ∧
    game.switches[0].pendingFrames + 1 = game.switches[0].openDebounce ∧
    game.switches[0].closeDebounce ≤ 15 ∧ game.switches[0].openDebounce ≤ 15 := by decide +kernel

/-- A TILT switch 90 and one warning short of the limit. -/
def nearTilt : State :=
  { game with switches := game.switches.set 90 { SwitchRec.powerOn with cls := .tilt },
              session := { game.session with warnings := 2, tilt := .warned } }

/-- The game at a frame that brings the 10 ms tick, its switch levels as the word of closed switches 0, 1 and 24. -/
def ticking : State := { game with tickPhase := 9 }

theorem witness_TimersCount : (ticking.tickPhase + 1) % 100 % 10 = 0 ∧ ticking.session.state = .opened ∧
    ticking.acct.phase = .play ∧ 1 ≤ ticking.acct.live ∧ ticking.session.tilt ≠ .tilted ∧
    ticking.pages[ticking.session.current].stack = [] ++ context3 :: [context8] ∧
    (∀ n : SwitchNo, (0x1000003 : BitVec 128).getLsbD n.val = true ↔ ticking.switches[n].level = .closed) := by
  decide +kernel

theorem witness_TiltEventsWarnAndTilt :
    idleRig.session.state = .closed ∧
    (game.modSession fun r => { r with tilt := .tilted }).session.tilt = .tilted ∧
    (game.modSession fun r => { r with swing := ⟨1, true, true⟩ }).session.swing = ⟨1, true, true⟩ ∧
    (game.session.state = .opened ∧ game.session.tilt ≠ .tilted ∧ game.session.swing.running = false ∧
      game.session.warnings + 1 < game.options.limit) ∧
    (nearTilt.switches[90].cls = .tilt ∧ nearTilt.session.state = .opened ∧ nearTilt.session.tilt ≠ .tilted ∧
      nearTilt.session.swing.running = false ∧ nearTilt.options.limit ≤ nearTilt.session.warnings + 1) := by
  decide +kernel

theorem witness_HardwareReadsAnswer : game.link.executing = none ∧ 127 < (128 : Byte).toNat ∧
    7 < (8 : Byte).toNat ∧ 23 < (24 : Byte).toNat ∧ (∀ d : DevNo, game.devices[d].cfg.positions.length ≤ 8) := by
  decide +kernel

theorem witness_SetDeviceOutcome :
    (game.link.executing = none ∧ (List.replicate 20 (0 : Byte)).length = 20 ∧ game.devicesEnabled = true) ∧
    (offRig.link.executing = none ∧ offRig.devicesEnabled = false ∧ ((8 : Byte) :: List.replicate 19 0).length = 20 ∧
      7 < (((8 : Byte) :: List.replicate 19 0).getD 0 0).toNat) ∧
    (kindFits 7 .lock = true ∧ ([24, 25] : List SwitchNo).length = (2 : Byte).toNat ∧
      ([24, 25] : List SwitchNo).length + (List.replicate 6 (0 : Byte)).length = 8 ∧ ([24, 25] : List SwitchNo).Nodup ∧
      (∀ n ∈ ([24, 25] : List SwitchNo), some (26 : SwitchNo) ≠ some n) ∧ Target.playfield.From 7 ∧
      1 ≤ (1 : Byte).toNat ∧ (7 : Byte).toNat ≤ 7) ∧
    (kindFits 1 .shooter = true ∧ ([8] : List SwitchNo).length = 1 ∧
      ([8] : List SwitchNo).length + (List.replicate 7 (0 : Byte)).length = 8 ∧ (Target.device 2).From 1) ∧
    (offRig.link.executing = none ∧ (List.replicate 8 (0xFF : Byte)).length = 8 ∧
      (127 < (128 : Byte).toNat ∧ (128 : Byte) ≠ 0xFF) ∧ 23 < (24 : Byte).toNat ∧
      (7 < (8 : Byte).toNat ∧ (8 : Byte) ≠ 0xFF)) ∧
    (¬ ((2 : DevNo) = 0 ∧ (1 : Byte) = 1) ∧ ¬ ((2 : DevNo) = 1 ∧ (1 : Byte) = 2) ∧
      ¬ (2 ≤ (2 : DevNo).val ∧ ((1 : Byte) = 0 ∨ (1 : Byte) = 3 ∨ (1 : Byte) = 4))) ∧
    (2 ≤ (2 : DevNo).val ∧ ¬ (127 < (0xFF : Byte).toNat ∧ (0xFF : Byte) ≠ 0xFF) ∧ (7 : Byte).toNat ≤ 7) := by
  decide +kernel

theorem witness_EnableAndDisableDevicesOutcome :
    (game.link.executing = none ∧ game.devicesEnabled = true) ∧
    (State.reset.link.executing = none ∧ State.reset.devices[trough].cfg.configured = false) ∧
    (offRig.link.executing = none ∧ offRig.devicesEnabled = false ∧ offRig.devices[trough].cfg.configured = true ∧
      offRig.devices[shooter].cfg.configured = true ∧ offRig.sharedCoil = false ∧ offRig.deadTarget = false ∧
      (0 : Byte).toNat = 0 ∧ 8 < (9 : Byte).toNat) ∧ offRig.DevicesSafe ∧
    (idleRig.link.executing = none ∧ idleRig.session.state = .closed) ∧ game.session.state = .opened := by
  decide +kernel

/-- Every slot QUEUED for the JAMMED saucer. -/
def fullSlots : State :=
  { game.modLive 2 (fun l => { l with state := .jammed }) with
    slots := Vector.ofFn fun n => { Slot.powerOn with state := .queued, device := 2, requested := 1, issue := n.val } }

theorem witness_EjectIssuesASlot : game.link.executing = none ∧ 7 < (8 : Byte).toNat ∧
    game.devices[7].live.state = .disabled ∧
    (fullSlots.link.executing = none ∧ fullSlots.devices[2].live.state ≠ .disabled ∧
      ∀ n : SlotNo, fullSlots.slots[n].state ≠ .idle) ∧
    ((game.modLive 2 fun l => { l with state := .jammed }).devices[2].live.state ≠ .idle ∧ game.slots[0].state = .idle) ∧
    (game.devices[3].live.state = .idle ∧ game.devices[3].live.owed = 0 ∧ game.queuedCount 3 = 0 ∧
      1 ≤ game.devices[3].live.occupancy ∧ game.coils[game.devices[3].cfg.coil].live.state = .idle) ∧
    (game.devices[2].live.state = .idle ∧ game.queuedCount 2 = 0 ∧ game.devices[2].live.occupancy = 0) ∧
    (let s := enterWaiting 3 .host .direct game
     s.devices[3].live.state = .idle ∧ 1 ≤ s.devices[3].live.occupancy ∧
      s.coils[s.devices[3].cfg.coil].live.state ≠ .idle) := by
  decide +kernel

/-- Lock device 3 works on slot 0, its coil request waiting. -/
def ejecting : State := after (.eject [3, 1]) game |>.modLink fun _ => .powerOn

/-- The same with the pulse granted. -/
def firing : State := after (.grant .a) ejecting

/-- The same with its pulse over, in CONFIRMING, or with its coil between two pulses or holding. -/
def confirming : State := ejecting.modLive 3 fun l => { l with state := .confirming }
def between : State := firing.modCoilLive 3 fun l => { l with state := .recovering, interval := true }
def holding : State := firing.modCoilLive 3 fun l => { l with state := .holding }

theorem witness_CancelEjectsOutcome : ejecting.link.executing = none ∧ 7 < (8 : Byte).toNat ∧
    (fullSlots.slots[7].state = .queued ∧ fullSlots.slots[7].device = 2 ∧ fullSlots.devices[2].live.order ≠ .slot 7 ∧
      fullSlots.devices[2].live.state = .jammed) ∧
    game.devices[3].live.state = .idle ∧ confirming.devices[3].live.state = .confirming ∧
    (ejecting.devices[3].live.state = .ejecting ∧ ejecting.stage ejecting.devices[3].cfg.coil 3 = .queued ∧
      ejecting.devices[3].live.owed = 0 ∧ ejecting.devices[3].live.order = .slot 0 ∧
      ejecting.slots[0].state = .active ∧ ejecting.coils[3].live.state = .waiting ∧
      ejecting.coils[3].live.owner = some (.device 3) ∧ ejecting.coils[3].live.pulses = 0 ∧
      ejecting.coils[3].live.held = none) ∧
    firing.stage 3 3 = .firing ∧ between.stage 3 3 = .between ∧ holding.stage 3 3 = .holding := by decide +kernel

theorem witness_ClearJamReturnsToService : game.link.executing = none ∧ 7 < (8 : Byte).toNat ∧
    game.devices[3].live.clearable = false ∧
    (fullSlots.devices[2].live.state = .jammed ∧
      fullSlots.acct.installed + (fullSlots.closedCount 2 - fullSlots.devices[2].live.occupancy) ≤ 16) ∧
    ((game.modLive 3 fun l => { l with countFault := true }).devices[3].live.state = .idle) := by decide +kernel

/-- The lock's settle timer has expired, with one closed switch fewer than balls accounted. -/
def settled : State := game.modLive 3 fun l => { l with settle := ⟨1, true, true⟩, occupancy := 2 }

/-- Device 4 is a lock without an entry switch, confirming a slot order, its settle timer expired. -/
def leaving : State :=
  (game.modDevice 4 fun _ =>
    { device .lock [32, 33] none 4 .playfield 1 with
      live := { DeviceLive.powerOn with
                  state := .confirming, occupancy := 1, order := .slot 2, attemptCount := 1, intended := 1,
                  settle := ⟨1, true, true⟩, confirm := ⟨9, true, false⟩ } }).modSlot 2 fun _ =>
    { state := .active, device := 4, requested := 2, ejected := 0, result := .none, issue := 0 }

/-- The same device serving an OWED order whose ball has come back. -/
def fallen : State :=
  { leaving.modLive 4 (fun l =>
      { l with order := .owed, owed := 1, exitsInOrder := 1, occupancy := 0 }) with
    switches := leaving.switches.set 32 closedSwitch,
    acct := { leaving.acct with flights := [⟨4, .playfield, 0, 20, .eject, false⟩] } }

/-- The saucer found with a ball: its settle timer expired, its hold timer at `t`, its hold time `h`. -/
def filling (h : Nat) (t : Timer) : State :=
  { game.modDevice 2 fun v => { cfg := { v.cfg with holdTime := h },
                                live := { v.live with settle := ⟨1, true, true⟩, hold := t } } with
    switches := game.switches.set 16 closedSwitch }

/-- The same with 16 balls installed, all of them in other devices. -/
def overfull : State := { filling 50 .stopped with acct := { game.acct with installed := 16, live := 0 } }

/-- The saucer found empty. -/
def emptied : State := { (filling 50 ⟨7, true, false⟩).modLive 2 fun l => { l with occupancy := 1 } with
                         switches := game.switches }

theorem witness_EvaluationCountsTheDevice : settled.devices[3].live.settle.running = true ∧
    settled.devices[3].live.settle.due = true ∧
    settled.acct.installed + (settled.closedCount 3 - settled.devices[3].live.occupancy) ≤ Config.maxInstalled ∧
    game.Conserved ∧ (leaving.devices[4].live.settle.due = true ∧ leaving.devices[4].cfg.entry = none ∧
      leaving.closedCount 4 ≤ leaving.devices[4].live.occupancy) ∧
    (overfull.devices[2].live.settle = ⟨1, true, true⟩ ∧ overfull.devices[2].cfg.entry = none ∧
      overfull.devices[2].live.order = .none ∧ overfull.acct.flights = [] ∧ 16 ≤ overfull.acct.installed ∧
      overfull.devices[2].live.occupancy + overfull.acct.live + overfull.acct.missing < overfull.closedCount 2) ∧
    (∀ h ∈ [0, 50], (filling h .stopped).devices[2].cfg.kind = .saucer ∧
      (filling h .stopped).devices[2].live.settle = ⟨1, true, true⟩ ∧ (filling h .stopped).devices[2].cfg.entry = none ∧
      (filling h .stopped).devices[2].live.state = .idle ∧ (filling h .stopped).devices[2].live.order = .none ∧
      (filling h .stopped).acct.installed < 16 ∧ (filling h .stopped).devices[2].live.occupancy = 0 ∧
      (filling h .stopped).closedCount 2 = 1 ∧ (filling h .stopped).devices[2].live.hold.running = false ∧
      (filling h .stopped).devices[2].cfg.holdTime = h) ∧
    (filling 50 ⟨7, true, false⟩).devices[2].live.hold.running = true ∧ emptied.closedCount 2 = 0 := by
  decide +kernel

theorem witness_ExitsAndFallbacksMeetTheOrder :
    (leaving.devices[4].live.settle.running = true ∧ leaving.devices[4].live.settle.due = true ∧
      leaving.devices[4].live.state = .confirming ∧ leaving.devices[4].live.order = .slot 2 ∧
      leaving.devices[4].live.stopPending = false ∧ leaving.devices[4].cfg.entry = none ∧
      leaving.devices[4].live.attemptExits = 0 ∧ leaving.devices[4].live.intended = 1 ∧
      leaving.devices[4].live.occupancy = leaving.closedCount 4 + 1 ∧ leaving.slots[2].state = .active ∧
      leaving.slots[2].ejected < leaving.slots[2].requested ∧ leaving.closedCount 4 = 0) ∧
    (fallen.devices[4].live.settle.running = true ∧ fallen.devices[4].live.settle.due = true ∧
      fallen.devices[4].live.state = .confirming ∧ fallen.devices[4].live.order = .owed ∧
      fallen.devices[4].live.stopPending = false ∧ 1 ≤ fallen.devices[4].live.exitsInOrder ∧
      fallen.devices[4].live.confirm.running = true ∧
      fallen.devices[4].live.attemptCount < fallen.devices[4].cfg.maxAttempts ∧ fallen.devices[4].cfg.entry = none ∧
      fallen.closedCount 4 = fallen.devices[4].live.occupancy + 1 ∧
      fallen.acct.flights = [] ++ ⟨4, .playfield, 0, 20, .eject, false⟩ :: []) := by decide +kernel

/-- Device 4 whose confirm timer has expired: unconfirmed, at `n` attempts, on an OWED order. -/
def unconfirmed (n : Nat) : State := leaving.modLive 4 fun l =>
  { l with confirm := ⟨1, true, true⟩, attemptCount := n, order := .owed }

/-- The same with the attempt on its slot order confirmed. -/
def confirmed : State := leaving.modLive 4 fun l => { l with confirm := ⟨1, true, true⟩, attemptConfirmed := true }

/-- The saucer with a ball whose hold has expired. -/
def held (st : DeviceState) : State := game.modLive 2 fun l =>
  { l with state := st, occupancy := 1, hold := ⟨1, true, true⟩ }

/-- Device 4 EJECTING, one ball gone of the `n` its slot asks for and `m` left, its coil of profile `p` at work
as `f` says. -/
def exiting (p : Profile) (n m : Nat) (f : CoilLive → CoilLive) : State :=
  let s := (leaving.modLive 4 fun l => { l with state := .ejecting, occupancy := m + 1 }).modSlot 2 fun x =>
    { x with requested := n }
  let s := s.modCoil 4 fun v =>
    { cfg := { v.cfg with profile := p, recovery := 5 },
      live := f { v.live with owner := some (.device 4), cls := some .eject } }
  { s with switches := if m = 0 then s.switches else s.switches.set 32 closedSwitch }

theorem witness_ExitsInEjectingFollowTheProfile :
    (let f : CoilLive → CoilLive := fun l => { l with state := .waiting }
     (exiting .pulse 1 0 f).devices[4].live.settle = ⟨1, true, true⟩ ∧
      (exiting .pulse 1 0 f).devices[4].cfg.entry = none ∧
      (exiting .pulse 1 0 f).closedCount 4 < (exiting .pulse 1 0 f).devices[4].live.occupancy ∧
      (exiting .pulse 1 0 f).devices[4].live.order = .slot 2 ∧ (exiting .pulse 1 0 f).stage 4 4 = .queued ∧
      (exiting .pulse 1 0 f).slots[2].requested = 1 ∧ (exiting .pulse 1 0 f).slots[2].ejected + 1 = 1 ∧
      (exiting .pulse 1 0 f).coils[4].live.held = none ∧ (exiting .pulse 1 0 f).devices[4].live.stopPending = false) ∧
    ((exiting .pulse 1 0 fun l => { l with state := .recovering, owner := none, held := some 4 }).stage 4 4 = .queued ∧
      (exiting .pulse 2 1 fun l => { l with state := .waiting }).closedCount 4 = 1) ∧
    (∀ p ∈ [Profile.pulse, .repeating, .holdRelease],
      (exiting p 2 1 fun l => { l with state := .firing, pulses := 1 }).stage 4 4 = .firing) ∧
    (exiting .holdRelease 2 1 fun l => { l with state := .holding }).stage 4 4 = .holding ∧
    (exiting .repeating 2 1 fun l => { l with state := .recovering, interval := true, pulses := 1 }).stage 4 4 =
      .between ∧
    (let s := leaving.modLive 4 fun l => { l with stopPending := true }
     s.devices[4].live.state = .confirming ∧ s.slots[2].state = .active ∧ s.devices[4].live.owed = 0 ∧
      s.queuedCount 4 = 0) ∧
    (let s := (exiting .pulse 1 0 fun l => { l with state := .waiting }).modLive 4 fun l =>
       { l with order := .owed, owed := 1 }
     s.stage s.devices[4].cfg.coil 4 = .queued ∧ s.coils[s.devices[4].cfg.coil].live.held = none ∧
      s.devices[4].live.owed ≤ s.devices[4].live.occupancy - s.closedCount 4) := by decide +kernel

theorem witness_DeviceEdgesAndTimers :
    ((ejecting.modLive 3 fun l => { l with confirm := ⟨1, true, true⟩ }).devices[3].live.state = .ejecting) ∧
    (confirmed.devices[4].live.confirm = ⟨1, true, true⟩ ∧ confirmed.devices[4].live.state = .confirming ∧
      confirmed.devices[4].live.stopPending = false ∧ confirmed.devices[4].live.attemptConfirmed = true ∧
      confirmed.devices[4].live.order = .slot 2 ∧ confirmed.slots[2].state = .active ∧
      confirmed.devices[4].live.owed = 0 ∧ confirmed.queuedCount 4 = 0) ∧
    ((unconfirmed 2).devices[4].live.confirm = ⟨1, true, true⟩ ∧ (unconfirmed 2).devices[4].live.attemptConfirmed = false ∧
      (unconfirmed 2).devices[4].live.state = .confirming ∧
      (unconfirmed 2).devices[4].live.attemptCount < (unconfirmed 2).devices[4].cfg.maxAttempts ∧
      (unconfirmed 2).coils[(unconfirmed 2).devices[4].cfg.coil].live.state = .idle) ∧
    ((unconfirmed 3).devices[4].cfg.maxAttempts ≤ (unconfirmed 3).devices[4].live.attemptCount ∧
      (unconfirmed 3).devices[4].live.order = .owed) ∧
    ((held .jammed).devices[2].live.hold = ⟨1, true, true⟩ ∧ (held .jammed).devices[2].live.state ≠ .disabled) ∧
    ((held .idle).devices[2].live.state = .idle ∧ 1 ≤ (held .idle).devices[2].live.occupancy ∧
      (held .idle).coils[(held .idle).devices[2].cfg.coil].live.state = .idle) ∧
    (game.switches[5].cls = .unused ∧ game.switches[24].cls = .device ∧ game.switches[24].selection = .none ∧
      (24 : SwitchNo) ∈ game.devices[3].cfg.positions ∧ game.devices[3].cfg.entry = some 26 ∧
      game.devices[3].live.state ≠ .disabled ∧ game.devices[4].live.state = .disabled) := by
  decide +kernel

theorem witness_CoilRequestsOutcome :
    (game.link.executing = none ∧ 23 < (24 : Byte).toNat ∧
    ejecting.coils[3].live.state ≠ .idle ∧ confirming.devices[3].live.state = .confirming ∧
    (game.coils[23].live.state = .idle ∧ game.coils[23].live.held = none ∧
      ∀ d : DevNo, game.devices[d].cfg.coil ≠ 23) ∧
    1 < (2 : Byte).toNat ∧ 2 < (3 : Byte).toNat ∧ (20 : Byte).toNat ≤ (20 : Byte).toNat ∧
    15 < (16 : Byte).toNat) ∧
    (game.link.executing = none ∧ 23 < (24 : Byte).toNat ∧ (1 : Byte) ≠ 0 ∧
    ejecting.coils[3].live.state ≠ .idle ∧ game.coils[23].live.state = .idle ∧
    (∀ d : DevNo, game.devices[d].cfg.coil = 23 →
      game.devices[d].live.state ≠ .ejecting ∧ game.devices[d].live.state ≠ .confirming)) := by
  decide +kernel

theorem witness_GrantFiresTheWinner : (ejecting.group .a).state = .free ∧
    (ejecting.coils[3].live.state = .waiting ∧ ejecting.coils[3].cfg.group = .a) ∧
    (firing.group .a).state ≠ .free ∧
    (∀ c : CoilNo, game.coils[c].cfg.group = .a → game.coils[c].live.state ≠ .waiting) := by decide +kernel

/-- The lock's coil in its recovery or its interval, the timer expired, with the request of device `h` held. -/
def recovering (interval : Bool) (h : Option DevNo) : State := firing.modCoilLive 3 fun l =>
  { l with state := .recovering, interval := interval, held := h, timer := ⟨1, true, true⟩ }

theorem witness_ArbiterExpiriesMoveOn :
    ((ejecting.modCoilLive 3 fun l => { l with ageDue := true }).coils[3].live.state = .waiting) ∧
    ({ game with groupA := ⟨.gap, ⟨1, true, true⟩, 3⟩ } : State).groupA.gap.due = true ∧
    ({ game with groupB := ⟨.gap, ⟨1, true, true⟩, 3⟩ } : State).groupB.state = .gap ∧
    ((recovering true none).coils[3].live.state = .recovering ∧ (recovering true none).coils[3].live.interval = true ∧
      (recovering true none).coils[3].live.timer.due = true ∧ (recovering true none).coils[3].live.cls = some .eject) ∧
    ((recovering false (some 3)).coils[3].live.state = .recovering ∧
      (recovering false (some 3)).coils[3].live.interval = false ∧
      (recovering false (some 3)).coils[3].live.timer.due = true) := by decide +kernel

/-- The lock's coil at the end of its pulse, with profile `p`, limit `n`, recovery and hold window 5. -/
def pulsed (p : Profile) (n : Nat) : State := firing.modCoil 3 fun v =>
  { cfg := { v.cfg with profile := p, repeatLimit := n, recovery := 5, holdWindow := 5, repeatPeriod := 9 },
    live := { v.live with timer := ⟨1, true, true⟩ } }

theorem witness_PulseEndsMoveCoilAndDevice :
    ((pulsed .pulse 1).coils[3].live.state = .firing ∧ (pulsed .pulse 1).coils[3].live.timer.due = true ∧
      (pulsed .pulse 1).options.groupGap ≠ 0 ∧ (pulsed .pulse 1).coils[3].cfg.recovery ≠ 0 ∧
      (pulsed .pulse 1).coils[3].cfg.profile = .pulse) ∧
    ((firing.modCoilLive 3 fun l => { l with timer := ⟨1, true, true⟩ }).coils[3].cfg.recovery = 0 ∧
      firing.coils[3].live.held = none) ∧
    ((pulsed .repeating 2).coils[3].live.cls = some .eject ∧ (pulsed .repeating 2).coils[3].live.ending = false ∧
      (pulsed .repeating 2).coils[3].live.pulses < (pulsed .repeating 2).coils[3].cfg.repeatLimit) ∧
    (pulsed .repeating 1).coils[3].cfg.repeatLimit ≤ (pulsed .repeating 1).coils[3].live.pulses ∧
    ((pulsed .holdRelease 1).coils[3].cfg.profile = .holdRelease ∧
      (pulsed .holdRelease 1).coils[3].live.ending = false ∧ (pulsed .holdRelease 1).coils[3].cfg.holdWindow ≠ 0) ∧
    ((pulsed .pulse 1).coils[3].live.owner = some (.device 3) ∧ (pulsed .pulse 1).coils[3].live.held = none ∧
      (pulsed .pulse 1).devices[3].live.state = .ejecting) ∧
    (holding.coils[3].live.state = .holding ∧ holding.devices[3].live.state = .ejecting ∧
      holding.coils[3].live.owner = some (.device 3)) ∧
    ((pulsed .pulse 1).devices[3].cfg.coil = 3 ∧
      ((pulsed .pulse 1).modCoilLive 3 fun l => { l with held := some 3 }).coils[3].live.held = some 3 ∧
      ((pulsed .pulse 1).modLive 3 fun l => { l with state := .idle }).coils[3].live.owner = some (.device 3) ∧
      ((pulsed .pulse 1).modLive 3 fun l => { l with state := .disabled }).devices[3].live.state = .disabled ∧
      ((pulsed .pulse 1).modDevice 3 fun v => { v with cfg := { v.cfg with coil := 5 } }).devices[3].cfg.coil ≠ 3) ∧
    (let s := (pulsed .holdRelease 1).modCoilLive 3 fun l => { l with state := .holding }
     s.coils[3].live.timer.due = true ∧ s.coils[3].cfg.recovery ≠ 0 ∧ s.coils[3].live.held = none) := by
  decide +kernel

/-- One ball in flight to the open playfield and one to the shooter lane, both flight times over. -/
def toField : FlightRec := ⟨1, .playfield, 0, 1, .launch, true⟩
def toLane : FlightRec := ⟨0, .device 1, 0, 1, .eject, true⟩
def flying : State := { game with acct := { game.acct with live := 0, flights := [toLane, toField] } }
def fieldSwitch : State := { flying with switches := flying.switches.set 40 { SwitchRec.powerOn with cls := .playfield } }

theorem witness_BallsInFlightSettle :
    (flying.acct.flights = [] ++ toLane :: [toField] ∧ toLane.due = true ∧ toLane.target = .device 1) ∧
    (flying.acct.flights = [toLane] ++ toField :: [] ∧ toField.due = true ∧ toField.target = .playfield) ∧
    (fieldSwitch.switches[40].cls = .playfield ∧ fieldSwitch.switches[40].selection = .none ∧
      (∀ d : DevNo, (40 : SwitchNo) ∉ fieldSwitch.devices[d].cfg.positions ∧
        fieldSwitch.devices[d].cfg.entry ≠ some 40) ∧
      fieldSwitch.acct.flights = [toLane] ++ toField :: [] ∧ (∀ x ∈ [toLane], x.target ≠ .playfield)) ∧
    ((∀ x ∈ game.acct.flights, x.target ≠ .playfield) ∧ game.acct.missing = 0) ∧
    (∀ x ∈ ({ game with acct := { game.acct with missing := 1, flights := [toLane] } } : State).acct.flights,
      x.target ≠ .playfield) := by decide +kernel

theorem witness_AttributionFollowsTheOrder :
    (flying.acct.flights = [] ++ toLane :: [toField] ∧ toLane.target = .device 1) ∧
    ((∀ x ∈ game.acct.flights, x.target ≠ .device 1) ∧ 1 ≤ game.acct.live) ∧
    ((∀ x ∈ flying.acct.flights, x.target ≠ .device 3) ∧ flying.acct.live = 0 ∧
      flying.acct.flights = [toLane] ++ toField :: [] ∧ (∀ x ∈ [toLane], x.target ≠ .playfield)) ∧
    (idleRig.acct.flights = [] ∧ idleRig.acct.live = 0 ∧ idleRig.acct.missing = 0 ∧ idleRig.acct.installed < 16) ∧
    16 ≤ ({ idleRig with acct := { idleRig.acct with installed := 16 } } : State).acct.installed := by decide +kernel

/-- A ball found in the shooter lane in phase `ph`. -/
def entering (ph : PlayPhase) : State :=
  { game.modLive 1 fun l => { l with settle := ⟨1, true, true⟩ } with
    switches := game.switches.set 8 closedSwitch, acct := { game.acct with phase := ph } }

/-- A ball found gone from device `d`, the shooter lane or the trough, in phase `ph`. -/
def gone (d : DevNo) (ph : PlayPhase) : State :=
  { game.modDevice d fun v => { cfg := { v.cfg with target := .playfield },
                                live := { v.live with settle := ⟨1, true, true⟩, occupancy := 3 } } with
    acct := { game.acct with phase := ph } }

theorem witness_BallsInPlayDecideThePhase : game.acct.phase = .play ∧
    (game.ballsInPlay ≤ 1 ∧ 2 ≤ ({ game with acct := { game.acct with live := 2 } } : State).ballsInPlay ∧
      ({ game with acct := { game.acct with live := 0 } } : State).ballsInPlay = 0) ∧
    ({ game with acct := { game.acct with live := 0, phase := .serving } } : State).ballsInPlay = 0 ∧
    idleRig.acct.phase = .noPlay ∧
    (∀ ph ∈ [PlayPhase.serving, .play, .noPlay],
      (entering ph).devices[shooter].live.settle = ⟨1, true, true⟩ ∧ (entering ph).devices[shooter].cfg.entry = none ∧
      (entering ph).devices[shooter].live.order = .none ∧ (entering ph).devices[shooter].live.state ≠ .disabled ∧
      (entering ph).acct.installed < 16 ∧ (entering ph).devices[shooter].cfg.kind = .shooter ∧
      (entering ph).closedCount shooter = (entering ph).devices[shooter].live.occupancy + 1 ∧
      (entering ph).acct.phase = ph) ∧
    ((gone shooter .launchWait).devices[shooter].live.settle = ⟨1, true, true⟩ ∧
      (gone shooter .launchWait).devices[shooter].cfg.entry = none ∧
      (gone shooter .launchWait).closedCount shooter < (gone shooter .launchWait).devices[shooter].live.occupancy ∧
      (gone trough .serving).closedCount trough < (gone trough .serving).devices[trough].live.occupancy ∧
      (gone trough .serving).devices[trough].cfg.target ≠ .device shooter ∧ (gone 3 .play).closedCount 3 < 3) := by
  decide +kernel

/-- Ball save in a state, its timer expired. -/
def saving (st : SaveState) : State :=
  { game with acct := { game.acct with saveState := st, saveTimer := ⟨1, true, true⟩ } }

theorem witness_BallSaveOutcome :
    ((saving .active).acct.saveTimer = ⟨1, true, true⟩ ∧ (saving .active).acct.saveState = .active ∧
      (saving .active).options.graceTime ≠ 0) ∧ (saving .grace).acct.saveState = .grace ∧
    (game.link.executing = none ∧ game.acct.phase = .play ∧ idleRig.acct.phase ≠ .play) ∧
    ((saving .active).acct.phase = .play ∧ (saving .active).session.tilt ≠ .tilted ∧
      (saving .active).options.saveLimit = 0 ∧ (saving .active).devices[trough].live.state ≠ .disabled) ∧
    game.acct.saveState = .off := by decide +kernel

/-- A search whose timer has expired, in round `r`, slow or not, the last member being `l`. -/
def searching (r : Nat) (slow : Bool) (l : Option CoilNo) : State :=
  { game with acct := { game.acct with search := .searching, round := r, searchTimer := ⟨1, true, true⟩,
                                       searchSlow := slow, lastSearch := l } }

theorem witness_SearchOutcome :
    (({ game with acct := { game.acct with idleTimer := ⟨1, true, true⟩ } } : State).acct.idleTimer.due = true) ∧
    (game.link.executing = none ∧ game.acct.phase = .play ∧ game.acct.search = .idle) ∧ idleRig.acct.phase ≠ .play ∧
    ((searching 1 false none).acct.search = .searching ∧ (searching 1 false none).acct.searchTimer = ⟨1, true, true⟩ ∧
      1 ≤ (searching 1 false none).ballsInPlay) ∧
    ((searching 1 false none).isMember 0 = true ∧ (searching 1 false none).passedOver 0 = false ∧
      (searching 1 false none).coils[0].live.state = .idle) ∧
    ((searching 3 false (some 3)).acct.round = (searching 3 false (some 3)).options.roundLimit ∧
      ∀ e : CoilNo, 3 < e → (searching 3 false (some 3)).isMember e = false) ∧
    (searching 4 true none).acct.searchSlow = true ∧
    ((searching 1 false none).passedOver 3 = true ∧ (searching 1 false none).coils[3].cfg.searchFlag = false ∧
      (searching 1 false none).devices[3].cfg.kind = .lock ∧ 1 ≤ (searching 1 false none).devices[3].live.occupancy) ∧
    ((searching 1 false (some 2)).acct.round < (searching 1 false (some 2)).options.roundLimit ∧
      ∀ e : CoilNo, 2 < e → (searching 1 false (some 2)).isMember e = false ∨
        (searching 1 false (some 2)).passedOver e = true) ∧
    (searching 4 false (some 3)).options.roundLimit < (searching 4 false (some 3)).acct.round := by
  decide +kernel

/-- The saucer found with a ball while no ball is in play. -/
def found (h : Nat) : State := { filling h .stopped with acct := idleRig.acct }

theorem witness_RecountSetsUpTheCountsAfresh : idleRig.link.executing = none ∧ offRig.devicesEnabled = false ∧
    game.acct.phase = .play ∧ (idleRig.devicesEnabled = true ∧ idleRig.acct.phase ≠ .play) ∧
    (0 : Byte).toNat = 0 ∧ 8 < (9 : Byte).toNat ∧ 1 ≤ (1 : Byte).toNat ∧ (8 : Byte).toNat ≤ 8 ∧
    (({ ejecting with acct := idleRig.acct } : State).devices[3].live.state = .ejecting) ∧
    (∀ d : DevNo, idleRig.devices[d].live.state ≠ .ejecting ∧ idleRig.devices[d].live.state ≠ .confirming) ∧
    idleRig.DevicesSafe := by
  decide +kernel

/-- The clauses of the same statement about a SAUCER that fills, at hold time 0 and 50. -/
theorem witness_RecountSetsUpTheCountsAfresh_saucer :
    (∀ h ∈ [0, 50], (found h).devices[2].cfg.kind = .saucer ∧ (found h).closedCount 2 = 1 ∧
      (found h).devices[2].live.occupancy = 0 ∧ (found h).devices[2].cfg.holdTime = h ∧
      (found h).devices[2].live.state = .idle) ∧ (found 0).DevicesSafe ∧ (found 50).DevicesSafe :=
  ⟨by decide +kernel, by decide +kernel, by decide +kernel⟩

/-- The session OPEN between balls, with `n` balls in the shooter lane. -/
def between2 (n : Nat) : State :=
  { idleRig.modLive 1 (fun l => { l with occupancy := n }) with session := game.session }

theorem witness_ServeOutcome : (between2 0).link.executing = none ∧ idleRig.session.state = .closed ∧
    game.acct.phase ≠ .noPlay ∧ game.acct.phase ≠ .ended ∧
    ((between2 0).session.state = .opened ∧ (between2 0).acct.phase = .noPlay ∧ (between2 0).acct.live = 0 ∧
      (between2 0).acct.flights = [] ∧ (∀ d : DevNo, (between2 0).devices[d].live.owed = 0) ∧
      (∀ n : SlotNo, (between2 0).slots[n].state ≠ .active) ∧ 1 ≤ (between2 0).devices[trough].live.occupancy ∧
      (between2 0).devices[trough].live.state ≠ .disabled ∧ (between2 0).devices[shooter].live.state ≠ .disabled ∧
      (between2 0).acct.round = 0) ∧ 1 ≤ (between2 1).devices[shooter].live.occupancy ∧
    0 < ({ between2 0 with acct := { idleRig.acct with live := 1 } } : State).acct.live ∧
    ((between2 0).modLive 0 fun l => { l with occupancy := 0 }).devices[trough].live.occupancy = 0 := by
  decide +kernel

theorem witness_GameReadsAnswer : game.link.executing = none ∧ 15 < (16 : Byte).toNat ∧ (15 : Byte).toNat ≤ 15 ∧
    flying.acct.flights[0 + 1]? = some toField ∧ (∀ p : PlayerNo, game.pages[p].stack.length ≤ 8) ∧
    3 < (4 : Byte).toNat ∧ game.devices[lockDevice 1].cfg.kind = .lock ∧ 31 < (32 : Byte).toNat ∧
    game.pages[0].stack = [context3] ++ context8 :: [] ∧ game.pages[0].stack.length ≤ (2 : Byte).toNat := by
  decide +kernel

theorem witness_LockDecisionsAndLighting :
    ((3 : DevNo) = lockDevice 1 ∧ game.devices[3].cfg.kind = .lock ∧ game.devices[3].live.state ≠ .disabled ∧
      game.acct.phase = .play ∧ game.session.tilt ≠ .tilted ∧ game.devices[3].live.order = .none ∧
      game.devices[3].live.owed = 0 ∧ game.pages[0].lit[1] = 1) ∧ game.ballsInPlay ≠ 0 ∧
    (({ game with acct := { game.acct with live := 0 } } : State).ballsInPlay = 0 ∧
      game.devices[trough].live.state ≠ .disabled) ∧ idleRig.acct.phase ≠ .play ∧
    (game.link.executing = none ∧ 7 < (8 : Byte).toNat ∧ idleRig.session.state = .closed ∧
      game.session.state = .opened ∧ game.devices[2].cfg.kind ≠ .lock ∧ (1 : Byte) ≠ 0) := by decide +kernel

theorem witness_StartMultiballSourcesBalls : game.link.executing = none ∧ idleRig.acct.phase ≠ .play ∧
    (game.acct.phase = .play ∧ game.session.tilt ≠ .tilted ∧ 1 ≤ game.ballsInPlay ∧
      game.devices[trough].live.state ≠ .disabled ∧
      (∀ d : DevNo, game.devices[d].cfg.kind = .lock → game.devices[d].live.state ≠ .disabled) ∧
      (∀ d : DevNo, game.devices[d].live.owed ≤ 8)) ∧ word16 0 0 = 0 ∧ word16 0 1 ≠ 0 := by decide +kernel

theorem witness_SwitchWindowAndAwardRequests :
    (game.link.executing = none ∧ 127 < (128 : Byte).toNat ∧ 5 < (6 : Byte).toNat ∧
    3 < (4 : Byte).toNat ∧
    (game.devicesEnabled = true ∧ ∃ d : DevNo, (26 : SwitchNo) ∈ game.devices[d].cfg.positions ∨
      game.devices[d].cfg.entry = some 26)) ∧
    (game.link.executing = none ∧ 31 < (32 : Byte).toNat ∧
    1 < (2 : Byte).toNat ∧ 127 < (128 : Byte).toNat ∧ 2 < (3 : Byte).toNat ∧ 99999999 ≤ Config.maxValue ∧
    9 < (10 : Byte).toNat ∧ 63 < (64 : Byte).toNat ∧ bcdValid [0, 0, 0x0A, 0] = false ∧ (63 : Byte).toNat ≤ 63 ∧
    (1 : Byte).toNat ≤ 1) := by
  decide +kernel

theorem witness_LowestWindowWins : fourWindows.winningWindow 66 .closing = some 1 ∧
    (∀ i : Fin 32, game.windows[i].enabled = false) ∧ fourWindows.windows[3].translate = true ∧
    fourWindows.windows[1].translate = false := by decide +kernel

theorem witness_DispatchScoresTheProduct : idleRig.session.state = .closed ∧
    (game.session.state = .opened ∧ game.session.tilt ≠ .tilted) ∧
    ({ game with awards := game.awards.set 1 ⟨.notify, 0, 0, false, 0, true⟩ } : State).awards[1].notify = true ∧
    (let s : State := { game with awards := game.awards.set 1 ⟨.points, 10, 9, true, 0, false⟩ }
     s.awards[1].scope ≠ 0 ∧ s.awards[1].requiresRunning = true ∧
      runningContext s.pages[s.session.current].stack s.awards[1].scope = none) ∧
    (let s : State := { game with awards := game.awards.set 1 ⟨.points, 10, 8, true, 0, false⟩ }
     s.awards[1].kind = .points ∧ s.awards[1].notify = false ∧ s.awards[1].scope = context8.id ∧ context8.id ≠ 0 ∧
      runningContext s.pages[s.session.current].stack context8.id = some context8 ∧
      context8.tpl.scope = .localScope) := by decide +kernel

/-- The game with award 1 of kind `k`, base 10, scope and argument as given. -/
def awarding (k : AwardKind) (scope argument : Nat) : State :=
  { game with awards := game.awards.set 1 { kind := k, base := 10, scope := scope, requiresRunning := true,
                                            argument := BitVec.ofNat 8 argument, notify := false } }

theorem witness_AwardKindsTakeTheirEffects :
    (game.session.state = .opened ∧ game.session.tilt ≠ .tilted ∧ (awarding .pfMult 0 0).awards[1].notify = false ∧
      (awarding .pfMult 0 0).awards[1].scope = 0) ∧
    ((awarding .lightLock 0 3).awards[1].argument = byte (lockDevice 1).val ∧
      game.devices[lockDevice 1].cfg.kind = .lock ∧
      ∀ k : LockNo, (awarding .lightLock 0 0).awards[1].argument ≠ byte (lockDevice k).val) ∧
    ((awarding .startMode 0 9).awards[1].argument = byte ((8 : Fin 63).val + 1) ∧
      game.templates[(8 : Fin 63)] = some mode9 ∧
      (∀ c ∈ game.pages[game.session.current].stack, c.id ≠ (8 : Fin 63).val + 1) ∧
      game.pages[game.session.current].stack.length < 8 ∧ 63 < (awarding .startMode 0 64).awards[1].argument.toNat ∧
      ∃ c ∈ game.pages[game.session.current].stack, c.id = (2 : Fin 63).val + 1) ∧
    (game.acct.phase = .play ∧ 1 ≤ game.ballsInPlay ∧ game.devices[trough].live.state ≠ .disabled ∧
      game.devices[trough].live.owed ≤ 8 ∧
      (∀ d : DevNo, game.devices[d].cfg.kind = .lock → game.devices[d].live.state ≠ .disabled) ∧
      idleRig.acct.phase ≠ .play) ∧
    ((awarding .advance 8 0).awards[1].scope = context8.id ∧ context8.id ≠ 0 ∧
      game.pages[game.session.current].stack = [context3] ++ context8 :: [] ∧
      (∀ x ∈ [context3] ++ [], x.id ≠ context8.id) ∧
      context8.paused = false ∧ 0 < context8.tpl.goal ∧ context8.tpl.goal ≤ context8.progress + 1 ∧
      context3.tpl.goal = 0 ∧ ({ context8 with progress := 2 } : Context).progress + 1 < context8.tpl.goal) := by
  decide +kernel

theorem witness_ScoreAdditionFollowsThePolicy :
    game.pages[0].score + 999999999999 - game.pages[0].score ≤ 999999999999 ∧
    999999999999 < game.pages[0].score + 999999999990 ∧ game.options.policy = .saturate ∧
    (let s : State := { game with options := { game.options with policy := .roll } }
     s.options.policy = .roll ∧ s.pages[0].rollover ≤ 8 ∧ s.pages[0].score ≤ 999999999999) := by decide +kernel

theorem witness_AddPointsOutcome : game.link.executing = none ∧ (99999999 : Nat) ≤ 99999999 ∧ 3 < (4 : Byte).toNat ∧
    1 < (2 : Byte).toNat ∧ bcdValid [0, 0x02, 0x0A, 0] = false ∧ idleRig.session.state = .closed ∧
    (game.session.state = .opened ∧ game.session.players ≤ (2 : PlayerNo).val ∧
      (1 : PlayerNo).val < game.session.players) := by decide +kernel

theorem witness_PlayfieldMultiplierOutcome : game.link.executing = none ∧ idleRig.session.state = .closed ∧
    game.session.state = .opened ∧ ({ game with pfDue := true } : State).pfDue = true ∧ 63 < (64 : Byte).toNat ∧
    (globals game.pages[0].stack).length ≤ 8 ∧
    (runningContext game.pages[0].stack (8 : Byte).toNat = some context8 ∧ context8.tpl.scope = .localScope ∧
      runningContext game.pages[0].stack (63 : Byte).toNat = none ∧ (63 : Byte).toNat ≤ 63) := by
  decide +kernel

theorem witness_TemplateRequestsOutcome : game.link.executing = none ∧ (99999999 : Nat) ≤ 99999999 ∧
    63 < (64 : Byte).toNat ∧ 1 < (2 : Byte).toNat ∧ game.templates[(8 : Fin 63)] = some mode9 ∧
    game.templates[(62 : Fin 63)] = none ∧
    ((List.replicate 24 (0x0A : Byte)).length = 24 ∧ bcdValid (List.replicate 24 0x0A) = false) := by
  decide +kernel

/-- A full stack of modes 20 to 27 in place of the game's. -/
def fullStack : State :=
  let stack := (List.range 8).map fun k => Context.build (k + 20) mode3
  game.modPage 0 fun g => { g with stack := stack }

theorem witness_PushModeOutcome : game.link.executing = none ∧ 63 < (64 : Byte).toNat ∧
    game.templates[(0 : Fin 63)] = none ∧ (∃ c ∈ game.pages[game.session.current].stack, c.id = 3) ∧
    ((∀ c ∈ fullStack.pages[fullStack.session.current].stack, c.id ≠ 9) ∧
      8 ≤ fullStack.pages[fullStack.session.current].stack.length ∧ fullStack.templates[(8 : Fin 63)] = some mode9) ∧
    (idleRig.pages[0].stack = [] ∧ idleRig.session.state = .closed) ∧
    ((∀ c ∈ game.pages[0].stack, c.id ≠ 9) ∧ game.pages[0].stack.length < 8 ∧ game.session.state = .opened ∧
      mode9.stacking = .exclusive) := by decide +kernel

theorem witness_ContextRequestsOutcome : game.link.executing = none ∧ idleRig.session.state = .closed ∧
    (game.session.state = .opened ∧ (∀ c ∈ game.pages[game.session.current].stack, c.id ≠ (9 : Byte).toNat)) ∧
    (game.pages[game.session.current].stack = [context3] ++ context8 :: [] ∧ context8.id = (8 : Byte).toNat ∧
      ∀ x ∈ [context3] ++ [], x.id ≠ (8 : Byte).toNat) := by decide +kernel

theorem witness_AdvanceModeOutcome : game.link.executing = none ∧ idleRig.session.state = .closed ∧
    (∀ c ∈ game.pages[game.session.current].stack, c.id ≠ (9 : Byte).toNat) ∧
    (game.session.state = .opened ∧ game.pages[game.session.current].stack = [context3] ++ context8 :: [] ∧
      context8.id = (8 : Byte).toNat ∧ (∀ x ∈ [context3] ++ [], x.id ≠ (8 : Byte).toNat)) ∧
    (0 < context8.tpl.goal ∧ context8.tpl.goal ≤ context8.progress + (1 : Byte).toNat ∧
      game.pages[0].score + context8.total * context8.tpl.completionPct / 100 / 10 * 10 ≤ 999999999999 ∧
      context8.tpl.next = (8 : Fin 63).val + 1 ∧ game.templates[(8 : Fin 63)] = some mode9 ∧
      ∀ x ∈ [context3] ++ [], x.id ≠ context8.tpl.next) ∧
    ({ context8 with progress := 2 } : Context).progress + (1 : Byte).toNat < context8.tpl.goal ∧
    context3.tpl.next = 0 ∧ ({ game with templates := .replicate 63 none } : State).templates[(8 : Fin 63)] = none ∧
    (context3.tpl.goal = 0 ∧
      ∃ x ∈ [context3, Context.build 9 mode9] ++ [], x.id = context8.tpl.next) := by
  decide +kernel

/-- Mode 3 with its timer expired and mode 9 with its hurry period expired. -/
def expired : State :=
  game.modPage 0 fun g =>
    { g with stack := [{ context3 with timer := 1, timerDue := true }, { Context.build 9 mode9 with hurryDue := true }] }

theorem witness_ModeExpiriesOutcome :
    (let c : Context := { context3 with timer := 1, timerDue := true }
     let d : Context := { Context.build 9 mode9 with hurryDue := true }
     expired.pages[expired.session.current].stack = [] ++ c :: [d] ∧ (∀ x ∈ [] ++ [d], x.id ≠ c.id) ∧
      c.timed = true ∧ c.timerDue = true ∧ c.hurryDue = false ∧
      expired.pages[expired.session.current].stack = [c] ++ d :: [] ∧ (∀ x ∈ [c] ++ [], x.id ≠ d.id) ∧
      d.hurryDue = true ∧ d.timerDue = false) := by decide +kernel

theorem witness_SessionStartsForItsPlayers : game.link.executing = none ∧ game.session.state = .opened ∧
    (∀ d : DevNo, offRig.devices[d].live.state = .disabled) ∧
    (idleRig.session.state = .closed ∧ ∃ d : DevNo, idleRig.devices[d].live.state ≠ .disabled) ∧
    (game.modSession fun r => { r with players := 4 }).session.players = 4 ∧
    game.session.players = (2 : PlayerNo).val := by decide +kernel

theorem witness_SetPlayerReconcilesTheLocks : (between2 0).link.executing = none ∧ idleRig.session.state = .closed ∧
    3 < (4 : Byte).toNat ∧ (between2 0).session.players ≤ (2 : PlayerNo).val ∧
    (game.session.state = .opened ∧ game.acct.phase ≠ .noPlay ∧ game.acct.phase ≠ .ended) ∧
    ((between2 0).session.state = .opened ∧ (1 : PlayerNo).val < (between2 0).session.players ∧
      (between2 0).acct.phase = .noPlay ∧
      ∀ d : DevNo, (between2 0).devices[d].cfg.kind = .lock → (between2 0).devices[d].live.state ≠ .disabled ∧
        (between2 0).devices[d].live.owed ≤ 8) := by decide +kernel

theorem witness_ClosingEndsEveryMode : game.link.executing = none ∧ idleRig.session.state = .closed ∧
    (game.acct.phase ≠ .noPlay ∧ game.acct.phase ≠ .ended) ∧
    ((between2 0).session.state = .opened ∧ (between2 0).acct.phase = .noPlay) ∧ game.session.state = .opened ∧
    game.pages[0].stack.head? = some context3 ∧ game.pages[1].stack = [] := by decide +kernel

theorem witness_GameResetKeepsTheConfiguration : game.link.executing = none ∧
    fullSlots.devices[2].live.state = .jammed ∧ confirming.devices[3].live.state = .confirming ∧
    (fullSlots.slots[7].state = .queued ∧ ∀ d : DevNo, fullSlots.devices[d].live.order ≠ .slot 7) ∧
    (let s := enterWaiting 9 .host .direct game
     s.coils[9].live.state = .waiting ∧ s.coils[9].live.held = none ∧ s.coils[9].live.cls = some .direct ∧
      ∀ d : DevNo, s.coils[9].live.owner ≠ some (.device d)) ∧
    game.pages[0].stack ≠ [] ∧ game.pages[0].stack.head? = some context3 ∧ game.pages[1].stack = [] := by
  decide +kernel

theorem witness_NoticesAndOptionsOutcome :
    (game.link.executing = none ∧ Notice.slam ≠ Notice.tilted) ∧
    (game.link.executing = none ∧ game.session.state = .opened ∧
    idleRig.link.executing = none ∧ idleRig.session.state = .closed ∧ 1 < (2 : Byte).toNat ∧
    15 < (16 : Byte).toNat) := by
  decide +kernel

theorem witness_FramesRoundTrip : codeOf (.readSession []) = some (0x95, []) ∧ WellFormed (.readSession []) ∧
    codeOf (.setTemplate (List.replicate 60 0)) = some (0x80, List.replicate 60 0) ∧
    WellFormed (.setTemplate (List.replicate 60 0)) ∧ ([0x95] : List Byte) ≠ [] := by decide +kernel

theorem witness_ExecutionsAnswerEveryRequest : game.link.executing = none ∧
    (codeOf (.setSwitch [1]) = some (0x10, [1]) ∧ ([1] : List Byte).length ≠ 5) ∧
    (∃ r : Reply, (after (.readSession []) game).link.executing = some r) ∧ ([0] : List Byte) ≠ [] :=
  ⟨by decide +kernel, by decide +kernel, ⟨_, rfl⟩, by decide⟩

theorem witness_FramesThatAreNoRequest : (∃ r : Reply, (after (.readSession []) game).link.executing = some r) ∧
    codeOf (.readSession []) = some (0x95, []) ∧ WellFormed (.badFrame [0x10]) ∧ WellFormed (.unknownRequest 0x01 []) ∧
    game.link.executing = none ∧ frameCause [0x10] = some .shortFrame ∧ 60 < (61 : Byte).toNat ∧
    (60 : Byte).toNat ≤ 60 := ⟨⟨_, rfl⟩, by decide +kernel⟩

theorem witness_RecordsChangeOnlyByTheirCommands :
    (∃ t : State, exec (.readSession []) game = .next t) ∧ Instr.readSession [] ≠ .powerOnReset ∧
    (∃ t : State, exec (.scanFrame 0 []) game = .next t) := ⟨⟨_, rfl⟩, by decide, ⟨_, rfl⟩⟩

/-- The game with a scan frame waiting. -/
def waitingFrame : State := { game with pending := [.scanFrame 0 []] }

theorem witness_StepConservesTheBalls : waitingFrame.Conserved ∧ ∃ t : State, step waitingFrame = .next t :=
  ⟨by decide +kernel, _, rfl⟩

theorem witness_StepKeepsTheDevicesSafe : waitingFrame.DevicesSafe ∧ ∃ t : State, step waitingFrame = .next t :=
  ⟨by decide +kernel, _, rfl⟩

theorem witness_StepKeepsTheSlotQueues : fullSlots.SlotsSafe ∧ waitingFrame.SlotsSafe ∧
    ∃ t : State, step waitingFrame = .next t := ⟨by decide +kernel, by decide +kernel, _, rfl⟩

theorem witness_StepFiresOneCoilPerGroup : firing.CoilsSafe ∧ waitingFrame.CoilsSafe ∧
    ∃ t : State, step waitingFrame = .next t := ⟨by decide +kernel, by decide +kernel, _, rfl⟩

theorem witness_StepKeepsTheGameSafe : waitingFrame.GameSafe ∧ ∃ t : State, step waitingFrame = .next t :=
  ⟨⟨by decide +kernel, by decide +kernel, by decide +kernel, by decide +kernel, by decide +kernel⟩, _, rfl⟩

theorem witness_StepKeepsTheSessionSafe : nearTilt.SessionSafe ∧ waitingFrame.SessionSafe ∧
    ∃ t : State, step waitingFrame = .next t := ⟨by decide +kernel, by decide +kernel, _, rfl⟩

theorem witness_StepKeepsLocksAndSwitchesSafe : waitingFrame.LocksSafe ∧ waitingFrame.SwitchesSafe ∧
    ∃ t : State, step waitingFrame = .next t := ⟨by decide +kernel, by decide +kernel, _, rfl⟩

end Sys2Proof.Tests
end

/-! The scanner's frame (R2 to R4). `State.kept` gathers the records that no event of the part and no delivered edge writes;
one lemma per operation says that it keeps them. So the levels of a frame depend on the readings alone, whatever else
happens in it. -/

namespace Sys2Proof.Machine

/-! ### What events and edges leave alone -/

/-- The records that only requests, reset and the scanner itself write. -/
structure Kept where
  pending    : List Instr
  freeIndex  : Nat
  tickPhase  : Nat
  frameCount : Stamp
  switches   : Vector SwitchRec 128
  windows    : Vector Window 32
  awards     : Vector AwardEntry 256
  templates  : Vector (Option Template) 63
  link       : Link
  options    : Options

/-- These records of a state. -/
def State.kept (s : State) : Kept :=
  { pending := s.pending, freeIndex := s.freeIndex, tickPhase := s.tickPhase, frameCount := s.frameCount,
    switches := s.switches, windows := s.windows, awards := s.awards, templates := s.templates, link := s.link,
    options := s.options }

theorem State.switches_of_kept {s t : State} (h : t.kept = s.kept) : t.switches = s.switches :=
  congrArg Kept.switches h

theorem State.frameCount_of_kept {s t : State} (h : t.kept = s.kept) : t.frameCount = s.frameCount :=
  congrArg Kept.frameCount h

@[simp] theorem State.kept_ite (c : Prop) [Decidable c] (s t : State) :
    (if c then s else t).kept = if c then s.kept else t.kept := apply_ite State.kept c s t

/-- Steps that each keep the records keep them together. -/
theorem foldl_kept {α : Type} (f : State → α → State) (hf : ∀ s a, (f s a).kept = s.kept) (l : List α) (s : State) :
    (l.foldl f s).kept = s.kept := by
  induction l generalizing s with
  | nil => rfl
  | cons a l ih => rw [List.foldl_cons, ih, hf]

/-! ### Writes of one record -/

@[simp] theorem State.modDevice_kept (s : State) (d : DevNo) (f : Device → Device) : (s.modDevice d f).kept = s.kept := rfl
@[simp] theorem State.modLive_kept (s : State) (d : DevNo) (f : DeviceLive → DeviceLive) :
    (s.modLive d f).kept = s.kept := rfl
@[simp] theorem State.modSlot_kept (s : State) (n : SlotNo) (f : Slot → Slot) : (s.modSlot n f).kept = s.kept := rfl
@[simp] theorem State.modCoil_kept (s : State) (c : CoilNo) (f : Coil → Coil) : (s.modCoil c f).kept = s.kept := rfl
@[simp] theorem State.modCoilLive_kept (s : State) (c : CoilNo) (f : CoilLive → CoilLive) :
    (s.modCoilLive c f).kept = s.kept := rfl
@[simp] theorem State.modPage_kept (s : State) (p : PlayerNo) (f : Page → Page) : (s.modPage p f).kept = s.kept := rfl
@[simp] theorem State.modCurrent_kept (s : State) (f : Page → Page) : (s.modCurrent f).kept = s.kept := rfl
@[simp] theorem State.modAcct_kept (s : State) (f : Accounting → Accounting) : (s.modAcct f).kept = s.kept := rfl
@[simp] theorem State.modSession_kept (s : State) (f : Session → Session) : (s.modSession f).kept = s.kept := rfl
@[simp] theorem State.modGroup_kept (s : State) (g : Group) (f : GroupRec → GroupRec) :
    (s.modGroup g f).kept = s.kept := by cases g <;> rfl
@[simp] theorem State.raise_kept (s : State) (k : Notice) : (s.raise k).kept = s.kept := rfl
@[simp] theorem State.raiseIf_kept (s : State) (c : Bool) (k : Notice) : (s.raiseIf c k).kept = s.kept := by
  cases c <;> rfl

/-! ### The arbiter (chapter 3) -/

/-- A state that differs in its coils only holds the same records. -/
theorem kept_of_coils {s t : State} (h : ∃ coils : Vector Coil 24, t = { s with coils := coils }) : t.kept = s.kept := by
  obtain ⟨coils, rfl⟩ := h
  rfl

@[simp] theorem enterIdle_kept (c : CoilNo) (s : State) : (enterIdle c s).kept = s.kept :=
  kept_of_coils (enterIdle_frame c s)

@[simp] theorem enterRecovering_kept (c : CoilNo) (s : State) : (enterRecovering c s).kept = s.kept :=
  kept_of_coils (enterRecovering_frame c s)

@[simp] theorem endRequest_kept (c : CoilNo) (d : DevNo) (s : State) : (endRequest c d s).kept = s.kept :=
  kept_of_coils (endRequest_frame c d s)

@[simp] theorem requestSearch_kept (c : CoilNo) (s : State) : (requestSearch c s).1.kept = s.kept := by
  unfold requestSearch
  split <;> rfl

@[simp] theorem fire_kept (g : Group) (c : CoilNo) (s : State) : (fire g c s).kept = s.kept := by
  simp [fire]

@[simp] theorem takeGrant_kept (g : Group) (s : State) : (takeGrant g s).kept = s.kept := by
  obtain h | ⟨c, -, -, h⟩ := takeGrant_cases g s
  · rw [h]
  · rw [h, fire_kept]

@[simp] theorem takePriorityAging_kept (c : CoilNo) (s : State) : (takePriorityAging c s).kept = s.kept := by
  simp [takePriorityAging]

@[simp] theorem takeGapExpiry_kept (g : Group) (s : State) : (takeGapExpiry g s).kept = s.kept := by
  simp [takeGapExpiry]

@[simp] theorem groupPulseEnd_kept (g : Group) (s : State) : (groupPulseEnd g s).kept = s.kept := by
  simp [groupPulseEnd]

@[simp] theorem takeRecoveryExpiry_kept (c : CoilNo) (s : State) : (takeRecoveryExpiry c s).kept = s.kept := by
  simp [takeRecoveryExpiry]

@[simp] theorem takeIntervalExpiry_kept (c : CoilNo) (s : State) : (takeIntervalExpiry c s).kept = s.kept := by
  simp [takeIntervalExpiry]

/-! ### Slots and orders (chapter 2) -/

theorem OrderFrame.kept {s t : State} (h : OrderFrame s t) : t.kept = s.kept := by
  obtain ⟨devices, coils, slots, b, rfl⟩ := h
  exact State.raiseIf_kept _ b _

@[simp] theorem finishSlot_kept (n : SlotNo) (r : SlotResult) (s : State) : (finishSlot n r s).kept = s.kept :=
  (OrderFrame.of_finishSlot n r s).kept

@[simp] theorem startBall_kept (d : DevNo) (n : Nat) (s : State) : (startBall d n s).kept = s.kept :=
  (OrderFrame.of_startBall d n s).kept

@[simp] theorem takeOrder_kept (d : DevNo) (s : State) : (takeOrder d s).kept = s.kept :=
  (OrderFrame.of_takeOrderFuel 9 d s).kept

@[simp] theorem addOwedCount_kept (d : DevNo) (s : State) : (addOwedCount d s).kept = s.kept := rfl

@[simp] theorem addOwed_kept (d : DevNo) (s : State) : (addOwed d s).kept = s.kept := (OrderFrame.of_addOwed d s).kept

@[simp] theorem addOwedTimes_kept (d : DevNo) (n : Nat) (s : State) : (addOwedTimes d n s).kept = s.kept :=
  (OrderFrame.of_addOwedTimes d n s).kept

@[simp] theorem endOrder_kept (d : DevNo) (r : Slot → SlotResult) (s : State) : (endOrder d r s).kept = s.kept :=
  (OrderFrame.of_endOrder d r s).kept

@[simp] theorem jam_kept (d : DevNo) (s : State) : (jam d s).kept = s.kept := by
  simp only [jam, State.modLive_kept]
  split <;> simp

@[simp] theorem failedAttempt_kept (d : DevNo) (s : State) : (failedAttempt d s).kept = s.kept := by
  simp [failedAttempt]

/-! ### Reports of a coil and the timers of a device (chapter 2) -/

@[simp] theorem restartSettle_kept (d : DevNo) (s : State) : (restartSettle d s).kept = s.kept := rfl
@[simp] theorem enterConfirming_kept (d : DevNo) (s : State) : (enterConfirming d s).kept = s.kept := rfl

@[simp] theorem deviceRelease_kept (own : Bool) (d : DevNo) (s : State) : (deviceRelease own d s).kept = s.kept := by
  simp [deviceRelease]

@[simp] theorem devicePulseEnd_kept (last : Bool) (d : DevNo) (s : State) : (devicePulseEnd last d s).kept = s.kept := by
  simp [devicePulseEnd]

/-- A report keeps the records when the device that hears it does. -/
theorem reportToOwner_kept (c : CoilNo) (l : CoilLive) {report : Bool → DevNo → State → State}
    (hr : ∀ own d s, (report own d s).kept = s.kept) (s : State) : (reportToOwner c l report s).kept = s.kept := by
  obtain ⟨d, -, -, h⟩ | ⟨-, h⟩ := reportToOwner_cases c l report s
  · rw [h, hr]
  · rw [h]

@[simp] theorem takePulseEnd_kept (c : CoilNo) (s : State) : (takePulseEnd c s).kept = s.kept := by
  simp only [takePulseEnd]
  split
  · rw [reportToOwner_kept _ _ (fun own d s => by simp)]
    simp
  · rfl

@[simp] theorem takeHoldWindowExpiry_kept (c : CoilNo) (s : State) : (takeHoldWindowExpiry c s).kept = s.kept := by
  simp [takeHoldWindowExpiry, reportToOwner_kept _ _ deviceRelease_kept]

@[simp] theorem takeConfirmTimerExpiry_kept (d : DevNo) (s : State) : (takeConfirmTimerExpiry d s).kept = s.kept := by
  simp [takeConfirmTimerExpiry]

@[simp] theorem takeSaucerHoldExpiry_kept (d : DevNo) (s : State) : (takeSaucerHoldExpiry d s).kept = s.kept := by
  simp [takeSaucerHoldExpiry]

/-! ### Modes and scores (chapters 7 and 8) -/

@[simp] theorem holdTimers_kept (s : State) : (holdTimers s).kept = s.kept := rfl
@[simp] theorem setStack_kept (p : PlayerNo) (stack : List Context) (s : State) : (setStack p stack s).kept = s.kept := rfl
@[simp] theorem modContext_kept (p : PlayerNo) (id : Nat) (f : Context → Context) (s : State) :
    (modContext p id f s).kept = s.kept := rfl
@[simp] theorem addTotal_kept (p : PlayerNo) (id v : Nat) (s : State) : (addTotal p id v s).kept = s.kept := rfl
@[simp] theorem setPfMult_kept (m t : Nat) (s : State) : (setPfMult m t s).kept = s.kept := rfl

@[simp] theorem addScore_kept (p : PlayerNo) (v : Nat) (s : State) : (addScore p v s).1.kept = s.kept := by
  obtain ⟨-, h⟩ | ⟨-, -, h⟩ | ⟨-, -, -, h⟩ := addScore_cases p v s <;> simp [h]

@[simp] theorem push_kept (p : PlayerNo) (id : Nat) (s : State) : (push p id s).1.kept = s.kept := by
  obtain ⟨_, -, h⟩ | ⟨_, -, -, -, -, h⟩ := push_cases p id s <;> simp [h]

@[simp] theorem endContext_kept (p : PlayerNo) (id : Nat) (r : EndReason) (s : State) :
    (endContext p id r s).kept = s.kept := by
  unfold endContext
  split <;> simp

@[simp] theorem complete_kept (p : PlayerNo) (c : Context) (s : State) : (complete p c s).1.kept = s.kept := by
  simp only [complete]
  split <;> simp

@[simp] theorem advance_kept (p : PlayerNo) (id n : Nat) (s : State) : (advance p id n s).1.kept = s.kept := by
  unfold advance
  split
  · rfl
  · dsimp only
    split <;> simp

@[simp] theorem endMarked_kept (test : Context → Bool) (r : EndReason) (s : State) :
    (endMarked test r s).kept = s.kept :=
  foldl_kept _ (fun s id => endContext_kept _ id r s) _ s

@[simp] theorem endOnDrain_kept (s : State) : (endOnDrain s).kept = s.kept := endMarked_kept _ _ s
@[simp] theorem endOnTilt_kept (s : State) : (endOnTilt s).kept = s.kept := endMarked_kept _ _ s
@[simp] theorem closeModes_kept (s : State) : (closeModes s).kept = s.kept := State.raiseIf_kept _ _ _

@[simp] theorem takeModeTimerExpiry_kept (id : Nat) (s : State) : (takeModeTimerExpiry id s).kept = s.kept := by
  simp only [takeModeTimerExpiry]
  split <;> simp

@[simp] theorem takeHurryPeriodExpiry_kept (id : Nat) (s : State) : (takeHurryPeriodExpiry id s).kept = s.kept := by
  simp only [takeHurryPeriodExpiry]
  split <;> simp

@[simp] theorem takePfMultTimerExpiry_kept (s : State) : (takePfMultTimerExpiry s).kept = s.kept := by
  unfold takePfMultTimerExpiry
  split <;> rfl

@[simp] theorem takeSwingTimerExpiry_kept (s : State) : (takeSwingTimerExpiry s).kept = s.kept := by
  unfold takeSwingTimerExpiry
  split <;> rfl

/-! ### The search and the close of an event (chapter 4) -/

@[simp] theorem loadIdle_kept (s : State) : (loadIdle s).kept = s.kept := rfl
@[simp] theorem stopIdle_kept (s : State) : (stopIdle s).kept = s.kept := rfl
@[simp] theorem setPhase_kept (p : PlayPhase) (s : State) : (setPhase p s).kept = s.kept := rfl
@[simp] theorem saveOff_kept (s : State) : (saveOff s).kept = s.kept := rfl
@[simp] theorem saveActive_kept (t : Nat) (s : State) : (saveActive t s).kept = s.kept := rfl
@[simp] theorem startSpacing_kept (s : State) : (startSpacing s).kept = s.kept := rfl
@[simp] theorem removeFlight_kept (i : Nat) (s : State) : (removeFlight i s).kept = s.kept := rfl
@[simp] theorem enterPlay_kept (s : State) : (enterPlay s).kept = s.kept := rfl

@[simp] theorem endSearch_kept (s : State) : (endSearch s).kept = s.kept := by
  obtain ⟨coils, acct, h, -⟩ := endSearch_frame s
  rw [h]
  rfl

@[simp] theorem searchSteps_kept (l : List CoilNo) (s : State) : (searchSteps l s).1.kept = s.kept := by
  induction l generalizing s with
  | nil => rfl
  | cons c l ih =>
    simp only [searchSteps]
    split
    · rw [ih, State.modAcct_kept]
    · split
      · simp
      · rw [ih, requestSearch_kept, State.modAcct_kept]

@[simp] theorem startRound_kept (s : State) : (startRound s).kept = s.kept := by
  simp [startRound]

@[simp] theorem endRound_kept (s : State) : (endRound s).kept = s.kept := by
  simp only [endRound]
  split
  · simp
  · rw [State.modAcct_kept]
    split <;> simp

@[simp] theorem startSearch_kept (s : State) : (startSearch s).kept = s.kept := by
  simp [startSearch]

@[simp] theorem endPlay_kept (s : State) : (endPlay s).kept = s.kept := by
  simp [endPlay]

@[simp] theorem formPlay_kept (s : State) : (formPlay s).kept = s.kept := by
  simp only [formPlay]
  split
  · simp only [State.kept_ite, endPlay_kept, State.raise_kept, State.modAcct_kept, ite_self]
  all_goals simp

@[simp] theorem closeEvent_kept (before s : State) : (closeEvent before s).kept = s.kept := by
  simp [closeEvent]

/-- An event keeps the records when its changes do. -/
theorem event_kept {f : State → State} (hf : ∀ s, (f s).kept = s.kept) (s : State) : (event f s).kept = s.kept := by
  rw [event, closeEvent_kept, hf]

/-! ### Events of the accounting unit (chapter 4) -/

@[simp] theorem confirmBall_kept (s : State) : (confirmBall s).kept = s.kept := by
  unfold confirmBall
  split <;> simp

@[simp] theorem playfieldActivity_kept (s : State) : (playfieldActivity s).kept = s.kept :=
  event_kept (fun s => by simp) s

@[simp] theorem expireFlight_kept (i : Nat) (r : FlightRec) (s : State) : (expireFlight i r s).kept = s.kept := by
  simp only [expireFlight]
  split <;> simp

@[simp] theorem takeFlightExpiry_kept (i : Nat) (s : State) : (takeFlightExpiry i s).kept = s.kept := by
  unfold takeFlightExpiry
  split
  · simp [event_kept (expireFlight_kept _ _)]
  · rfl

@[simp] theorem takeSaveTimerExpiry_kept (s : State) : (takeSaveTimerExpiry s).kept = s.kept := by
  unfold takeSaveTimerExpiry
  split
  · split <;> simp
  · rfl

@[simp] theorem takeIdleTimerExpiry_kept (s : State) : (takeIdleTimerExpiry s).kept = s.kept := by
  simp [takeIdleTimerExpiry]

@[simp] theorem searchExpiry_kept (s : State) : (searchExpiry s).kept = s.kept := by
  simp [searchExpiry]

@[simp] theorem takeSearchTimerExpiry_kept (s : State) : (takeSearchTimerExpiry s).kept = s.kept := by
  simp [takeSearchTimerExpiry, event_kept searchExpiry_kept]

/-! ### Locks (chapter 5) -/

@[simp] theorem lightLock_kept (d : DevNo) (k : LockNo) (n : Nat) (s : State) : (lightLock d k n s).kept = s.kept := rfl
@[simp] theorem recordDecision_kept (k : LockNo) (o : LockOutcome) (r : LockReason) (s : State) :
    (recordDecision k o r s).kept = s.kept := rfl
@[simp] theorem reject_kept (d : DevNo) (k : LockNo) (r : LockReason) (s : State) : (reject d k r s).kept = s.kept := rfl

@[simp] theorem awardLightLock_kept (argument : Byte) (s : State) : (awardLightLock argument s).kept = s.kept := by
  unfold awardLightLock
  split
  · rfl
  · split <;> rfl

@[simp] theorem capture_kept (k : LockNo) (s : State) : (capture k s).kept = s.kept := by
  simp [capture]

@[simp] theorem captureDecision_kept (d : DevNo) (s : State) : (captureDecision d s).kept = s.kept := by
  unfold captureDecision
  split
  · rfl
  · split <;> simp

@[simp] theorem sourceLock_kept (d : DevNo) (k : LockNo) (s : State) : (sourceLock d k s).kept = s.kept := by
  simp [sourceLock]

@[simp] theorem startMultiball_kept (target : Nat) (mask : Byte) (saveTime : Nat) (s : State) :
    (startMultiball target mask saveTime s).1.kept = s.kept := by
  simp [startMultiball, foldl_kept _ fun s (x : DevNo × LockNo) => sourceLock_kept x.1 x.2 s]

@[simp] theorem awardStartMultiball_kept (argument : Byte) (s : State) :
    (awardStartMultiball argument s).kept = s.kept := by
  simp [awardStartMultiball]

/-! ### The evaluation (R21 to R37) -/

@[simp] theorem handExits_kept (d : DevNo) (n : Nat) (s : State) : (handExits d n s).kept = s.kept := rfl
@[simp] theorem takeFlight_kept (i own : Nat) (s : State) : (takeFlight i own s).1.kept = s.kept := rfl
@[simp] theorem reuseRequest_kept (d : DevNo) (s : State) : (reuseRequest d s).kept = s.kept := rfl

/-- Every place that can supply an entry is a count or a record of the accounting unit (R66). -/
@[simp] theorem supplyEntry_kept (d : DevNo) (fallback : Bool) (own : Nat) (s : State) :
    (supplyEntry d fallback own s).1.kept = s.kept := by
  simp only [supplyEntry]
  split
  · rfl
  · split
    · rfl
    · split
      · rfl
      · split
        · rfl
        · split
          · rfl
          · split
            · rfl
            · split <;> rfl

@[simp] theorem drain_kept (s : State) : (drain s).kept = s.kept := by
  simp [drain]

@[simp] theorem shooterEntry_kept (fallback : Bool) (s : State) : (shooterEntry fallback s).kept = s.kept := by
  unfold shooterEntry
  split <;> simp

@[simp] theorem entryRules_kept (d : DevNo) (fallback : Bool) (supply : Supply) (s : State) :
    (entryRules d fallback supply s).kept = s.kept := by
  simp [entryRules]

@[simp] theorem countFault_kept (d : DevNo) (s : State) : (countFault d s).kept = s.kept := State.raiseIf_kept _ _ _

@[simp] theorem handEntry_kept (d : DevNo) (fallback : Bool) (t : Tally) (s : State) :
    (handEntry d fallback t s).1.kept = s.kept := by
  simp only [handEntry]
  split <;> simp

@[simp] theorem handEntries_kept (d : DevNo) (n : Nat) (fallback : Bool) (t : Tally) (s : State) :
    (handEntries d n fallback t s).1.kept = s.kept := by
  induction n generalizing fallback t s with
  | zero => rfl
  | succ n ih => rw [handEntries, ih, handEntry_kept]

@[simp] theorem recountDevice_kept (d : DevNo) (counts : Nat × Nat) (c : Nat) (fallback : Bool) (s : State) :
    (recountDevice d counts c fallback s).1.kept = s.kept := by
  simp [recountDevice]

@[simp] theorem confirmExits_kept (d : DevNo) (exits : Nat) (s : State) : (confirmExits d exits s).kept = s.kept := by
  simp only [confirmExits, State.raiseIf_kept, State.modLive_kept]
  split <;> simp

@[simp] theorem uncountExit_kept (d : DevNo) (s : State) : (uncountExit d s).kept = s.kept := by
  simp only [uncountExit, State.modLive_kept]
  split <;> simp

@[simp] theorem nextBall_kept (d : DevNo) (s : State) : (nextBall d s).kept = s.kept := by
  simp [nextBall]

@[simp] theorem actEjecting_kept (d : DevNo) (s : State) : (actEjecting d s).kept = s.kept := by
  simp only [actEjecting]
  cases s.stage s.devices[d].cfg.coil d with
  | queued => simp
  | between => simp
  | firing =>
    dsimp only
    split <;> simp
  | holding => simp
  | closed => rfl

@[simp] theorem actFallback_kept (d : DevNo) (s : State) : (actFallback d s).kept = s.kept := by
  simp [actFallback]

@[simp] theorem actOnOrder_kept (d : DevNo) (exits : Nat) (fallback : Bool) (s : State) :
    (actOnOrder d exits fallback s).kept = s.kept := by
  simp [actOnOrder]

@[simp] theorem saucerHold_kept (d : DevNo) (before ordinary : Nat) (s : State) :
    (saucerHold d before ordinary s).kept = s.kept := by
  simp [saucerHold]

@[simp] theorem evaluate_kept (d : DevNo) (s : State) : (evaluate d s).kept = s.kept := by
  simp [evaluate]

@[simp] theorem takeEvaluation_kept (d : DevNo) (s : State) : (takeEvaluation d s).kept = s.kept := by
  simp [takeEvaluation, event_kept (evaluate_kept d)]

/-! ### Awards (chapter 6) -/

@[simp] theorem scoreAward_kept (b m : Nat) (mode : Option Context) (s : State) : (scoreAward b m mode s).kept = s.kept := by
  cases mode <;> simp [scoreAward]

@[simp] theorem awardAdvance_kept (b m : Nat) (mode : Option Context) (s : State) :
    (awardAdvance b m mode s).kept = s.kept := by
  cases mode <;> simp [awardAdvance]

@[simp] theorem awardJackpotBuild_kept (mode : Option Context) (s : State) : (awardJackpotBuild mode s).kept = s.kept := by
  cases mode <;> rfl

@[simp] theorem awardJackpotCollect_kept (m : Nat) (mode : Option Context) (s : State) :
    (awardJackpotCollect m mode s).kept = s.kept := by
  cases mode <;> simp [awardJackpotCollect]

@[simp] theorem awardHurryCollect_kept (m : Nat) (mode : Option Context) (s : State) :
    (awardHurryCollect m mode s).kept = s.kept := by
  cases mode with
  | none => rfl
  | some c =>
    simp only [awardHurryCollect]
    split <;> simp

@[simp] theorem awardStartMode_kept (argument : Byte) (s : State) : (awardStartMode argument s).kept = s.kept := by
  simp [awardStartMode]

@[simp] theorem awardPfMult_kept (s : State) : (awardPfMult s).kept = s.kept := rfl

@[simp] theorem kindEffect_kept (e : AwardEntry) (m : Nat) (mode : Option Context) (s : State) :
    (kindEffect e m mode s).kept = s.kept := by
  unfold kindEffect
  split <;> simp

@[simp] theorem notifyStep_kept (i : Fin 256) (s : State) : (notifyStep i s).kept = s.kept := by
  unfold notifyStep
  split <;> rfl

@[simp] theorem dispatch_kept (i : Fin 256) (s : State) : (dispatch i s).kept = s.kept := by
  simp [dispatch]

@[simp] theorem switchEvent_kept (n : SwitchNo) (d : Direction) (s : State) : (switchEvent n d s).kept = s.kept := by
  unfold switchEvent
  split <;> simp

/-! ### Tilt and slam (chapter 9) -/

@[simp] theorem tilt_kept (s : State) : (tilt s).kept = s.kept := by
  simp [tilt]

@[simp] theorem countWarning_kept (s : State) : (countWarning s).kept = s.kept := by
  simp [countWarning]

@[simp] theorem tiltEvent_kept (s : State) : (tiltEvent s).kept = s.kept := by
  simp [tiltEvent]

@[simp] theorem slamEvent_kept (s : State) : (slamEvent s).kept = s.kept := by
  unfold slamEvent
  split
  · exact event_kept (fun s => by simp) s
  · rfl

/-! ### Edges and events of a frame -/

@[simp] theorem deviceEdge_kept (n : SwitchNo) (d : Direction) (dev : DevNo) (s : State) :
    (deviceEdge n d dev s).kept = s.kept := by
  simp [deviceEdge]

@[simp] theorem deviceEdges_kept (n : SwitchNo) (d : Direction) (s : State) : (deviceEdges n d s).kept = s.kept :=
  foldl_kept _ (fun s dev => deviceEdge_kept n d dev s) _ s

@[simp] theorem passEdge_kept (n : SwitchNo) (d : Direction) (s : State) : (passEdge n d s).kept = s.kept :=
  switchEvent_kept n d _

/-- An edge delivered, whatever the class of its switch, changes no record of the scanner but the activity flags (R10). -/
@[simp] theorem deliverEdge_kept (e : SwitchNo × Direction) (s : State) : (deliverEdge e s).kept = s.kept := by
  simp [deliverEdge]

/-- An event taken, whichever it is, changes no record of the scanner. -/
@[simp] theorem take_kept (e : Event) (s : State) : (take e s).kept = s.kept := by
  cases e <;> simp [take]

/-! ### The scan frame (R2, R3, R4) -/

/-- The ticks of a frame change no switch record. -/
@[simp] theorem startFrame_switches (s : State) : (startFrame s).switches = s.switches := by
  simp only [startFrame, tick100, tick10]
  split <;> split <;> rfl

@[simp] theorem startFrame_frameCount (s : State) : (startFrame s).frameCount = s.frameCount + 1 := by
  simp only [startFrame, tick100, tick10]
  split <;> split <;> rfl

/-- The edges of a frame are delivered after every switch is debounced, and change no switch record. -/
@[simp] theorem readSwitches_kept (raw : BitVec 128) (s : State) : (readSwitches raw s).kept = (debounceAll raw s).kept :=
  foldl_kept _ (fun s e => deliverEdge_kept e s) _ _

/-- The state whose switches a frame debounces holds the records of the frame's start, whatever events came early. -/
theorem earlyEvents_kept (early : List Event) (s : State) : (early.foldl (fun s e => take e s) s).kept = s.kept :=
  foldl_kept _ (fun s e => take_kept e s) early s

theorem debounceAll_get (raw : BitVec 128) (s : State) (n : SwitchNo) :
    (debounceAll raw s).switches[n] = (s.switches[n].debounce (raw.getLsbD n.val) s.frameCount).1 := by
  simp [debounceAll]

@[simp] theorem debounceAll_frameCount (raw : BitVec 128) (s : State) :
    (debounceAll raw s).frameCount = s.frameCount := by
  simp only [debounceAll]

theorem scanFrame_frameCount (raw : BitVec 128) (early : List Event) (s : State) :
    (scanFrame raw early s).frameCount = s.frameCount + 1 := by
  rw [scanFrame, State.frameCount_of_kept (readSwitches_kept raw _), debounceAll_frameCount,
    State.frameCount_of_kept (earlyEvents_kept early _), startFrame_frameCount]

/-- Every switch leaves a frame debounced once, by its reading of the frame and the frame's stamp. -/
theorem scanFrame_get (raw : BitVec 128) (early : List Event) (s : State) (n : SwitchNo) :
    (scanFrame raw early s).switches[n] =
      (s.switches[n].debounce (raw.getLsbD n.val) (s.frameCount + 1)).1 := by
  have hearly := earlyEvents_kept early (startFrame s)
  rw [scanFrame, State.switches_of_kept (readSwitches_kept raw _), debounceAll_get, State.switches_of_kept hearly,
    State.frameCount_of_kept hearly, startFrame_switches, startFrame_frameCount]

/-- Pending frames stay below the threshold of the reading's direction, so that an edge comes at the threshold (R3). -/
theorem debounce_pendingFrames_le (r : SwitchRec) (closed : Bool) (stamp : Stamp) :
    (r.debounce closed stamp).1.pendingFrames ≤ (if closed then r.closeDebounce else r.openDebounce) - 1 := by
  obtain ⟨-, h⟩ | ⟨-, hlt, h⟩ | ⟨-, -, h⟩ := debounce_cases r closed stamp <;> rw [h]
  · exact Nat.zero_le _
  · exact Nat.le_sub_one_of_lt hlt
  · cases closed <;> exact Nat.zero_le _

/-- The record after one frame by the debounce rule: the reading agrees, is pending, or is accepted (R3, R4). -/
theorem debounce_rule (r : SwitchRec) (closed : Bool) (stamp : Stamp) :
    let t := (r.debounce closed stamp).1
    if levelOf closed = r.level then t = { r with pendingFrames := 0 }
    else if r.pendingFrames + 1 < (if closed then r.closeDebounce else r.openDebounce) then
      t = { r with pendingFrames := r.pendingFrames + 1 }
    else t =
      { r with pendingFrames := 0, level := levelOf closed,
               lastClose := if closed then stamp else r.lastClose,
               lastOpen := if closed then r.lastOpen else stamp } := by
  dsimp only
  obtain ⟨hl, h⟩ | ⟨hl, hlt, h⟩ | ⟨hl, hle, h⟩ := debounce_cases r closed stamp
  · rw [if_pos hl, h]
  · rw [if_neg hl, if_pos hlt, h]
  · rw [if_neg hl, if_neg (Nat.not_lt.mpr hle), h]
    cases closed <;> rfl

/-- Settles O3: the events and edges of a frame keep the switch records, so each switch ends as `debounce_rule` says. -/
theorem scanFrameDebouncesEverySwitch : Obligations.ScanFrameDebouncesEverySwitch := by
  unfold Obligations.ScanFrameDebouncesEverySwitch
  intro s raw early
  refine ⟨scanFrame raw early s, rfl, scanFrame_frameCount raw early s, fun n => ?_⟩
  have hle := debounce_pendingFrames_le s.switches[n] (raw.getLsbD n.val) (s.frameCount + 1)
  dsimp only
  rw [scanFrame_get]
  refine ⟨debounce_rule _ _ _, hle, fun hclose hopen => ?_⟩
  split at hle <;> omega

end Sys2Proof.Machine

/-! Score additions (R127): what each of the three outcomes stores, under the condition that selects it. -/

namespace Sys2Proof.Machine

theorem not_rolls_of_saturates {policy : ScorePolicy} {rollover : Nat} (hs : policy = .saturate ∨ 9 ≤ rollover)
    (hroll : policy = .roll) (hlt : rollover < 9) : False := by
  obtain hsat | hge := hs
  · exact nomatch hsat.symm.trans hroll
  · exact absurd hge (Nat.not_le.mpr hlt)

theorem addScore_of_fits {p : PlayerNo} {v : Nat} {s : State} (h : s.pages[p].score + v ≤ Config.maxScore) :
    addScore p v s = (s.modPage p fun g => { g with score := s.pages[p].score + v }, .stored) := by
  obtain ⟨-, he⟩ | ⟨hlt, -⟩ | ⟨hlt, -⟩ := addScore_cases p v s
  · exact he
  · exact absurd h (Nat.not_le.mpr hlt)
  · exact absurd h (Nat.not_le.mpr hlt)

theorem addScore_of_saturates {p : PlayerNo} {v : Nat} {s : State} (h : Config.maxScore < s.pages[p].score + v)
    (hs : s.options.policy = .saturate ∨ 9 ≤ s.pages[p].rollover) :
    addScore p v s = (s.modPage p fun g => { g with score := Config.maxScore }, .saturated) := by
  obtain ⟨hle, -⟩ | ⟨-, -, he⟩ | ⟨-, hroll, hlt, -⟩ := addScore_cases p v s
  · exact absurd hle (Nat.not_le.mpr h)
  · exact he
  · exact (not_rolls_of_saturates hs hroll hlt).elim

theorem addScore_of_rolls {p : PlayerNo} {v : Nat} {s : State} (h : Config.maxScore < s.pages[p].score + v)
    (hroll : s.options.policy = .roll) (hlt : s.pages[p].rollover < 9) :
    addScore p v s = ((s.modPage p fun g =>
      { g with score := s.pages[p].score + v - Config.rollModulus, rollover := g.rollover + 1 }).raise .scoreRollover,
      .rolled) := by
  obtain ⟨hle, -⟩ | ⟨-, hs, -⟩ | ⟨-, -, -, he⟩ := addScore_cases p v s
  · exact absurd hle (Nat.not_le.mpr h)
  · exact (not_rolls_of_saturates hs hroll hlt).elim
  · exact he

/-- Settles O35: the conditions of R127 select one outcome each, and the largest sum leaves a rolled score in range. -/
theorem scoreAdditionFollowsThePolicy : Obligations.ScoreAdditionFollowsThePolicy := by
  unfold Obligations.ScoreAdditionFollowsThePolicy
  intro s p v
  refine ⟨fun hfits => addScore_of_fits hfits, fun hover hs => addScore_of_saturates hover hs,
    fun hover hroll hle => addScore_of_rolls hover hroll (Nat.lt_succ_of_le hle), fun hscore hv => ?_⟩
  omega

end Sys2Proof.Machine

/-! The CRC-8 of frames and replies (R175): one byte is eight shifts, and a register of 0 stays 0 under a shift. -/

namespace Sys2Proof.Machine

theorem crcByte_eq_iterate_shift (r b : Byte) : crcByte r b = crcShift^[8] (r ^^^ b) := rfl

@[simp] theorem crcShift_zero : crcShift 0 = 0 := by decide

/-- A byte equal to the register empties it, and nothing is combined in afterwards: why a good frame leaves 0. -/
@[simp] theorem crcByte_self (r : Byte) : crcByte r r = 0 := by
  rw [crcByte_eq_iterate_shift, BitVec.xor_self]
  exact Function.iterate_fixed crcShift_zero 8

@[simp] theorem crc8_nil : crc8 [] = 0 := rfl

theorem crc8_append_singleton (bs : List Byte) (b : Byte) : crc8 (bs ++ [b]) = crcByte (crc8 bs) b :=
  List.foldl_concat ..

theorem crc8_append_own_crc (bs : List Byte) : crc8 (bs ++ [crc8 bs]) = 0 := by
  rw [crc8_append_singleton, crcByte_self]

/-- The worked example of R175. -/
theorem crc8_of_manual_example : crc8 [0x01, 0x00] = 0x15 := by
  simp [crc8, crcByte, crcShift]

/-- Settles O48: the CRC of one more byte is `crcByte` of the CRC so far, and frame and reply both end in `crc8` of
what stands before it. -/
theorem crcFollowsItsPolynomial : Obligations.CrcFollowsItsPolynomial := by
  unfold Obligations.CrcFollowsItsPolynomial
  intro shift
  have hshift : shift = crcShift := rfl
  rw [hshift]
  refine ⟨crc8_nil, fun bs b => ?_, crc8_of_manual_example, crc8_append_own_crc, fun code body => rfl,
    fun r => ⟨nameByte Status.names r.status, rfl⟩⟩
  rw [crc8_append_singleton, crcByte_eq_iterate_shift]

end Sys2Proof.Machine

/-! What every operation of the part keeps. `Work` says it once for all records but the counts of balls, `Quiet` adds that no
ball is counted anew, `Sound` that the counts keep their laws; each operation is shown to be one of them, and the
invariants of the step are read off. -/

namespace Sys2Proof.Machine

/-! ### The relations -/

/-- The counts of balls: the occupancy of each device and the five terms of the identity (R62). -/
structure Stock where
  occupancy : DevNo → Nat
  installed : Nat
  live      : Nat
  missing   : Nat
  flights   : List FlightRec

def State.stock (s : State) : Stock :=
  { occupancy := fun d => (s.devices[d]'d.isLt).live.occupancy, installed := s.acct.installed, live := s.acct.live,
    missing := s.acct.missing, flights := s.acct.flights }

/-- What an operation keeps of the records besides the counts of balls: the records of requests, every configuration, the
invariants of coils, slots, game, session and locks, and the notices raised. -/
structure Steady (s t : State) : Prop where
  kept : t.kept = s.kept := by rfl
  cfg : ∀ d : DevNo, (t.devices[d]'d.isLt).cfg = (s.devices[d]'d.isLt).cfg := by exact fun _ => rfl
  coilCfg : ∀ c : CoilNo, (t.coils[c]'c.isLt).cfg = (s.coils[c]'c.isLt).cfg := by exact fun _ => rfl
  coils : s.CoilsSafe → t.CoilsSafe := by exact fun h => h
  slots : s.SlotsSafe → t.SlotsSafe := by exact fun h => h
  game : s.GameSafe → t.GameSafe := by exact fun h => h
  shut : s.session.state = .closed → t.session.state = .closed := by exact fun h => h
  session : t.session.state = s.session.state → s.SessionSafe → t.SessionSafe := by exact fun _ h => h
  locks : s.LocksSafe → t.LocksSafe := by exact fun h => h
  current : t.session.current = s.session.current := by rfl
  scores : ∀ p : PlayerNo, p ≠ s.session.current → (t.pages[p]'p.isLt).score = (s.pages[p]'p.isLt).score := by exact fun _ _ => rfl
  enable : t.notices.enable = s.notices.enable := by rfl
  route : t.notices.route = s.notices.route := by rfl
  pending : ∀ k : Notice, s.isPending k = true → t.isPending k = true := by exact fun _ h => h
  activity : t.activity = s.activity := by rfl
  noActivity : t.isPending .switchActivity = s.isPending .switchActivity := by rfl

/-- Steady work on the devices that `X` names: it puts none out of service, and those at rest stay so, the devices of `X`
left aside. -/
structure Work (X : DevNo → Prop) (s t : State) : Prop extends Steady s t where
  rest : ∀ d : DevNo, ¬ X d → (s.devices[d]'d.isLt).live.AtRest → (t.devices[d]'d.isLt).live.AtRest := by exact fun _ _ h => h
  enabled : ∀ d : DevNo, (t.devices[d]'d.isLt).live.state = .disabled → (s.devices[d]'d.isLt).live.state = .disabled := by
    exact fun _ h => h

/-- An operation that counts no ball anew and leaves the session record. -/
structure Quiet (X : DevNo → Prop) (s t : State) : Prop extends Work X s t where
  stock : t.stock = s.stock := by rfl
  same : t.session = s.session := by rfl

/-- An operation that keeps the laws of the counts (R17, R41, R62, R63). -/
structure Sound (s t : State) : Prop extends Work (fun _ => False) s t where
  devices : s.DevicesSafe → t.DevicesSafe
  balls : s.Conserved → t.Conserved
  play : s.SessionSafe → t.SessionSafe

theorem Work.refl (X : DevNo → Prop) (s : State) : Work X s s := {}

theorem Steady.refl (s : State) : Steady s s := {}

theorem Steady.trans {s t u : State} (h : Steady s t) (g : Steady t u) : Steady s u where
  kept := g.kept.trans h.kept
  cfg d := (g.cfg d).trans (h.cfg d)
  coilCfg c := (g.coilCfg c).trans (h.coilCfg c)
  coils hs := g.coils (h.coils hs)
  slots hs := g.slots (h.slots hs)
  game hs := g.game (h.game hs)
  shut hs := g.shut (h.shut hs)
  session hu hs := by
    have ht : t.session.state = s.session.state := by
      cases hst : s.session.state with
      | closed => exact h.shut hst
      | opened =>
        cases htt : t.session.state with
        | closed => exact absurd ((g.shut htt).symm.trans (hu.trans hst)) (by simp)
        | opened => rfl
    exact g.session (hu.trans ht.symm) (h.session ht hs)
  locks hs := g.locks (h.locks hs)
  current := g.current.trans h.current
  scores p hp := (g.scores p (h.current.symm ▸ hp)).trans (h.scores p hp)
  enable := g.enable.trans h.enable
  route := g.route.trans h.route
  pending k hk := g.pending k (h.pending k hk)
  activity := g.activity.trans h.activity
  noActivity := g.noActivity.trans h.noActivity

theorem Work.trans {X : DevNo → Prop} {s t u : State} (h : Work X s t) (g : Work X t u) : Work X s u where
  toSteady := h.toSteady.trans g.toSteady
  rest d hX hr := g.rest d hX (h.rest d hX hr)
  enabled d hd := h.enabled d (g.enabled d hd)

/-- Fewer devices are left aside where those of `X` were not at rest before. -/
theorem Work.of_busy {X Y : DevNo → Prop} {s t : State} (h : Work X s t)
    (hb : ∀ d, X d → ¬ Y d → ¬ (s.devices[d]'d.isLt).live.AtRest) : Work Y s t :=
  { h with rest := fun d hY hr => h.rest d (fun hX => hb d hX hY hr) hr }

theorem Work.mono {X Y : DevNo → Prop} {s t : State} (h : Work X s t) (hXY : ∀ d, X d → Y d) : Work Y s t :=
  h.of_busy fun d hX hY => (hY (hXY d hX)).elim

theorem Quiet.refl (X : DevNo → Prop) (s : State) : Quiet X s s := {}

theorem Quiet.trans {X : DevNo → Prop} {s t u : State} (h : Quiet X s t) (g : Quiet X t u) : Quiet X s u :=
  { toWork := h.toWork.trans g.toWork, stock := g.stock.trans h.stock, same := g.same.trans h.same }

theorem Quiet.of_busy {X Y : DevNo → Prop} {s t : State} (h : Quiet X s t)
    (hb : ∀ d, X d → ¬ Y d → ¬ (s.devices[d]'d.isLt).live.AtRest) : Quiet Y s t :=
  { toWork := h.toWork.of_busy hb, stock := h.stock, same := h.same }

theorem Quiet.mono {X Y : DevNo → Prop} {s t : State} (h : Quiet X s t) (hXY : ∀ d, X d → Y d) : Quiet Y s t :=
  h.of_busy fun d hX hY => (hY (hXY d hX)).elim

theorem Sound.refl (s : State) : Sound s s := { devices := id, balls := id, play := id }

theorem Sound.trans {s t u : State} (h : Sound s t) (g : Sound t u) : Sound s u :=
  { toWork := h.toWork.trans g.toWork, devices := fun hs => g.devices (h.devices hs),
    balls := fun hs => g.balls (h.balls hs), play := fun hs => g.play (h.play hs) }

/-- Steps that are each quiet are quiet together. -/
theorem Quiet.foldl {α : Type} {X : DevNo → Prop} (f : State → α → State) (hf : ∀ s a, Quiet X s (f s a)) (l : List α)
    (s : State) : Quiet X s (l.foldl f s) := by
  induction l generalizing s with
  | nil => exact .refl X s
  | cons a l ih => exact (hf s a).trans (ih _)

theorem Sound.foldl {α : Type} (f : State → α → State) (hf : ∀ s a, Sound s (f s a)) (l : List α) (s : State) :
    Sound s (l.foldl f s) := by
  induction l generalizing s with
  | nil => exact .refl s
  | cons a l ih => exact (hf s a).trans (ih _)

/-! ### The laws of the counts under the relations -/

theorem Stock.ext_iff' {s t : State} : t.stock = s.stock ↔
    (∀ d : DevNo, (t.devices[d]'d.isLt).live.occupancy = (s.devices[d]'d.isLt).live.occupancy) ∧ t.acct.installed = s.acct.installed ∧
      t.acct.live = s.acct.live ∧ t.acct.missing = s.acct.missing ∧ t.acct.flights = s.acct.flights := by
  simp only [State.stock, Stock.mk.injEq, funext_iff]

theorem State.occupancies_congr {s t : State}
    (h : ∀ d : DevNo, (t.devices[d]'d.isLt).live.occupancy = (s.devices[d]'d.isLt).live.occupancy) : t.occupancies = s.occupancies := by
  simp only [State.occupancies, h]

theorem Quiet.balls {X : DevNo → Prop} {s t : State} (h : Quiet X s t) : t.balls = s.balls := by
  obtain ⟨hocc, -, hlive, hmiss, hfl⟩ := Stock.ext_iff'.mp h.stock
  simp only [State.balls, State.occupancies_congr hocc, hlive, hmiss, hfl]

theorem State.devicesEnabled_eq_true {s : State} :
    s.devicesEnabled = true ↔ ∃ d : DevNo, (s.devices[d]'d.isLt).live.state ≠ .disabled := by
  simp [State.devicesEnabled, indices]

theorem State.devicesEnabled_eq_false {s : State} :
    s.devicesEnabled = false ↔ ∀ d : DevNo, (s.devices[d]'d.isLt).live.state = .disabled := by
  simp [State.devicesEnabled, indices]

theorem DeviceLive.AtRest.disabled {l : DeviceLive} (h : l.AtRest) : l.state = .disabled := by
  rw [h]; rfl

theorem DeviceLive.not_atRest {l : DeviceLive} (h : l.state ≠ .disabled) : ¬ l.AtRest := fun hr => h hr.disabled

/-- With every device that is out of service at rest, work enables and disables none. -/
theorem Work.disabled_iff {s t : State} (h : Work (fun _ => False) s t)
    (hs : ∀ d : DevNo, (s.devices[d]'d.isLt).live.state = .disabled → (s.devices[d]'d.isLt).live.AtRest) (d : DevNo) :
    (t.devices[d]'d.isLt).live.state = .disabled ↔ (s.devices[d]'d.isLt).live.state = .disabled :=
  ⟨h.enabled d, fun hd => (h.rest d id (hs d hd)).disabled⟩

theorem Work.devicesEnabled {s t : State} (h : Work (fun _ => False) s t)
    (hs : ∀ d : DevNo, (s.devices[d]'d.isLt).live.state = .disabled → (s.devices[d]'d.isLt).live.AtRest) :
    t.devicesEnabled = s.devicesEnabled := by
  simp only [State.devicesEnabled]
  congr 1
  funext d
  rw [Bool.eq_iff_iff]
  simpa using not_congr (h.disabled_iff hs d)

/-- Work that leaves the counts lawful keeps the device records consistent. -/
theorem Work.devicesSafe {s t : State} (h : Work (fun _ => False) s t) (hs : s.DevicesSafe)
    (hocc : ∀ d : DevNo, (t.devices[d]'d.isLt).live.occupancy ≤ (s.devices[d]'d.isLt).cfg.positions.length)
    (hoff : s.devicesEnabled = false → t.stock = s.stock)
    (hfl : ∀ r ∈ t.acct.flights, r.target.From r.source) : t.DevicesSafe := by
  obtain ⟨hcfg, hrest, hon, hcounts, -⟩ := hs
  refine ⟨fun d => ?_, fun d hd => ?_, fun ht d => ?_, fun ht => ?_, hfl⟩
  · obtain ⟨hk, -, hp⟩ := hcfg d
    rw [h.cfg d]
    exact ⟨hk, hocc d, hp⟩
  · exact h.rest d id (hrest d (h.enabled d hd))
  · rw [h.disabled_iff hrest d, h.cfg d]
    exact hon (h.devicesEnabled hrest ▸ ht) d
  · rw [h.devicesEnabled hrest] at ht
    obtain ⟨-, h1, h2, h3, h4⟩ := Stock.ext_iff'.mp (hoff ht)
    rw [h1, h2, h3, h4]
    exact hcounts ht

theorem Quiet.play {X : DevNo → Prop} {s t : State} (h : Quiet X s t) (hs : s.SessionSafe) : t.SessionSafe :=
  h.session (by rw [h.same]) hs

theorem Quiet.sound {s t : State} (h : Quiet (fun _ => False) s t) : Sound s t where
  toWork := h.toWork
  devices hs := by
    obtain ⟨hocc, -, -, -, hfl⟩ := Stock.ext_iff'.mp h.stock
    refine h.toWork.devicesSafe hs (fun d => ?_) (fun _ => h.stock) (fun r hr => hs.2.2.2.2 r (hfl ▸ hr))
    rw [hocc]
    exact (hs.1 d).2.1
  balls hs := by
    obtain ⟨-, hin, -⟩ := Stock.ext_iff'.mp h.stock
    rw [State.Conserved, h.balls, hin]
    exact hs
  play hs := h.play hs

/-! ### Writes of one record -/

theorem vector_set_get {α : Type} {n : Nat} (v : Vector α n) (i j : Fin n) (a : α) :
    (v.set i a)[j] = if j = i then a else v[j] := by
  by_cases h : j = i
  · subst h; simp
  · simp [h, Fin.val_inj, Ne.symm h]


/-- The notices between two states, when nothing but a kind other than SWITCH_ACTIVITY is raised. -/
theorem Quiet.raise (X : DevNo → Prop) (s : State) {k : Notice} (hk : k ≠ .switchActivity) : Quiet X s (s.raise k) where
  pending j hj := by rw [isPending_raise, hj, Bool.true_or]
  noActivity := by rw [isPending_raise, decide_eq_false hk.symm, Bool.or_false]

theorem Quiet.raiseIf (X : DevNo → Prop) (s : State) (c : Bool) {k : Notice} (hk : k ≠ .switchActivity) :
    Quiet X s (s.raiseIf c k) := by
  cases c
  · exact .refl X s
  · exact .raise X s hk

/-- A write to the live part of a device that keeps its occupancy and leaves it in service; where it may be at rest, it
stays so. -/
theorem Quiet.modLive (X : DevNo → Prop) (s : State) (d : DevNo) (f : DeviceLive → DeviceLive)
    (hocc : (f (s.devices[d]'d.isLt).live).occupancy = (s.devices[d]'d.isLt).live.occupancy)
    (hst : (f (s.devices[d]'d.isLt).live).state = .disabled → (s.devices[d]'d.isLt).live.state = .disabled)
    (hrest : ¬ X d → (s.devices[d]'d.isLt).live.AtRest → (f (s.devices[d]'d.isLt).live).AtRest) : Quiet X s (s.modLive d f) where
  cfg e := State.modLive_cfg s d e f
  locks h p k hk := by
    rw [State.modLive_cfg] at hk ⊢
    exact h p k hk
  rest e hX hr := by
    rw [State.modLive_get]
    split
    · next h => subst h; exact hrest hX hr
    · exact hr
  enabled e he := by
    rw [State.modLive_get] at he
    split at he
    · next h => subst h; exact hst he
    · exact he
  stock := by
    refine Stock.ext_iff'.mpr ⟨fun e => ?_, rfl, rfl, rfl, rfl⟩
    rw [State.modLive_get]
    split
    · next h => subst h; exact hocc
    · rfl

/-- A write to the coils alone. -/
theorem Quiet.of_coils (X : DevNo → Prop) {s t : State} (ht : ∃ coils : Vector Coil 24, t = { s with coils := coils })
    (hcfg : ∀ c : CoilNo, (t.coils[c]'c.isLt).cfg = (s.coils[c]'c.isLt).cfg) (hsafe : s.CoilsSafe → t.CoilsSafe) : Quiet X s t := by
  obtain ⟨coils, rfl⟩ := ht
  exact { coilCfg := hcfg, coils := hsafe }

/-- A write to the slots alone. -/
theorem Quiet.of_slots (X : DevNo → Prop) {s t : State} (ht : ∃ slots : Vector Slot 8, t = { s with slots := slots })
    (hsafe : s.SlotsSafe → t.SlotsSafe) : Quiet X s t := by
  obtain ⟨slots, rfl⟩ := ht
  exact { slots := hsafe }

/-- A write to the accounting record that counts no ball and keeps the phase. -/
theorem Quiet.modAcct (X : DevNo → Prop) (s : State) (f : Accounting → Accounting)
    (hin : (f s.acct).installed = s.acct.installed) (hlive : (f s.acct).live = s.acct.live)
    (hmiss : (f s.acct).missing = s.acct.missing) (hfl : (f s.acct).flights = s.acct.flights)
    (hph : (f s.acct).phase = s.acct.phase) : Quiet X s (s.modAcct f) where
  session _ h := by
    simp only [State.SessionSafe, State.modAcct_acct, hph]
    exact h
  stock := Stock.ext_iff'.mpr ⟨fun _ => rfl, hin, hlive, hmiss, hfl⟩

/-- A write to the accounting record that keeps the phase. -/
theorem Work.modAcct (X : DevNo → Prop) (s : State) (f : Accounting → Accounting)
    (hph : (f s.acct).phase = s.acct.phase) : Work X s (s.modAcct f) where
  session _ h := by
    simp only [State.SessionSafe, State.modAcct_acct, hph]
    exact h

end Sys2Proof.Machine

/-! The arbiter keeps the coils in order (R45, R47, R50): every operation leaves what fires as it is, but for the grant and
the end of a pulse. -/

namespace Sys2Proof.Machine

/-! ### Coils and groups -/

/-- The rules of one coil's live part: IDLE it serves no one, and age and priority are in their ranges. -/
def CoilLive.Fine (l : CoilLive) : Prop :=
  (l.state = .idle → l.owner = none ∧ l.cls = none ∧ l.priority = 0 ∧ l.age = 0 ∧ l.held = none) ∧
    l.age ≤ 7 ∧ l.priority ≤ 15

/-- A live part that is not IDLE is fine with its age and priority in range. -/
theorem CoilLive.fine_of_busy {l : CoilLive} (hs : l.state ≠ .idle) (ha : l.age ≤ 7) (hp : l.priority ≤ 15) : l.Fine :=
  ⟨fun h => (hs h).elim, ha, hp⟩

theorem State.coilsSafe_iff {s : State} : s.CoilsSafe ↔
    (∀ g : Group, (s.firing g).length = if (s.group g).state = .busy then 1 else 0) ∧
      ∀ c : CoilNo, (s.coils[c]'c.isLt).live.Fine := by
  constructor
  · rintro ⟨hg, hidle, hr⟩
    refine ⟨fun g => hg g ?_, fun c => ⟨hidle c, hr c⟩⟩
    cases g <;> simp
  · rintro ⟨hg, hf⟩
    exact ⟨fun g _ => hg g, fun c => (hf c).1, fun c => (hf c).2⟩

theorem State.mem_firing {s : State} {g : Group} {c : CoilNo} :
    c ∈ s.firing g ↔ (s.coils[c]'c.isLt).live.state = .firing ∧ (s.coils[c]'c.isLt).cfg.group = g := by
  simp [State.firing, indices]

theorem State.nodup_firing (s : State) (g : Group) : (s.firing g).Nodup := (List.nodup_finRange 24).filter _

/-- What fires in a group is told by its members. -/
theorem State.firing_congr {s t : State} {g : Group}
    (h : ∀ c : CoilNo, ((t.coils[c]'c.isLt).live.state = .firing ∧ (t.coils[c]'c.isLt).cfg.group = g) ↔
      ((s.coils[c]'c.isLt).live.state = .firing ∧ (s.coils[c]'c.isLt).cfg.group = g)) : t.firing g = s.firing g := by
  unfold State.firing
  refine List.filter_congr fun c _ => ?_
  rw [Bool.eq_iff_iff]
  simpa using h c

/-- The coils stay in order when what fires, and which groups are BUSY, stays as it was. -/
theorem State.CoilsSafe.of_steady {s t : State} (hs : s.CoilsSafe)
    (hfire : ∀ c : CoilNo, (t.coils[c]'c.isLt).live.state = .firing ↔ (s.coils[c]'c.isLt).live.state = .firing)
    (hcfg : ∀ c : CoilNo, (t.coils[c]'c.isLt).cfg = (s.coils[c]'c.isLt).cfg)
    (hgroup : ∀ g : Group, (t.group g).state = .busy ↔ (s.group g).state = .busy)
    (hfine : ∀ c : CoilNo, (s.coils[c]'c.isLt).live.Fine → (t.coils[c]'c.isLt).live.Fine) : t.CoilsSafe := by
  obtain ⟨hg, hf⟩ := State.coilsSafe_iff.mp hs
  refine State.coilsSafe_iff.mpr ⟨fun g => ?_, fun c => hfine c (hf c)⟩
  rw [State.firing_congr (s := s) (fun c => by rw [hfire, hcfg]), hg g]
  simp only [hgroup]

/-- A write to one coil's live part that neither lights nor quenches it. -/
theorem Quiet.modCoilLive (X : DevNo → Prop) (s : State) (c : CoilNo) (f : CoilLive → CoilLive)
    (hfire : (f (s.coils[c]'c.isLt).live).state = .firing ↔ (s.coils[c]'c.isLt).live.state = .firing)
    (hfine : (s.coils[c]'c.isLt).live.Fine → (f (s.coils[c]'c.isLt).live).Fine) : Quiet X s (s.modCoilLive c f) := by
  refine .of_coils X ⟨_, rfl⟩ (fun e => State.modCoilLive_cfg s c e f) fun hs =>
    hs.of_steady (fun e => ?_) (fun e => State.modCoilLive_cfg s c e f) (fun g => Iff.rfl) fun e he => ?_
  all_goals rw [State.modCoilLive_get]
  · split
    · next h => subst h; exact hfire
    · rfl
  · split
    · next h => subst h; exact hfine he
    · exact he

/-! ### A coil that leaves its work or enters a waiting -/

/-- Nothing but coil `c` changes; it does not fire afterwards, and stays fine. -/
structure CoilStep (c : CoilNo) (s t : State) : Prop where
  frame : ∃ coils : Vector Coil 24, t = { s with coils := coils }
  others : ∀ e : CoilNo, e ≠ c → (t.coils[e]'e.isLt) = (s.coils[e]'e.isLt)
  cfg : (t.coils[c]'c.isLt).cfg = (s.coils[c]'c.isLt).cfg
  quenched : (t.coils[c]'c.isLt).live.state ≠ .firing
  fine : (s.coils[c]'c.isLt).live.Fine → (t.coils[c]'c.isLt).live.Fine

theorem CoilStep.trans {c : CoilNo} {s t u : State} (h : CoilStep c s t) (g : CoilStep c t u) : CoilStep c s u where
  frame := by
    obtain ⟨v, rfl⟩ := h.frame
    obtain ⟨w, rfl⟩ := g.frame
    exact ⟨w, rfl⟩
  others e he := (g.others e he).trans (h.others e he)
  cfg := g.cfg.trans h.cfg
  quenched := g.quenched
  fine hf := g.fine (h.fine hf)

theorem CoilStep.modCoilLive (s : State) (c : CoilNo) (f : CoilLive → CoilLive)
    (hq : (f (s.coils[c]'c.isLt).live).state ≠ .firing) (hf : (s.coils[c]'c.isLt).live.Fine → (f (s.coils[c]'c.isLt).live).Fine) :
    CoilStep c s (s.modCoilLive c f) where
  frame := ⟨_, rfl⟩
  others e he := by rw [State.modCoilLive_get, if_neg he]
  cfg := State.modCoilLive_cfg s c c f
  quenched := by rw [State.modCoilLive_get, if_pos rfl]; exact hq
  fine h := by rw [State.modCoilLive_get, if_pos rfl]; exact hf h

theorem CoilStep.cfg_eq {c : CoilNo} {s t : State} (h : CoilStep c s t) (e : CoilNo) :
    (t.coils[e]'e.isLt).cfg = (s.coils[e]'e.isLt).cfg := by
  by_cases he : e = c
  · subst he; exact h.cfg
  · rw [h.others e he]

/-- A coil that did not fire before does its step with the coils in order. -/
theorem CoilStep.quiet {c : CoilNo} {s t : State} (h : CoilStep c s t) (hc : (s.coils[c]'c.isLt).live.state ≠ .firing)
    (X : DevNo → Prop) : Quiet X s t := by
  refine .of_coils X h.frame h.cfg_eq fun hs => hs.of_steady (fun e => ?_) h.cfg_eq (fun g => ?_) fun e he => ?_
  · by_cases he : e = c
    · subst he
      exact iff_of_false h.quenched hc
    · rw [h.others e he]
  · obtain ⟨v, rfl⟩ := h.frame
    cases g <;> rfl
  · by_cases hec : e = c
    · subst hec
      exact h.fine he
    · rw [h.others e hec]
      exact he

theorem Options.initialPriority_le (o : Options) (k : ReqClass) : o.initialPriority k ≤ 15 := by
  cases k <;> exact Nat.min_le_left _ _

theorem CoilStep.enterWaiting (c : CoilNo) (o : Owner) (k : ReqClass) (s : State) :
    CoilStep c s (enterWaiting c o k s) :=
  .modCoilLive s c _ (by simp) fun _ => CoilLive.fine_of_busy (by simp) (Nat.zero_le _) (Options.initialPriority_le _ k)

theorem CoilStep.enterIdle (c : CoilNo) (s : State) : CoilStep c s (enterIdle c s) := by
  simp only [Machine.enterIdle]
  have h := CoilStep.modCoilLive s c (fun l =>
    { l with state := .idle, owner := none, cls := none, priority := 0, age := 0, ageDue := false, held := none,
             interval := false, ending := false, timer := l.timer.halt }) (by simp) (fun _ => by simp [CoilLive.Fine])
  split
  · exact h.trans (.enterWaiting c _ _ _)
  · exact h

/-- A coil whose work has ended recovers, or is IDLE at once. -/
theorem CoilStep.enterRecovering (c : CoilNo) (s : State) (hs : (s.coils[c]'c.isLt).live.state ≠ .idle) :
    CoilStep c s (enterRecovering c s) := by
  simp only [Machine.enterRecovering]
  split
  · have h := CoilStep.enterIdle c (s.modCoilLive c fun l => { l with timer := .stopped })
    exact
      { frame := by obtain ⟨v, hv⟩ := h.frame; exact ⟨v, hv⟩
        others := fun e he => by rw [h.others e he, State.modCoilLive_get, if_neg he]
        cfg := by rw [h.cfg, State.modCoilLive_cfg]
        quenched := h.quenched
        fine := fun hf => h.fine (by rw [State.modCoilLive_get, if_pos rfl]; exact hf) }
  · exact .modCoilLive s c _ (by simp) fun hf => CoilLive.fine_of_busy (by simp) hf.2.1 hf.2.2

/-! ### Requests and their ends -/

theorem requestEject_quiet (X : DevNo → Prop) (c : CoilNo) (d : DevNo) (s : State) :
    Quiet X s (requestEject c d s) := by
  unfold requestEject
  split
  · next h => exact (CoilStep.enterWaiting c _ _ s).quiet (h.trans_ne (by simp)) X
  · next h => exact .modCoilLive X s c _ Iff.rfl fun hf => CoilLive.fine_of_busy h hf.2.1 hf.2.2

theorem requestSearch_quiet (X : DevNo → Prop) (c : CoilNo) (s : State) : Quiet X s (requestSearch c s).1 := by
  unfold requestSearch
  split
  · next h => exact (CoilStep.enterWaiting c _ _ s).quiet (h.trans_ne (by simp)) X
  · exact .refl X s

theorem endRequest_quiet (X : DevNo → Prop) (c : CoilNo) (d : DevNo) (s : State) : Quiet X s (endRequest c d s) := by
  simp only [endRequest]
  split
  · exact .modCoilLive X s c _ Iff.rfl fun hf =>
      ⟨fun h => let ⟨h1, h2, h3, h4, _⟩ := hf.1 h; ⟨h1, h2, h3, h4, rfl⟩, hf.2⟩
  · split
    · exact .refl X s
    · split
      · next h =>
        split
        · exact (CoilStep.enterIdle c s).quiet (h.trans_ne (by simp)) X
        · exact (CoilStep.enterRecovering c s (h.trans_ne (by simp))).quiet (h.trans_ne (by simp)) X
      · exact .modCoilLive X s c _ Iff.rfl fun hf => hf
      · next h => exact (CoilStep.enterRecovering c s (h.trans_ne (by simp))).quiet (h.trans_ne (by simp)) X
      · next h =>
        split
        · exact (CoilStep.enterRecovering c s (h.trans_ne (by simp))).quiet (h.trans_ne (by simp)) X
        · exact .refl X s
      · exact .refl X s

theorem withdrawWaiting_quiet (X : DevNo → Prop) (classes : List ReqClass) (s : State) :
    Quiet X s (withdrawWaiting classes s) :=
  .foldl _ (fun s c => by
    dsimp only
    split
    · next h => exact (CoilStep.enterIdle c s).quiet (h.1.trans_ne (by simp)) X
    · exact .refl X s) _ s

/-! ### The grant and the ends of pulses -/

/-- A write to coils and groups alone. -/
theorem Quiet.of_arbiter (X : DevNo → Prop) {s t : State}
    (ht : ∃ (coils : Vector Coil 24) (a b : GroupRec), t = { s with coils := coils, groupA := a, groupB := b })
    (hcfg : ∀ c : CoilNo, (t.coils[c]'c.isLt).cfg = (s.coils[c]'c.isLt).cfg) (hsafe : s.CoilsSafe → t.CoilsSafe) : Quiet X s t := by
  obtain ⟨coils, a, b, rfl⟩ := ht
  exact { coilCfg := hcfg, coils := hsafe }

theorem State.modGroup_frame (s : State) (g : Group) (f : GroupRec → GroupRec) :
    ∃ a b : GroupRec, s.modGroup g f = { s with groupA := a, groupB := b } := by
  cases g
  · exact ⟨_, _, rfl⟩
  · exact ⟨_, _, rfl⟩

theorem State.modGroup_other (s : State) {g h : Group} (hg : h ≠ g) (f : GroupRec → GroupRec) :
    (s.modGroup g f).group h = s.group h := by
  cases g <;> cases h <;> first | rfl | exact absurd rfl hg

theorem State.group_of_coils {s t : State} (h : ∃ coils : Vector Coil 24, t = { s with coils := coils }) (g : Group) :
    t.group g = s.group g := by
  obtain ⟨v, rfl⟩ := h
  cases g <;> rfl

/-- One coil of a group that is not BUSY begins to fire, and the group is BUSY with it. -/
theorem State.CoilsSafe.light {s t : State} (hs : s.CoilsSafe) (c : CoilNo)
    (hfree : (s.group (s.coils[c]'c.isLt).cfg.group).state ≠ .busy)
    (hothers : ∀ e : CoilNo, e ≠ c → (t.coils[e]'e.isLt) = (s.coils[e]'e.isLt)) (hcfg : (t.coils[c]'c.isLt).cfg = (s.coils[c]'c.isLt).cfg)
    (hfire : (t.coils[c]'c.isLt).live.state = .firing) (hfine : (t.coils[c]'c.isLt).live.Fine)
    (hbusy : (t.group (s.coils[c]'c.isLt).cfg.group).state = .busy)
    (hgroup : ∀ g : Group, g ≠ (s.coils[c]'c.isLt).cfg.group → t.group g = s.group g) : t.CoilsSafe := by
  have c_lt := c.isLt
  obtain ⟨hg, hf⟩ := State.coilsSafe_iff.mp hs
  refine State.coilsSafe_iff.mpr ⟨fun g => ?_, fun e => ?_⟩
  · by_cases hgc : g = (s.coils[c]'c.isLt).cfg.group
    · subst hgc
      have hnone : s.firing (s.coils[c]'c.isLt).cfg.group = [] := by
        rw [← List.length_eq_zero_iff, hg, if_neg hfree]
      have hone : t.firing (s.coils[c]'c.isLt).cfg.group = [c] := by
        refine List.perm_singleton.mp ((List.perm_ext_iff_of_nodup (t.nodup_firing _) (by simp)).mpr fun e => ?_)
        rw [State.mem_firing, List.mem_singleton]
        by_cases he : e = c
        · subst he
          exact iff_of_true ⟨hfire, by rw [hcfg]⟩ rfl
        · rw [hothers e he, ← State.mem_firing, hnone]
          simp [he]
      rw [hone, if_pos hbusy]
      rfl
    · rw [hgroup g hgc, ← hg g]
      refine congrArg List.length (State.firing_congr fun e => ?_)
      by_cases he : e = c
      · subst he
        rw [hcfg]
        exact iff_of_false (fun h => hgc h.2.symm) (fun h => hgc h.2.symm)
      · rw [hothers e he]
  · by_cases he : e = c
    · subst he
      exact hfine
    · rw [hothers e he]
      exact hf e

/-- The coil that fires in a group ends its pulse, and the group is BUSY no more. -/
theorem State.CoilsSafe.quench {s t : State} (hs : s.CoilsSafe) (c : CoilNo)
    (hfire : (s.coils[c]'c.isLt).live.state = .firing)
    (hothers : ∀ e : CoilNo, e ≠ c → (t.coils[e]'e.isLt) = (s.coils[e]'e.isLt)) (hcfg : (t.coils[c]'c.isLt).cfg = (s.coils[c]'c.isLt).cfg)
    (hq : (t.coils[c]'c.isLt).live.state ≠ .firing) (hfine : (s.coils[c]'c.isLt).live.Fine → (t.coils[c]'c.isLt).live.Fine)
    (hidle : (t.group (s.coils[c]'c.isLt).cfg.group).state ≠ .busy)
    (hgroup : ∀ g : Group, g ≠ (s.coils[c]'c.isLt).cfg.group → t.group g = s.group g) : t.CoilsSafe := by
  have c_lt := c.isLt
  obtain ⟨hg, hf⟩ := State.coilsSafe_iff.mp hs
  refine State.coilsSafe_iff.mpr ⟨fun g => ?_, fun e => ?_⟩
  · by_cases hgc : g = (s.coils[c]'c.isLt).cfg.group
    · subst hgc
      have hmem : c ∈ s.firing (s.coils[c]'c.isLt).cfg.group := State.mem_firing.mpr ⟨hfire, rfl⟩
      have hle : (s.firing (s.coils[c]'c.isLt).cfg.group).length ≤ 1 := by
        rw [hg]
        split <;> simp
      have hnone : t.firing (s.coils[c]'c.isLt).cfg.group = [] := by
        refine List.eq_nil_iff_forall_not_mem.mpr fun e he => ?_
        rw [State.mem_firing] at he
        by_cases hec : e = c
        · subst hec
          exact hq he.1
        · rw [hothers e hec, ← State.mem_firing] at he
          obtain ⟨x, hx⟩ := List.length_eq_one_iff.mp (le_antisymm hle (List.length_pos_of_mem hmem))
          simp only [hx, List.mem_singleton] at he hmem
          exact hec (he.trans hmem.symm)
      rw [hnone, if_neg hidle]
      rfl
    · rw [hgroup g hgc, ← hg g]
      refine congrArg List.length (State.firing_congr fun e => ?_)
      by_cases he : e = c
      · subst he
        rw [hcfg]
        exact iff_of_false (fun h => hgc h.2.symm) (fun h => hgc h.2.symm)
      · rw [hothers e he]
  · by_cases he : e = c
    · subst he
      exact hfine (hf e)
    · rw [hothers e he]
      exact hf e

/-- The waiting set of a group: the coils that wait in it. -/
theorem State.mem_waitingSet {s : State} {g : Group} {c : CoilNo} :
    c ∈ s.waitingSet g ↔ (s.coils[c]'c.isLt).live.state = .waiting ∧ (s.coils[c]'c.isLt).cfg.group = g := by
  simp [State.waitingSet, indices]

/-- Folding by a choice between what was best and the next element gives one of the list, or what it began with. -/
theorem foldl_choice_mem {α : Type} (f : Option α → α → Option α) (hf : ∀ o a, f o a = some a ∨ f o a = o) (l : List α)
    (o : Option α) (c : α) (h : l.foldl f o = some c) : c ∈ l ∨ o = some c := by
  induction l generalizing o with
  | nil => exact .inr h
  | cons a l ih =>
    obtain hc | hc := ih _ h
    · exact .inl (List.mem_cons_of_mem a hc)
    · obtain ha | ha := hf o a
      · rw [ha, Option.some.injEq] at hc
        exact .inl (hc ▸ List.mem_cons_self)
      · exact .inr (ha ▸ hc)

/-- The winner of a group waits in it. -/
theorem State.winner_waits {s : State} {g : Group} {c : CoilNo} (h : s.winner g = some c) :
    (s.coils[c]'c.isLt).live.state = .waiting ∧ (s.coils[c]'c.isLt).cfg.group = g := by
  rw [← State.mem_waitingSet]
  simp only [State.winner] at h
  split at h
  · exact List.mem_of_mem_filter (List.mem_of_head? h)
  · refine List.mem_of_mem_filter ((foldl_choice_mem _ (fun o a => ?_) _ none c h).resolve_right (by simp))
    cases o with
    | none => exact .inl rfl
    | some b =>
      dsimp only
      split
      · exact .inl rfl
      · exact .inr rfl

theorem fire_frame (g : Group) (c : CoilNo) (s : State) :
    ∃ (coils : Vector Coil 24) (a b : GroupRec), fire g c s = { s with coils := coils, groupA := a, groupB := b } := by
  obtain ⟨a, b, h⟩ := State.modGroup_frame (s.modCoil c fun v =>
    { v with live := { v.live with
      state := .firing, grantWidth := if v.live.cls = some .direct then v.live.grantWidth else v.cfg.pulseWidth,
      timer := .load (if v.live.cls = some .direct then v.live.grantWidth else v.cfg.pulseWidth),
      pulses := v.live.pulses + 1, ageDue := false, ending := false } }) g fun r => { r with state := .busy, last := c }
  exact ⟨_, a, b, h⟩

/-- A coil fired: its record, the others as they were. -/
theorem fire_get (g : Group) (c e : CoilNo) (s : State) : (fire g c s).coils[e] =
    if e = c then
      { (s.coils[c]'c.isLt) with
        live := { (s.coils[c]'c.isLt).live with
                    state := .firing,
                    grantWidth := if (s.coils[c]'c.isLt).live.cls = some .direct then (s.coils[c]'c.isLt).live.grantWidth
                      else (s.coils[c]'c.isLt).cfg.pulseWidth,
                    timer := .load (if (s.coils[c]'c.isLt).live.cls = some .direct then (s.coils[c]'c.isLt).live.grantWidth
                      else (s.coils[c]'c.isLt).cfg.pulseWidth),
                    pulses := (s.coils[c]'c.isLt).live.pulses + 1, ageDue := false, ending := false } }
    else (s.coils[e]'e.isLt) := by
  simp only [fire, State.modGroup_coils]
  exact State.modCoil_get s c e _

theorem takeGrant_quiet (X : DevNo → Prop) (g : Group) (s : State) : Quiet X s (takeGrant g s) := by
  obtain h | ⟨c, hfree, hw, h⟩ := takeGrant_cases g s
  · rw [h]
    exact .refl X s
  obtain ⟨hwait, rfl⟩ := State.winner_waits hw
  rw [h]
  have hcfg (e : CoilNo) : (fire (s.coils[c]'c.isLt).cfg.group c s).coils[e].cfg = (s.coils[e]'e.isLt).cfg := by
    rw [fire_get]
    split
    · next he => rw [he]
    · rfl
  refine .of_arbiter X (fire_frame _ c s) hcfg fun hs => hs.light c (hfree.trans_ne (by simp)) (fun e he => ?_) (hcfg c) ?_ ?_ ?_
    fun g hg => ?_
  · rw [fire_get, if_neg he]
  · rw [fire_get, if_pos rfl]
  · rw [fire_get, if_pos rfl]
    obtain ⟨-, hf⟩ := State.coilsSafe_iff.mp hs
    exact CoilLive.fine_of_busy (by simp) (hf c).2.1 (hf c).2.2
  · simp [fire]
  · rw [fire, State.modGroup_other _ hg]
    cases g <;> rfl

theorem takePriorityAging_quiet (X : DevNo → Prop) (c : CoilNo) (s : State) : Quiet X s (takePriorityAging c s) := by
  simp only [takePriorityAging]
  split
  · next h =>
    exact .modCoilLive X s c _ Iff.rfl fun hf =>
      CoilLive.fine_of_busy (h.1.trans_ne (by simp)) (Nat.zero_le _) ((Nat.sub_le _ 1).trans hf.2.2)
  · exact .refl X s

/-- A group that is not BUSY changes to another state that is not. -/
theorem Quiet.modGroup (X : DevNo → Prop) (s : State) (g : Group) (f : GroupRec → GroupRec)
    (hf : (f (s.group g)).state = .busy ↔ (s.group g).state = .busy) : Quiet X s (s.modGroup g f) := by
  obtain ⟨a, b, h⟩ := State.modGroup_frame s g f
  refine .of_arbiter X ⟨s.coils, a, b, h⟩ (fun c => by rw [State.modGroup_coils]) fun hs =>
    hs.of_steady (fun c => by rw [State.modGroup_coils]) (fun c => by rw [State.modGroup_coils]) (fun k => ?_)
      fun c hc => by rw [State.modGroup_coils]; exact hc
  by_cases hk : k = g
  · subst hk
    rw [State.modGroup_self]
    exact hf
  · rw [State.modGroup_other s hk]

theorem takeGapExpiry_quiet (X : DevNo → Prop) (g : Group) (s : State) : Quiet X s (takeGapExpiry g s) := by
  unfold takeGapExpiry
  split
  · next h => exact .modGroup X s g _ (iff_of_false (by simp) (h.1.trans_ne (by simp)))
  · exact .refl X s

theorem takeRecoveryExpiry_quiet (X : DevNo → Prop) (c : CoilNo) (s : State) : Quiet X s (takeRecoveryExpiry c s) := by
  simp only [takeRecoveryExpiry]
  split
  · next h =>
    refine (Quiet.modCoilLive X s c (fun l => { l with timer := .stopped }) Iff.rfl fun hf => hf).trans
      ((CoilStep.enterIdle c _).quiet ?_ X)
    rw [State.modCoilLive_get, if_pos rfl]
    exact h.1.trans_ne (by simp)
  · exact .refl X s

theorem takeIntervalExpiry_quiet (X : DevNo → Prop) (c : CoilNo) (s : State) : Quiet X s (takeIntervalExpiry c s) := by
  simp only [takeIntervalExpiry]
  split
  · next h =>
    exact .modCoilLive X s c _ (iff_of_false (by simp) (h.1.trans_ne (by simp))) fun _ =>
      CoilLive.fine_of_busy (by simp) (Nat.zero_le _) (Options.initialPriority_le _ _)
  · exact .refl X s

end Sys2Proof.Machine

/-! The eject slots keep their queues (R26), and the eject work of the devices keeps all that `Quiet` says (R20 to R38). -/

namespace Sys2Proof.Machine

/-! ### Queues of slots -/

theorem nodup_indices (n : Nat) : (indices n).Nodup := List.nodup_finRange n

@[simp] theorem mem_indices {n : Nat} (i : Fin n) : i ∈ indices n := List.mem_finRange i

/-- The QUEUED slots of a device. -/
def State.queue (s : State) (d : DevNo) : Finset SlotNo :=
  Finset.univ.filter fun n => (s.slots[n]'n.isLt).state = .queued ∧ (s.slots[n]'n.isLt).device = d

theorem State.mem_queue {s : State} {d : DevNo} {n : SlotNo} :
    n ∈ s.queue d ↔ (s.slots[n]'n.isLt).state = .queued ∧ (s.slots[n]'n.isLt).device = d := by
  simp [State.queue]

theorem State.queuedCount_eq_card (s : State) (d : DevNo) : s.queuedCount d = (s.queue d).card := by
  rw [State.queuedCount, List.countP_eq_length_filter,
    ← List.toFinset_card_of_nodup ((nodup_indices 8).filter _)]
  congr 1
  ext n
  simp [State.mem_queue]

/-- Slots that are in a queue as before, with counts in range, are safe as before. -/
theorem State.SlotsSafe.of_steady {s t : State} (hs : s.SlotsSafe)
    (hc : ∀ n : SlotNo, (t.slots[n]'n.isLt).ejected ≤ (t.slots[n]'n.isLt).requested ∧ (t.slots[n]'n.isLt).requested ≤ 8)
    (hq : ∀ n : SlotNo, (t.slots[n]'n.isLt).state = .queued ↔ (s.slots[n]'n.isLt).state = .queued)
    (hn : ∀ n : SlotNo, (s.slots[n]'n.isLt).state = .queued →
      (t.slots[n]'n.isLt).device = (s.slots[n]'n.isLt).device ∧ (t.slots[n]'n.isLt).issue = (s.slots[n]'n.isLt).issue) : t.SlotsSafe := by
  obtain ⟨-, hlt, hinj⟩ := hs
  have hqueue (d : DevNo) : t.queue d = s.queue d := by
    ext n
    rw [State.mem_queue, State.mem_queue, hq]
    exact and_congr_right fun h => by rw [(hn n h).1]
  refine ⟨hc, fun n h => ?_, fun m n hm h hd hi => ?_⟩
  · rw [hq] at h
    rw [State.queuedCount_eq_card, hqueue, (hn n h).1, (hn n h).2, ← State.queuedCount_eq_card]
    exact hlt n h
  · rw [hq] at hm h
    rw [(hn m hm).1, (hn n h).1] at hd
    rw [(hn m hm).2, (hn n h).2] at hi
    exact hinj m n hm h hd hi

/-- The place of a slot after its queue has closed up stays below the shorter queue's length. -/
theorem closedUp_lt {gone old new n : Nat} (h : new + (if gone < old then 1 else 0) = old) (hold : old < n + 1)
    (hgone : gone < n + 1) (hne : old ≠ gone) : new < n := by
  split at h <;> omega

/-- Different places stay different when their queue closes up. -/
theorem closedUp_inj {gone old old' new : Nat} (h : new + (if gone < old then 1 else 0) = old)
    (h' : new + (if gone < old' then 1 else 0) = old') (hne : old ≠ gone) (hne' : old' ≠ gone) : old = old' := by
  split at h <;> split at h' <;> omega

/-- The slots after slot `n` has left its queue, the younger ones of its device closing up. -/
def State.closesUp (s t : State) (n : SlotNo) : Prop :=
  ∀ m : SlotNo, m ≠ n → (t.slots[m]'m.isLt) =
    if (s.slots[m]'m.isLt).state = .queued ∧ (s.slots[m]'m.isLt).device = (s.slots[n]'n.isLt).device ∧ (s.slots[n]'n.isLt).issue < (s.slots[m]'m.isLt).issue then
      { (s.slots[m]'m.isLt) with issue := (s.slots[m]'m.isLt).issue - 1 }
    else (s.slots[m]'m.isLt)

section
variable {s t : State} {n m : SlotNo} (ho : s.closesUp t n) (hm : m ≠ n)
include ho hm

theorem State.closesUp.same : (t.slots[m]'m.isLt).state = (s.slots[m]'m.isLt).state ∧ (t.slots[m]'m.isLt).device = (s.slots[m]'m.isLt).device ∧
    (t.slots[m]'m.isLt).ejected = (s.slots[m]'m.isLt).ejected ∧ (t.slots[m]'m.isLt).requested = (s.slots[m]'m.isLt).requested := by
  rw [ho m hm]
  split <;> exact ⟨rfl, rfl, rfl, rfl⟩

theorem State.closesUp.issue (hq : (s.slots[m]'m.isLt).state = .queued) (hd : (s.slots[m]'m.isLt).device = (s.slots[n]'n.isLt).device) :
    (t.slots[m]'m.isLt).issue + (if (s.slots[n]'n.isLt).issue < (s.slots[m]'m.isLt).issue then 1 else 0) = (s.slots[m]'m.isLt).issue := by
  rw [ho m hm]
  split
  · next hlt =>
    rw [if_pos hlt.2.2]
    exact Nat.sub_add_cancel (Nat.one_le_of_lt hlt.2.2)
  · next hlt =>
    rw [if_neg fun h => hlt ⟨hq, hd, h⟩]
    rfl

theorem State.closesUp.elsewhere (hd : (s.slots[m]'m.isLt).device ≠ (s.slots[n]'n.isLt).device) : (t.slots[m]'m.isLt).issue = (s.slots[m]'m.isLt).issue := by
  rw [ho m hm, if_neg fun h => hd h.2.1]

end

theorem State.closesUp.queue {s t : State} {n : SlotNo} (ho : s.closesUp t n) (hn : (t.slots[n]'n.isLt).state ≠ .queued)
    (d : DevNo) : t.queue d = (s.queue d).erase n := by
  ext m
  rw [Finset.mem_erase, State.mem_queue, State.mem_queue]
  by_cases hm : m = n
  · subst hm
    exact iff_of_false (fun h => hn h.1) (fun h => h.1 rfl)
  · obtain ⟨hstate, hdevice, -, -⟩ := ho.same hm
    rw [hstate, hdevice]
    exact ⟨fun h => ⟨hm, h⟩, fun h => h.2⟩

/-- A slot that leaves its queue, the younger ones closing up, leaves the queues without gaps. -/
theorem State.SlotsSafe.dequeue {s t : State} (hs : s.SlotsSafe) (n : SlotNo) (hqn : (s.slots[n]'n.isLt).state = .queued)
    (hn : (t.slots[n]'n.isLt).state ≠ .queued) (hc : (t.slots[n]'n.isLt).ejected ≤ (t.slots[n]'n.isLt).requested ∧ (t.slots[n]'n.isLt).requested ≤ 8)
    (ho : s.closesUp t n) : t.SlotsSafe := by
  obtain ⟨hcs, hlt, hinj⟩ := hs
  have hne {m : SlotNo} (h : (t.slots[m]'m.2).state = .queued) : m ≠ n := fun e => hn (e ▸ h)
  have hcard : t.queuedCount (s.slots[n]'n.2).device + 1 = s.queuedCount (s.slots[n]'n.2).device := by
    rw [State.queuedCount_eq_card, State.queuedCount_eq_card, ho.queue hn]
    exact Finset.card_erase_add_one (State.mem_queue.mpr ⟨hqn, rfl⟩)
  refine ⟨fun m => ?_, fun m h => ?_, fun m k hm hk hd hi => ?_⟩
  · by_cases hm : m = n
    · subst hm
      exact hc
    · obtain ⟨-, -, hejected, hrequested⟩ := ho.same hm
      rw [hejected, hrequested]
      exact hcs m
  · have hm := hne h
    obtain ⟨hstate, hdevice, -, -⟩ := ho.same hm
    rw [hstate] at h
    have hold := hlt m h
    have hnlt := hlt n hqn
    rw [hdevice]
    by_cases hd : (s.slots[m]'m.2).device = (s.slots[n]'n.2).device
    · rw [hd, ← hcard] at hold
      rw [← hcard] at hnlt
      rw [hd]
      exact closedUp_lt (ho.issue hm h hd) hold hnlt fun e => hm (hinj m n h hqn hd e)
    · rw [ho.elsewhere hm hd, State.queuedCount_eq_card, ho.queue hn, Finset.erase_eq_of_notMem,
        ← State.queuedCount_eq_card]
      · exact hold
      · rw [State.mem_queue]
        exact fun h => hd h.2.symm
  · have hmn := hne hm
    have hkn := hne hk
    obtain ⟨hmstate, hmdevice, -, -⟩ := ho.same hmn
    obtain ⟨hkstate, hkdevice, -, -⟩ := ho.same hkn
    rw [hmstate] at hm
    rw [hkstate] at hk
    rw [hmdevice, hkdevice] at hd
    refine hinj m k hm hk hd ?_
    by_cases hdn : (s.slots[m]'m.2).device = (s.slots[n]'n.2).device
    · have hdk := hd.symm.trans hdn
      exact closedUp_inj (ho.issue hmn hm hdn) (hi ▸ ho.issue hkn hk hdk) (fun e => hmn (hinj m n hm hqn hdn e))
        fun e => hkn (hinj k n hk hqn hdk e)
    · rw [ho.elsewhere hmn hdn, ho.elsewhere hkn (hd ▸ hdn)] at hi
      exact hi

/-- A slot that enters a queue as its last leaves the queues without gaps. -/
theorem State.SlotsSafe.enqueue {s t : State} (hs : s.SlotsSafe) (n : SlotNo) (hqn : (s.slots[n]'n.isLt).state ≠ .queued)
    (hn : (t.slots[n]'n.isLt).state = .queued) (hi : (t.slots[n]'n.isLt).issue = s.queuedCount (t.slots[n]'n.isLt).device)
    (hc : (t.slots[n]'n.isLt).ejected ≤ (t.slots[n]'n.isLt).requested ∧ (t.slots[n]'n.isLt).requested ≤ 8)
    (ho : ∀ m : SlotNo, m ≠ n → (t.slots[m]'m.isLt) = (s.slots[m]'m.isLt)) : t.SlotsSafe := by
  obtain ⟨hcs, hlt, hinj⟩ := hs
  have hqueue (d : DevNo) : t.queue d = if d = (t.slots[n]'n.isLt).device then insert n (s.queue d) else s.queue d := by
    ext m
    by_cases hm : m = n
    · subst hm
      split
      · next h =>
        rw [State.mem_queue]
        exact iff_of_true ⟨hn, h.symm⟩ (Finset.mem_insert_self _ _)
      · next h =>
        rw [State.mem_queue, State.mem_queue]
        exact iff_of_false (fun g => h g.2.symm) (fun g => hqn g.1)
    · rw [State.mem_queue, ho m hm, ← State.mem_queue]
      split <;> simp [hm]
  have hcard (d : DevNo) : t.queuedCount d = if d = (t.slots[n]'n.isLt).device then s.queuedCount d + 1 else s.queuedCount d := by
    rw [State.queuedCount_eq_card, State.queuedCount_eq_card, hqueue]
    split
    · exact Finset.card_insert_of_notMem fun h => hqn (State.mem_queue.mp h).1
    · rfl
  refine ⟨fun m => ?_, fun m h => ?_, fun m k hm hk hd hik => ?_⟩
  · by_cases hm : m = n
    · subst hm
      exact hc
    · rw [ho m hm]
      exact hcs m
  · rw [hcard]
    by_cases hm : m = n
    · subst hm
      rw [if_pos rfl, hi]
      exact Nat.lt_succ_self _
    · rw [ho m hm] at h ⊢
      have := hlt m h
      split <;> omega
  · by_cases hmn : m = n <;> by_cases hkn : k = n
    · exact hmn.trans hkn.symm
    · subst hmn
      rw [ho k hkn] at hk hd hik
      have := hlt k hk
      rw [hi, hd] at hik
      omega
    · subst hkn
      rw [ho m hmn] at hm hd hik
      have := hlt m hm
      rw [hi, ← hd] at hik
      omega
    · rw [ho m hmn] at hm hd hik
      rw [ho k hkn] at hk hd hik
      exact hinj m k hm hk hd hik

/-- A write to a slot that leaves its place in a queue as it is. -/
theorem Quiet.modSlot (X : DevNo → Prop) (s : State) (n : SlotNo) (f : Slot → Slot)
    (hc : (s.slots[n]'n.isLt).ejected ≤ (s.slots[n]'n.isLt).requested ∧ (s.slots[n]'n.isLt).requested ≤ 8 →
      (f (s.slots[n]'n.isLt)).ejected ≤ (f (s.slots[n]'n.isLt)).requested ∧ (f (s.slots[n]'n.isLt)).requested ≤ 8)
    (hq : (f (s.slots[n]'n.isLt)).state = .queued ↔ (s.slots[n]'n.isLt).state = .queued)
    (hn : (s.slots[n]'n.isLt).state = .queued →
      (f (s.slots[n]'n.isLt)).device = (s.slots[n]'n.isLt).device ∧ (f (s.slots[n]'n.isLt)).issue = (s.slots[n]'n.isLt).issue) :
    Quiet X s (s.modSlot n f) := by
  refine .of_slots X ⟨_, rfl⟩ fun hs => hs.of_steady (fun m => ?_) (fun m => ?_) fun m => ?_
  all_goals
    rw [State.modSlot_get]
    split
  · next h => subst h; exact hc (hs.1 m)
  · exact hs.1 m
  · next h => subst h; exact hq
  · rfl
  · next h => subst h; exact hn
  · exact fun _ => ⟨rfl, rfl⟩

theorem leaveQueue_get (n m : SlotNo) (s : State) : (leaveQueue n s).slots[m] =
    if (s.slots[m]'m.isLt).state = .queued ∧ (s.slots[m]'m.isLt).device = (s.slots[n]'n.isLt).device ∧ (s.slots[n]'n.isLt).issue < (s.slots[m]'m.isLt).issue then
      { (s.slots[m]'m.isLt) with issue := (s.slots[m]'m.isLt).issue - 1 }
    else (s.slots[m]'m.isLt) := by
  simp [leaveQueue]

/-- Leaving the queue touches no other field of the slot that leaves, nor its place. -/
theorem leaveQueue_self (n : SlotNo) (s : State) : (leaveQueue n s).slots[n] = (s.slots[n]'n.isLt) := by
  rw [leaveQueue_get, if_neg fun h => Nat.lt_irrefl _ h.2.2]

/-- A QUEUED slot leaves its queue and is written. -/
theorem dequeue_quiet (X : DevNo → Prop) (s : State) (n : SlotNo) (f : Slot → Slot) (hq : (s.slots[n]'n.isLt).state = .queued)
    (hf : (f (s.slots[n]'n.isLt)).state ≠ .queued)
    (hc : (s.slots[n]'n.isLt).ejected ≤ (s.slots[n]'n.isLt).requested ∧ (s.slots[n]'n.isLt).requested ≤ 8 →
      (f (s.slots[n]'n.isLt)).ejected ≤ (f (s.slots[n]'n.isLt)).requested ∧ (f (s.slots[n]'n.isLt)).requested ≤ 8) :
    Quiet X s ((leaveQueue n s).modSlot n f) := by
  have hself : ((leaveQueue n s).modSlot n f).slots[n] = f (s.slots[n]'n.isLt) := by
    rw [State.modSlot_get, if_pos rfl, leaveQueue_self]
  refine .of_slots X ⟨_, rfl⟩ fun hs => hs.dequeue n hq ?_ ?_ fun m hm => ?_
  · rw [hself]
    exact hf
  · rw [hself]
    exact hc (hs.1 n)
  · rw [State.modSlot_get, if_neg hm, leaveQueue_get]

theorem finishSlot_quiet (X : DevNo → Prop) (n : SlotNo) (r : SlotResult) (s : State) :
    Quiet X s (finishSlot n r s) := by
  simp only [finishSlot]
  split
  · next h => exact (dequeue_quiet X s n _ h (by simp) id).trans (.raise X _ (by simp))
  · next h =>
    exact (Quiet.modSlot X s n _ id (iff_of_false (by simp) h) fun g => (h g).elim).trans (.raise X _ (by simp))

theorem cancelQueued_quiet (X : DevNo → Prop) (d : DevNo) (s : State) : Quiet X s (cancelQueued d s) :=
  .foldl _ (fun s n => by
    split
    · exact finishSlot_quiet X n _ s
    · exact .refl X s) _ s

theorem cancelSlots_quiet (X : DevNo → Prop) (s : State) : Quiet X s (cancelSlots s) :=
  .foldl _ (fun s n => by
    split
    · exact .refl X s
    · exact finishSlot_quiet X n _ s) _ s

theorem issueSlot_quiet (X : DevNo → Prop) (n : SlotNo) (d : DevNo) (count : Nat) (s : State)
    (hn : (s.slots[n]'n.isLt).state = .idle) : Quiet X s (issueSlot n d count s) := by
  have hself : (issueSlot n d count s).slots[n] =
      { state := .queued, device := d, requested := min 8 count, ejected := 0, result := .none,
        issue := s.queuedCount d } := by
    rw [issueSlot, State.modSlot_get, if_pos rfl]
  refine .of_slots X ⟨_, rfl⟩ fun hs => hs.enqueue n (hn.trans_ne (by simp)) ?_ ?_ ?_ fun m hm => ?_
  · rw [hself]
  · rw [hself]
  · rw [hself]
    exact ⟨Nat.zero_le _, Nat.min_le_left _ _⟩
  · rw [issueSlot, State.modSlot_get, if_neg hm]

theorem State.oldestQueued_spec {s : State} {d : DevNo} {n : SlotNo} (h : s.oldestQueued d = some n) :
    (s.slots[n]'n.isLt).state = .queued ∧ (s.slots[n]'n.isLt).device = d ∧ (s.slots[n]'n.isLt).issue = 0 := by
  have h' := List.find?_some h
  simpa only [Bool.and_eq_true, beq_iff_eq, and_assoc] using h'

/-! ### Orders -/

/-- What a device at rest holds. -/
theorem DeviceLive.atRest_iff {l : DeviceLive} : l.AtRest ↔
    l.state = .disabled ∧ l.occupancy = 0 ∧ l.entriesSeen = 0 ∧ l.owed = 0 ∧ l.order = .none ∧ l.attemptCount = 0 ∧
      l.attemptExits = 0 ∧ l.attemptConfirmed = false ∧ l.exitsInOrder = 0 ∧ l.stopPending = false ∧
      l.countFault = false ∧ (l.settle.running = false ∧ l.settle.due = false) ∧
      (l.confirm.running = false ∧ l.confirm.due = false) ∧ (l.hold.running = false ∧ l.hold.due = false) ∧
      l.intended = 0 := by
  obtain ⟨_, _, _, _, _, _, _, _, _, _, _, ⟨_, _, _⟩, ⟨_, _, _⟩, ⟨_, _, _⟩, _⟩ := l
  simp [DeviceLive.AtRest, DeviceLive.powerOn, Timer.halt]

theorem DeviceLive.not_atRest_of_settle {l : DeviceLive} (h : l.settle.running = true) : ¬ l.AtRest := fun hr => by
  obtain ⟨-, -, -, -, -, -, -, -, -, -, -, ⟨hrun, -⟩, -⟩ := atRest_iff.mp hr
  simp [h] at hrun

theorem DeviceLive.not_atRest_of_confirm {l : DeviceLive} (h : l.confirm.running = true) : ¬ l.AtRest := fun hr => by
  obtain ⟨-, -, -, -, -, -, -, -, -, -, -, -, ⟨hrun, -⟩, -⟩ := atRest_iff.mp hr
  simp [h] at hrun

theorem DeviceLive.not_atRest_of_hold {l : DeviceLive} (h : l.hold.running = true) : ¬ l.AtRest := fun hr => by
  obtain ⟨-, -, -, -, -, -, -, -, -, -, -, -, -, ⟨hrun, -⟩, -⟩ := atRest_iff.mp hr
  simp [h] at hrun

/-- A quiet operation that is done or left out. -/
theorem Quiet.after_ite {X : DevNo → Prop} {s t : State} {f : State → State} (c : Prop) [Decidable c]
    (hf : ∀ s, Quiet X s (f s)) (h : Quiet X s t) : Quiet X s (if c then f t else t) := by
  split
  · exact h.trans (hf t)
  · exact h

/-- A write to the live part of the device that is worked on. -/
theorem Quiet.modOwn (s : State) (d : DevNo) (f : DeviceLive → DeviceLive)
    (hocc : (f (s.devices[d]'d.isLt).live).occupancy = (s.devices[d]'d.isLt).live.occupancy := by rfl)
    (hst : (f (s.devices[d]'d.isLt).live).state = .disabled → (s.devices[d]'d.isLt).live.state = .disabled := by
      first | exact fun h => h | exact fun h => nomatch h) :
    Quiet (· = d) s (s.modLive d f) :=
  .modLive _ s d f hocc hst fun h => (h rfl).elim

/-- Work on a device that is not at rest leaves every device at rest that was. -/
theorem Quiet.on_busy {d : DevNo} {s t : State} (h : Quiet (· = d) s t) (hd : ¬ (s.devices[d]'d.isLt).live.AtRest)
    (X : DevNo → Prop) : Quiet X s t :=
  h.of_busy fun _ he _ => he ▸ hd

theorem beginOrder_quiet (d : DevNo) (o : Order) (s : State) : Quiet (· = d) s (beginOrder d o s) := Quiet.modOwn s d _

theorem startBall_quiet (d : DevNo) (n : Nat) (s : State) : Quiet (· = d) s (startBall d n s) :=
  (Quiet.modOwn s d _).trans (requestEject_quiet _ _ d _)

theorem takeOrderFuel_quiet (fuel : Nat) (d : DevNo) (s : State) (X : DevNo → Prop) :
    Quiet X s (takeOrderFuel fuel d s) := by
  suffices h : Quiet (· = d) s (takeOrderFuel fuel d s) by
    cases fuel with
    | zero => exact .refl X s
    | succ fuel =>
      by_cases hi : (s.devices[d]'d.isLt).live.state = .idle
      · exact h.on_busy (DeviceLive.not_atRest (hi.trans_ne (by simp))) X
      · simp only [takeOrderFuel, if_pos hi]
        exact .refl X s
  induction fuel generalizing s with
  | zero => exact .refl _ s
  | succ fuel ih =>
    simp only [takeOrderFuel]
    split
    · exact .refl _ s
    split
    · exact (beginOrder_quiet d .owed s).trans (startBall_quiet d 1 _)
    split
    · exact .refl _ s
    next n hn =>
    have hq := (State.oldestQueued_spec hn).1
    have hactive : Quiet (· = d) s ((leaveQueue n s).modSlot n fun x => { x with state := .active }) :=
      dequeue_quiet _ s n _ hq (by simp) id
    split
    · refine (hactive.trans (beginOrder_quiet d .none _)).trans ?_
      refine (Quiet.modSlot _ _ n (fun x => { x with ejected := 0 }) (fun h => ⟨Nat.zero_le _, h.2⟩) Iff.rfl
        fun _ => ⟨rfl, rfl⟩).trans ((finishSlot_quiet _ n .short _).trans (ih _))
    · exact (hactive.trans (beginOrder_quiet d _ _)).trans (startBall_quiet d 1 _)

theorem takeOrder_quiet (X : DevNo → Prop) (d : DevNo) (s : State) : Quiet X s (takeOrder d s) :=
  takeOrderFuel_quiet 9 d s X

theorem addOwedCount_quiet (X : DevNo → Prop) (d : DevNo) (s : State) : Quiet X s (addOwedCount d s) := by
  refine .modLive X s d _ ?_ ?_ fun _ hr => ?_
  · split <;> rfl
  · split <;> exact id
  · rw [if_pos hr.disabled]
    exact hr

theorem addOwed_quiet (X : DevNo → Prop) (d : DevNo) (s : State) : Quiet X s (addOwed d s) :=
  (addOwedCount_quiet X d s).trans (takeOrder_quiet X d _)

theorem addOwedTimes_quiet (X : DevNo → Prop) (d : DevNo) (n : Nat) (s : State) : Quiet X s (addOwedTimes d n s) := by
  induction n generalizing s with
  | zero => exact .refl X s
  | succ n ih => exact (addOwed_quiet X d s).trans (ih _)

theorem endOrder_quiet (d : DevNo) (r : Slot → SlotResult) (s : State) : Quiet (· = d) s (endOrder d r s) := by
  simp only [endOrder]
  refine Quiet.trans (t := match (s.devices[d]'d.isLt).live.order with
    | .slot n => finishSlot n (r (s.slots[n]'n.isLt)) s
    | _ => s) ?_ ((Quiet.modOwn _ d _).trans (takeOrder_quiet _ d _))
  split
  · exact finishSlot_quiet _ _ _ s
  · exact .refl _ s

theorem jam_quiet (d : DevNo) (s : State) : Quiet (· = d) s (jam d s) := by
  simp only [jam]
  refine (Quiet.raise (· = d) s (k := .deviceJammed) (by simp)).trans ?_
  split
  · exact (finishSlot_quiet _ _ _ _).trans (Quiet.modOwn _ d _)
  · exact Quiet.modOwn _ d _

theorem failedAttempt_quiet (d : DevNo) (s : State) : Quiet (· = d) s (failedAttempt d s) := by
  simp only [failedAttempt]
  split
  · exact endOrder_quiet d _ s
  split
  · exact startBall_quiet d _ s
  · exact jam_quiet d s

/-! ### Reports of a coil, and the timers of a device -/

theorem restartSettle_eq (d : DevNo) (s : State) :
    restartSettle d s = s.modLive d fun l => { l with settle := .load (s.devices[d]'d.isLt).cfg.settleTime } := rfl

theorem enterConfirming_eq (d : DevNo) (s : State) : enterConfirming d s =
    s.modLive d fun l => { l with state := .confirming, confirm := .load (s.devices[d]'d.isLt).cfg.confirmTimeout } := rfl

theorem restartSettle_quiet (d : DevNo) (s : State) : Quiet (· = d) s (restartSettle d s) := by
  rw [restartSettle_eq]
  exact Quiet.modOwn s d _

theorem enterConfirming_quiet (d : DevNo) (s : State) : Quiet (· = d) s (enterConfirming d s) := by
  rw [enterConfirming_eq]
  exact Quiet.modOwn s d _

theorem deviceRelease_quiet (X : DevNo → Prop) (own : Bool) (d : DevNo) (s : State) :
    Quiet X s (deviceRelease own d s) := by
  simp only [deviceRelease]
  split
  · exact .refl X s
  · next h =>
    refine Quiet.on_busy ((restartSettle_quiet d s).trans ?_) (DeviceLive.not_atRest h) X
    split
    · exact enterConfirming_quiet d _
    · exact .refl _ _

theorem devicePulseEnd_quiet (X : DevNo → Prop) (last : Bool) (d : DevNo) (s : State) :
    Quiet X s (devicePulseEnd last d s) := by
  simp only [devicePulseEnd]
  split
  · exact .refl X s
  · next h =>
    refine Quiet.on_busy ((restartSettle_quiet d s).trans ?_) (DeviceLive.not_atRest h) X
    split
    · exact enterConfirming_quiet d _
    · exact .refl _ _

theorem reportToOwner_quiet (X : DevNo → Prop) (c : CoilNo) (l : CoilLive) {report : Bool → DevNo → State → State}
    (hr : ∀ own d s, Quiet X s (report own d s)) (s : State) : Quiet X s (reportToOwner c l report s) := by
  obtain ⟨d, -, -, h⟩ | ⟨-, h⟩ := reportToOwner_cases c l report s
  · rw [h]
    exact hr _ d s
  · rw [h]
    exact .refl X s

/-- A pulse's end leaves its group BUSY no more, and touches no other group. -/
theorem groupPulseEnd_group (g h : Group) (s : State) : (groupPulseEnd g s).group h =
    if h = g then
      if s.options.groupGap = 0 then { s.group g with state := .free }
      else { s.group g with state := .gap, gap := .load s.options.groupGap }
    else s.group h := by
  unfold groupPulseEnd
  by_cases e : h = g
  · subst e
    rw [if_pos rfl]
    split <;> rw [State.modGroup_self]
  · rw [if_neg e]
    split <;> rw [State.modGroup_other s e]

theorem groupPulseEnd_frame (g : Group) (s : State) :
    ∃ a b : GroupRec, groupPulseEnd g s = { s with groupA := a, groupB := b } := by
  unfold groupPulseEnd
  split <;> exact State.modGroup_frame s g _

@[simp] theorem groupPulseEnd_coils (g : Group) (s : State) : (groupPulseEnd g s).coils = s.coils := by
  obtain ⟨a, b, h⟩ := groupPulseEnd_frame g s
  rw [h]

/-- The coil whose pulse has ended leaves FIRING with its group. -/
theorem pulseEnd_quiet (X : DevNo → Prop) (c : CoilNo) {s t : State} (hfire : (s.coils[c]'c.isLt).live.state = .firing)
    (h : CoilStep c (groupPulseEnd (s.coils[c]'c.isLt).cfg.group s) t) : Quiet X s t := by
  obtain ⟨a, b, hg⟩ := groupPulseEnd_frame (s.coils[c]'c.isLt).cfg.group s
  obtain ⟨v, hv⟩ := h.frame
  have hcfg (e : CoilNo) : (t.coils[e]'e.isLt).cfg = (s.coils[e]'e.isLt).cfg := by rw [h.cfg_eq, groupPulseEnd_coils]
  have hgroup := State.group_of_coils h.frame
  refine .of_arbiter X ⟨v, a, b, by rw [hv, hg]⟩ hcfg fun hs => hs.quench c hfire (fun e he => ?_) (hcfg c) h.quenched
    (fun hf => h.fine (by rw [groupPulseEnd_coils]; exact hf)) ?_ fun g hgc => ?_
  · rw [h.others e he, groupPulseEnd_coils]
  · rw [hgroup, groupPulseEnd_group, if_pos rfl]
    split <;> simp
  · rw [hgroup, groupPulseEnd_group, if_neg hgc]

/-- The states a coil can enter at the end of a pulse (R51 to R53). -/
theorem CoilStep.of_pulseEnd (c : CoilNo) (s : State) (hs : (s.coils[c]'c.isLt).live.state ≠ .idle) (p q : Prop) [Decidable p]
    [Decidable q] (window interval : Timer) :
    CoilStep c s (if p then Machine.enterRecovering c s
      else if q then s.modCoilLive c fun l => { l with state := .holding, timer := window }
      else s.modCoilLive c fun l => { l with state := .recovering, interval := true, timer := interval }) := by
  split
  · exact .enterRecovering c s hs
  split
  · exact .modCoilLive s c _ (by simp) fun hf => CoilLive.fine_of_busy (by simp) hf.2.1 hf.2.2
  · exact .modCoilLive s c _ (by simp) fun hf => CoilLive.fine_of_busy (by simp) hf.2.1 hf.2.2

theorem takePulseEnd_quiet (X : DevNo → Prop) (c : CoilNo) (s : State) : Quiet X s (takePulseEnd c s) := by
  simp only [takePulseEnd]
  split
  · next h =>
    refine Quiet.trans (pulseEnd_quiet X c h.1 (.of_pulseEnd c _ ?_ _ _ _ _))
      (reportToOwner_quiet X c _ (fun own d s => ?_) _)
    · rw [groupPulseEnd_coils]
      exact h.1.trans_ne (by simp)
    · split
      · exact (devicePulseEnd_quiet X _ d s).trans (deviceRelease_quiet X own d _)
      · exact devicePulseEnd_quiet X _ d s
  · exact .refl X s

theorem takeHoldWindowExpiry_quiet (X : DevNo → Prop) (c : CoilNo) (s : State) :
    Quiet X s (takeHoldWindowExpiry c s) := by
  simp only [takeHoldWindowExpiry]
  split
  · next h =>
    exact ((CoilStep.enterRecovering c s (h.1.trans_ne (by simp))).quiet (h.1.trans_ne (by simp)) X).trans
      (reportToOwner_quiet X c _ (deviceRelease_quiet X) _)
  · exact .refl X s

/-! ### Cancelling -/

theorem setStopPending_quiet (d : DevNo) (s : State) : Quiet (· = d) s (setStopPending d s) := Quiet.modOwn s d _

theorem cancelOrder_quiet (X : DevNo → Prop) (d : DevNo) (s : State) : Quiet X s (cancelOrder d s) := by
  simp only [cancelOrder]
  split
  · next h =>
    refine Quiet.on_busy (d := d) ?_ (DeviceLive.not_atRest (h.trans_ne (by simp))) X
    split
    · exact (endRequest_quiet _ _ d s).trans (endOrder_quiet d _ _)
    · exact endOrder_quiet d _ s
    · exact ((setStopPending_quiet d s).trans (endRequest_quiet _ _ d _)).trans (enterConfirming_quiet d _)
    · exact (setStopPending_quiet d s).trans (endRequest_quiet _ _ d _)
    · exact ((setStopPending_quiet d s).trans (endRequest_quiet _ _ d _)).trans (deviceRelease_quiet _ true d _)
  · next h =>
    exact (setStopPending_quiet d s).on_busy (DeviceLive.not_atRest (h.trans_ne (by simp))) X
  · exact .refl X s

/-- A device's owed ejects are dropped. -/
theorem Quiet.clearOwed (X : DevNo → Prop) (d : DevNo) (s : State) :
    Quiet X s (s.modLive d fun l => { l with owed := 0 }) :=
  .modLive X s d _ rfl id fun _ hr => by
    rw [DeviceLive.atRest_iff] at hr ⊢
    obtain ⟨hst, hocc, hseen, -, hrest⟩ := hr
    exact ⟨hst, hocc, hseen, rfl, hrest⟩

theorem cancelEjects_quiet (X : DevNo → Prop) (d : DevNo) (includeOwed : Bool) (s : State) :
    Quiet X s (cancelEjects d includeOwed s) := by
  simp only [cancelEjects]
  refine (cancelQueued_quiet X d s).trans ?_
  split
  · exact (Quiet.clearOwed X d _).trans (cancelOrder_quiet X d _)
  · exact cancelOrder_quiet X d _

theorem takeConfirmTimerExpiry_quiet (X : DevNo → Prop) (d : DevNo) (s : State) :
    Quiet X s (takeConfirmTimerExpiry d s) := by
  simp only [takeConfirmTimerExpiry]
  split
  · next h =>
    refine Quiet.on_busy ((Quiet.modOwn s d fun l => { l with confirm := .stopped }).trans ?_)
      (DeviceLive.not_atRest_of_confirm h.1) X
    split
    · split
      · split
        · exact endOrder_quiet d _ _
        · exact endOrder_quiet d _ _
      · exact failedAttempt_quiet d _
    · exact .refl _ _
  · exact .refl X s

theorem takeSaucerHoldExpiry_quiet (X : DevNo → Prop) (d : DevNo) (s : State) :
    Quiet X s (takeSaucerHoldExpiry d s) := by
  simp only [takeSaucerHoldExpiry]
  split
  · next h =>
    exact Quiet.on_busy ((Quiet.modOwn s d fun l => { l with hold := .stopped }).trans (addOwed_quiet _ d _))
      (DeviceLive.not_atRest_of_hold h.1) X
  · exact .refl X s

/-! ### Acting on what an evaluation counts -/

/-- A count of exits against the current order. -/
theorem confirmExits_quiet (d : DevNo) (exits : Nat) (s : State) : Quiet (· = d) s (confirmExits d exits s) := by
  simp only [confirmExits]
  refine Quiet.trans ?_ ((Quiet.modOwn _ d _).trans (.raiseIf _ _ _ (by simp)))
  split
  · exact .modSlot _ s _ _ (fun h => ⟨Nat.min_le_left _ _, h.2⟩) Iff.rfl fun _ => ⟨rfl, rfl⟩
  · exact Quiet.modOwn s d _
  · exact .refl _ s

theorem uncountExit_quiet (d : DevNo) (s : State) : Quiet (· = d) s (uncountExit d s) := by
  simp only [uncountExit]
  refine Quiet.trans ?_ (Quiet.modOwn _ d _)
  split
  · exact .modSlot _ s _ _ (fun h => ⟨(Nat.sub_le _ 1).trans h.1, h.2⟩) Iff.rfl fun _ => ⟨rfl, rfl⟩
  · exact Quiet.modOwn s d _
  · exact .refl _ s

theorem nextBall_quiet (d : DevNo) (s : State) : Quiet (· = d) s (nextBall d s) := by
  simp only [nextBall]
  split
  · exact startBall_quiet d 1 s
  · exact .refl _ s

theorem reuseRequest_quiet (d : DevNo) (s : State) : Quiet (· = d) s (reuseRequest d s) := by
  refine Quiet.modOwn s d _ ?_ ?_
  · split <;> rfl
  · split <;> exact id

theorem actEjecting_quiet (d : DevNo) (s : State) : Quiet (· = d) s (actEjecting d s) := by
  simp only [actEjecting]
  have hend := endRequest_quiet (· = d) (s.devices[d]'d.isLt).cfg.coil d s
  cases s.stage (s.devices[d]'d.isLt).cfg.coil d with
  | queued =>
    dsimp only
    split
    · exact hend.trans (enterConfirming_quiet d _)
    · exact reuseRequest_quiet d s
  | between => exact (hend.trans (enterConfirming_quiet d _)).trans (nextBall_quiet d _)
  | firing =>
    dsimp only
    split <;> split <;> first | exact hend | exact reuseRequest_quiet d s | exact .refl _ s
  | holding =>
    dsimp only
    split
    · exact hend.trans (deviceRelease_quiet _ true d _)
    · exact .refl _ s
  | closed => exact .refl _ s

theorem actFallback_quiet (d : DevNo) (s : State) : Quiet (· = d) s (actFallback d s) := by
  simp only [actFallback]
  split
  · exact (uncountExit_quiet d s).trans (failedAttempt_quiet d _)
  · exact uncountExit_quiet d s

theorem actOnOrder_quiet (d : DevNo) (exits : Nat) (fallback : Bool) (s : State) :
    Quiet (· = d) s (actOnOrder d exits fallback s) := by
  simp only [actOnOrder]
  have hconfirmed := Quiet.after_ite ((s.devices[d]'d.isLt).live.order ≠ .none ∧ 1 ≤ exits) (confirmExits_quiet d exits)
    (.refl _ s)
  split
  · exact (Quiet.after_ite _ (uncountExit_quiet d) hconfirmed).trans (endOrder_quiet d _ _)
  · exact .after_ite _ (actFallback_quiet d) (.after_ite _ (nextBall_quiet d)
      (.after_ite _ (actEjecting_quiet d) hconfirmed))

theorem saucerHold_quiet (d : DevNo) (before ordinary : Nat) (s : State) :
    Quiet (· = d) s (saucerHold d before ordinary s) := by
  obtain h | ⟨-, -, h⟩ | ⟨-, -, -, -, -, ⟨-, h⟩ | ⟨-, h⟩⟩ := saucerHold_cases d before ordinary s <;> rw [h]
  · exact .refl _ s
  · exact Quiet.modOwn s d _
  · exact addOwedCount_quiet _ d s
  · exact Quiet.modOwn s d _

end Sys2Proof.Machine

/-! Pages, modes and scores, the search and the close of an event, locks, awards and tilt: each operation is quiet
(chapters 4 to 9). -/

namespace Sys2Proof.Machine

/-! ### Stacks of contexts -/

/-- A context without the marks of expiries not yet taken. -/
def Context.plain (c : Context) : Context := { c with timerDue := false, hurryDue := false }

@[simp] theorem derived_map_fst (l : List Context) : (derived l).map (·.1) = l := by
  induction l with
  | nil => rfl
  | cons c l ih => simp [derived, ih]

@[simp] theorem derived_length (l : List Context) : (derived l).length = l.length := by
  rw [← List.length_map (f := Prod.fst) (as := derived l), derived_map_fst]

theorem mem_of_mem_derived {l : List Context} {x : Context × RunState} (h : x ∈ derived l) : x.1 ∈ l := by
  rw [← derived_map_fst l]
  exact List.mem_map_of_mem h

theorem mem_of_contextOf {l : List Context} {id : Nat} {c : Context} {r : RunState}
    (h : contextOf l id = some (c, r)) : c ∈ l ∧ c.id = id :=
  ⟨mem_of_mem_derived (List.mem_of_find?_eq_some h), by simpa using List.find?_some h⟩

theorem mem_of_runningContext {l : List Context} {id : Nat} {c : Context} (h : runningContext l id = some c) :
    c ∈ l ∧ c.id = id := by
  obtain ⟨x, hx, rfl⟩ := Option.map_eq_some_iff.mp h
  have := List.find?_some hx
  simp only [Bool.and_eq_true, beq_iff_eq] at this
  exact ⟨mem_of_mem_derived (List.mem_of_find?_eq_some hx), this.1⟩

/-- Holding a stack changes the marks of its contexts alone. -/
@[simp] theorem holdStack_plain (ok : Bool) (l : List Context) :
    (holdStack ok l).map Context.plain = l.map Context.plain := by
  unfold holdStack
  rw [List.map_map]
  conv_rhs => rw [← derived_map_fst l, List.map_map]
  rfl

@[simp] theorem holdStack_nil (ok : Bool) : holdStack ok [] = [] := rfl

/-- The rules of one stack (R143). -/
def SafeStack (l : List Context) : Prop :=
  l.length ≤ Config.maxDepth ∧ (l.map fun c => c.id).Nodup ∧ ∀ c ∈ l, c.Safe

/-- The marks of a stack do not matter to its rules. -/
theorem SafeStack.of_plain {l m : List Context} (hl : SafeStack l)
    (h : m.map Context.plain = l.map Context.plain) : SafeStack m := by
  obtain ⟨hlen, hid, hc⟩ := hl
  have hids : m.map (fun c => c.id) = l.map (fun c => c.id) := by
    have := congrArg (List.map fun c : Context => c.id) h
    rw [List.map_map, List.map_map] at this
    exact this
  refine ⟨?_, hids ▸ hid, fun c hcm => ?_⟩
  · rw [← List.length_map (f := Context.plain), h, List.length_map]
    exact hlen
  · obtain ⟨d, hd, hdc⟩ := List.mem_map.mp (h ▸ List.mem_map_of_mem (f := Context.plain) hcm)
    have hs : d.plain.Safe := hc d hd
    rw [hdc] at hs
    exact hs

theorem SafeStack.filter {l : List Context} (hl : SafeStack l) (test : Context → Bool) : SafeStack (l.filter test) :=
  ⟨(List.length_filter_le _ _).trans hl.1, hl.2.1.sublist (List.filter_sublist.map _),
    fun c hc => hl.2.2 c (List.mem_of_mem_filter hc)⟩

/-- A change of contexts that keeps each id and its rules keeps the stack's. -/
theorem SafeStack.map {l : List Context} (hl : SafeStack l) (f : Context → Context)
    (hf : ∀ c ∈ l, c.Safe → (f c).Safe ∧ (f c).id = c.id) : SafeStack (l.map f) := by
  refine ⟨(List.length_map f).trans_le hl.1, ?_, fun c hc => ?_⟩
  · have hids : l.map (fun c => (f c).id) = l.map fun c => c.id :=
      List.map_congr_left fun c hc => (hf c hc (hl.2.2 c hc)).2
    rw [List.map_map]
    exact hids.symm ▸ hl.2.1
  · obtain ⟨d, hd, rfl⟩ := List.mem_map.mp hc
    exact (hf d hd (hl.2.2 d hd)).1

theorem Page.safe_iff {g : Page} : g.Safe ↔
    g.score ≤ Config.maxScore ∧ g.rollover ≤ 9 ∧ g.last.total ≤ Config.maxScore ∧ SafeStack g.stack := Iff.rfl

/-- On a safe stack an id names one context. -/
theorem SafeStack.eq_of_id {l : List Context} (hl : SafeStack l) {c d : Context} (hc : c ∈ l) (hd : d ∈ l)
    (h : c.id = d.id) : c = d := List.inj_on_of_nodup_map hl.2.1 hc hd h

/-! ### Writes of pages -/

/-- A write to one page: it stays safe, its stack stays empty in a CLOSED session, its locks stay within capacity, and no
score changes but the current player's. -/
theorem Quiet.modPage (X : DevNo → Prop) (s : State) (p : PlayerNo) (f : Page → Page)
    (hg : s.GameSafe → (f (s.pages[p]'p.isLt)).Safe)
    (hstack : s.session.state = .closed → (s.pages[p]'p.isLt).stack = [] → (f (s.pages[p]'p.isLt)).stack = [])
    (hlock : s.LocksSafe → ∀ k : LockNo, s.devices[lockDevice k].cfg.kind = .lock →
      (f (s.pages[p]'p.isLt)).lit[k] + (f (s.pages[p]'p.isLt)).credits[k] ≤ s.devices[lockDevice k].cfg.capacity)
    (hscore : p ≠ s.session.current → (f (s.pages[p]'p.isLt)).score = (s.pages[p]'p.isLt).score) : Quiet X s (s.modPage p f) where
  game hs := by
    refine ⟨fun q => ?_, hs.2⟩
    rw [State.modPage_get]
    split
    · exact hg hs
    · exact hs.1 q
  session _ := fun ⟨h1, h2, h3, h4, h5, h6⟩ => by
    refine ⟨h1, h2, h3, h4, fun hc q => ?_, h6⟩
    rw [State.modPage_get]
    split
    · exact hstack hc (h5 hc p)
    · exact h5 hc q
  locks hs q k hk := by
    rw [State.modPage_get]
    split
    · exact hlock hs k hk
    · exact hs q k hk
  scores q hq := by
    rw [State.modPage_get]
    split
    · next h => subst h; exact hscore hq
    · rfl

/-- A write to one page that keeps its score and its locks. -/
theorem Quiet.modStack (X : DevNo → Prop) (s : State) (p : PlayerNo) (f : Page → Page)
    (hg : s.GameSafe → (f (s.pages[p]'p.isLt)).Safe)
    (hstack : s.session.state = .closed → (s.pages[p]'p.isLt).stack = [] → (f (s.pages[p]'p.isLt)).stack = [])
    (hlit : (f (s.pages[p]'p.isLt)).lit = (s.pages[p]'p.isLt).lit := by rfl)
    (hcredits : (f (s.pages[p]'p.isLt)).credits = (s.pages[p]'p.isLt).credits := by rfl)
    (hscore : (f (s.pages[p]'p.isLt)).score = (s.pages[p]'p.isLt).score := by rfl) : Quiet X s (s.modPage p f) := by
  refine .modPage X s p f hg hstack (fun hs k hk => ?_) fun _ => hscore
  rw [hlit, hcredits]
  exact hs p k hk

theorem holdTimers_get (s : State) (p : PlayerNo) : (holdTimers s).pages[p] =
    { (s.pages[p]'p.isLt) with stack := holdStack (s.modesCount && p == s.session.current) (s.pages[p]'p.isLt).stack } := by
  simp [holdTimers]

theorem holdTimers_quiet (X : DevNo → Prop) (s : State) : Quiet X s (holdTimers s) where
  game hs := by
    refine ⟨fun p => ?_, hs.2⟩
    rw [holdTimers_get]
    obtain ⟨h1, h2, h3, h4⟩ := Page.safe_iff.mp (hs.1 p)
    exact ⟨h1, h2, h3, h4.of_plain (holdStack_plain _ _)⟩
  session _ := fun ⟨h1, h2, h3, h4, h5, h6⟩ => by
    refine ⟨h1, h2, h3, h4, fun hc p => ?_, h6⟩
    rw [holdTimers_get]
    exact (congrArg (holdStack _) (h5 hc p)).trans (holdStack_nil _)
  locks hs p k hk := by
    rw [holdTimers_get]
    exact hs p k hk
  scores p _ := by rw [holdTimers_get]

theorem modContext_quiet (X : DevNo → Prop) (p : PlayerNo) (id : Nat) (f : Context → Context) (s : State)
    (hf : s.GameSafe → ∀ c ∈ (s.pages[p]'p.isLt).stack, c.id = id → c.Safe → (f c).Safe ∧ (f c).id = c.id) :
    Quiet X s (modContext p id f s) := by
  refine .modStack X s p _ (fun hs => ?_) fun _ h => by dsimp only; rw [h]; rfl
  obtain ⟨h1, h2, h3, h4⟩ := Page.safe_iff.mp (hs.1 p)
  refine ⟨h1, h2, h3, h4.map _ fun c hc hsafe => ?_⟩
  split
  · next h => exact hf hs c hc h hsafe
  · exact ⟨hsafe, rfl⟩

theorem addTotal_quiet (X : DevNo → Prop) (p : PlayerNo) (id v : Nat) (s : State) : Quiet X s (addTotal p id v s) :=
  modContext_quiet X p id _ s fun _ _ _ _ ⟨h1, h2, h3, h4, h5, h6, h7, h8, h9, h10, h11, _⟩ =>
    ⟨⟨h1, h2, h3, h4, h5, h6, h7, h8, h9, h10, h11, Nat.min_le_left _ _⟩, rfl⟩

/-- The page after a score addition of a value in range is safe. -/
theorem addScore_page_safe {p : PlayerNo} {v : Nat} {s : State} (hs : s.GameSafe) (hv : v ≤ Config.maxScore)
    (q : PlayerNo) : (addScore p v s).1.pages[q].Safe := by
  obtain ⟨h1, h2, h3⟩ := hs.1 p
  obtain ⟨hle, h⟩ | ⟨-, -, h⟩ | ⟨-, -, hr, h⟩ := addScore_cases p v s <;> rw [h] <;> dsimp only
  · rw [State.modPage_get]
    split
    · exact ⟨hle, h2, h3⟩
    · exact hs.1 q
  · rw [State.modPage_get]
    split
    · exact ⟨le_refl _, h2, h3⟩
    · exact hs.1 q
  · rw [State.raise_pages, State.modPage_get]
    split
    · refine ⟨?_, hr, h3⟩
      simp only [Config.maxScore, Config.rollModulus] at *
      omega
    · exact hs.1 q

theorem addScore_quiet (X : DevNo → Prop) (v : Nat) (s : State) (hv : s.GameSafe → v ≤ Config.maxScore) :
    Quiet X s (addScore s.session.current v s).1 := by
  have hsafe (hs : s.GameSafe) := addScore_page_safe (p := s.session.current) hs (hv hs) s.session.current
  obtain ⟨-, h⟩ | ⟨-, -, h⟩ | ⟨-, -, -, h⟩ := addScore_cases s.session.current v s <;> rw [h] at hsafe ⊢ <;>
    dsimp only at hsafe ⊢
  · simp only [State.modPage_get, if_pos] at hsafe
    exact .modPage X s _ _ hsafe (fun _ h => h) (fun hs k hk => hs _ k hk) fun hp => (hp rfl).elim
  · simp only [State.modPage_get, if_pos] at hsafe
    exact .modPage X s _ _ hsafe (fun _ h => h) (fun hs k hk => hs _ k hk) fun hp => (hp rfl).elim
  · simp only [State.raise_pages, State.modPage_get, if_pos] at hsafe
    refine Quiet.trans ?_ (.raise X _ (by simp))
    refine .modPage X s _ _ ?_ (fun _ h => ?_) (fun hs k hk => ?_) fun hp => (hp rfl).elim
    · exact hsafe
    · dsimp only
      exact h
    · dsimp only
      exact hs s.session.current k hk

theorem setStack_quiet (X : DevNo → Prop) (p : PlayerNo) (stack : List Context) (s : State)
    (hg : s.GameSafe → SafeStack stack) (hstack : s.session.state = .closed → (s.pages[p]'p.isLt).stack = [] → stack = []) :
    Quiet X s (setStack p stack s) :=
  (Quiet.modStack X s p (fun g => { g with stack := stack })
    (fun hs => let ⟨h1, h2, h3, _⟩ := Page.safe_iff.mp (hs.1 p); ⟨h1, h2, h3, hg hs⟩) hstack).trans
    (holdTimers_quiet X _)

/-- A context built from a safe template is safe. -/
theorem Context.build_safe {id : Nat} {t : Template} (h1 : 1 ≤ id) (h63 : id ≤ 63) (ht : t.Safe) :
    (Context.build id t).Safe := by
  obtain ⟨hm, hm9, hj, hjm, hh, hhs, hp, hn, ht⟩ := ht
  refine ⟨h1, h63, ⟨hm, hm9, hj, hjm, hh, hhs, hp, hn, ht⟩, Nat.zero_le _, le_refl _, hj, hh, le_refl _, ?_, ?_, ht,
    Nat.zero_le _⟩
  · simp only [Context.build, decide_eq_true_eq]
    exact fun h => h
  · simp only [Context.build, decide_eq_false_iff_not]
    omega

theorem State.template_safe {s : State} {id : Nat} {t : Template} (hs : s.GameSafe) (h : s.template id = some t) :
    1 ≤ id ∧ id ≤ 63 ∧ t.Safe := by
  unfold State.template at h
  split at h
  · next hid =>
    refine ⟨hid.1, hid.2, hs.2.1 ⟨id - 1, by omega⟩ t ?_⟩
    rw [Option.mem_toList]
    exact h
  · exact absurd h (by simp)

theorem push_quiet (X : DevNo → Prop) (p : PlayerNo) (id : Nat) (s : State) : Quiet X s (push p id s).1 := by
  obtain ⟨_, -, h⟩ | ⟨t, ht, hid, hlen, hopen, h⟩ := push_cases p id s <;> rw [h]
  · exact .refl X s
  · refine setStack_quiet X p _ s (fun hs => ?_) fun hc => absurd (hopen.symm.trans hc) (by simp)
    obtain ⟨h1, h63, hsafe⟩ := State.template_safe hs ht
    obtain ⟨-, -, -, hl⟩ := Page.safe_iff.mp (hs.1 p)
    refine ⟨by simpa using hlen, ?_, fun c hc => ?_⟩
    · rw [List.map_append]
      refine List.Nodup.append hl.2.1 (by simp) ?_
      simpa [List.disjoint_singleton, Context.build] using hid
    · obtain hc | hc := List.mem_append.mp hc
      · exact hl.2.2 c hc
      · rw [List.mem_singleton.mp hc]
        exact Context.build_safe h1 h63 hsafe

/-- Holding the timers does not look at the last-ended record. -/
theorem setStack_modLast (p : PlayerNo) (stack : List Context) (last : LastEnded) (s : State) :
    (setStack p stack s).modPage p (fun g => { g with last := last }) =
      holdTimers (s.modPage p fun g => { g with stack := stack, last := last }) := by
  have hpages : ((setStack p stack s).modPage p (fun g => { g with last := last })).pages =
      (holdTimers (s.modPage p fun g => { g with stack := stack, last := last })).pages := by
    refine Vector.ext fun i hi => ?_
    have h (q : PlayerNo) : ((setStack p stack s).modPage p (fun g => { g with last := last })).pages[q] =
        (holdTimers (s.modPage p fun g => { g with stack := stack, last := last })).pages[q] := by
      simp only [State.modPage_get, setStack, holdTimers_get, if_true]
      split
      · next h => subst h; rfl
      · rfl
    exact h ⟨i, hi⟩
  change ({ (setStack p stack s).modPage p (fun g => { g with last := last }) with
    pages := ((setStack p stack s).modPage p (fun g => { g with last := last })).pages } : State) = _
  rw [hpages]
  rfl

/-- The end of a context on a stack as one write of its page. -/
theorem endContext_of_contextOf {p : PlayerNo} {id : Nat} {s : State} {c : Context} {x : RunState} (r : EndReason)
    (h : contextOf (s.pages[p]'p.isLt).stack id = some (c, x)) : endContext p id r s =
      (holdTimers (s.modPage p fun g =>
        { g with stack := (s.pages[p]'p.isLt).stack.filter (fun x => x.id != id),
                 last := { id := id, reason := r, total := c.total } })).raise .modeEnded := by
  simp only [endContext, h]
  rw [setStack_modLast]

theorem endContext_quiet (X : DevNo → Prop) (p : PlayerNo) (id : Nat) (r : EndReason) (s : State) :
    Quiet X s (endContext p id r s) := by
  cases h : contextOf (s.pages[p]'p.isLt).stack id with
  | none =>
    simp only [endContext, h]
    exact .refl X s
  | some x =>
    obtain ⟨c, x⟩ := x
    rw [endContext_of_contextOf r h]
    refine ((Quiet.modStack X s p _ (fun hs => ?_) fun _ hn => ?_).trans (holdTimers_quiet X _)).trans
      (.raise X _ (by simp))
    · obtain ⟨h1, h2, -, hl⟩ := Page.safe_iff.mp (hs.1 p)
      obtain ⟨-, -, -, -, -, -, -, -, -, -, -, htotal⟩ := hl.2.2 c (mem_of_contextOf h).1
      exact ⟨h1, h2, htotal, hl.filter _⟩
    · dsimp only
      rw [hn]
      rfl

theorem completionBonus_le (total pct : Nat) (h : pct ≤ 100) : completionBonus total pct ≤ total := by
  have h1 : total * pct / 100 ≤ total := by
    refine (Nat.div_le_div_right (Nat.mul_le_mul_left total h)).trans ?_
    rw [Nat.mul_div_cancel _ (by decide)]
  exact (Nat.div_mul_le_self _ _).trans h1

/-- A completion is quiet when the context's total and percentage are those of one on the stack. -/
theorem complete_quiet (X : DevNo → Prop) (c : Context) (s : State)
    (hc : ∃ d ∈ s.page.stack, d.total = c.total ∧ d.tpl = c.tpl) :
    Quiet X s (complete s.session.current c s).1 := by
  obtain ⟨d, hd, htotal, htpl⟩ := hc
  have hscore : Quiet X s (addScore s.session.current (completionBonus c.total c.tpl.completionPct) s).1 := by
    refine addScore_quiet X _ s fun hs => ?_
    obtain ⟨-, -, ⟨-, -, -, -, -, -, hp, -, -⟩, -, -, -, -, -, -, -, -, ht⟩ := (hs.1 s.session.current).2.2.2.2.2 d hd
    rw [htotal] at ht
    rw [htpl] at hp
    exact (completionBonus_le _ _ hp).trans ht
  simp only [complete]
  split
  · exact hscore.trans (endContext_quiet X _ _ _ _)
  · exact ((hscore.trans (endContext_quiet X _ _ _ _)).trans (push_quiet X _ _ _)).trans (.raiseIf X _ _ (by simp))

theorem modContext_get (p q : PlayerNo) (id : Nat) (f : Context → Context) (s : State) :
    (modContext p id f s).pages[q] = if q = p then
      { (s.pages[p]'p.isLt) with stack := (s.pages[p]'p.isLt).stack.map fun c => if c.id = id then f c else c } else (s.pages[q]'q.isLt) :=
  State.modPage_get s p q _

theorem advance_quiet (X : DevNo → Prop) (id n : Nat) (s : State) :
    Quiet X s (advance s.session.current id n s).1 := by
  unfold advance
  cases h : contextOf (s.pages[s.session.current]'s.session.current.isLt).stack id with
  | none => exact .refl X s
  | some x =>
    obtain ⟨c, x⟩ := x
    obtain ⟨hmem, hid⟩ := mem_of_contextOf h
    have hprog := modContext_quiet X s.session.current id
      (fun x => { x with progress := min c.tpl.goal (c.progress + n) }) s fun hs d hd hdi
        ⟨h1, h2, h3, h4, h5⟩ => by
          have hcd : c = d := (Page.safe_iff.mp (hs.1 _)).2.2.2.eq_of_id hmem hd (hid.trans hdi.symm)
          exact ⟨⟨h1, h2, h3, by rw [hcd]; exact Nat.min_le_left _ _, h5⟩, rfl⟩
    dsimp only
    split
    · refine hprog.trans (complete_quiet X c _ ⟨{ c with progress := min c.tpl.goal (c.progress + n) }, ?_, rfl, rfl⟩)
      change _ ∈ (modContext s.session.current id _ s).pages[s.session.current].stack
      rw [modContext_get, if_pos rfl]
      exact List.mem_map.mpr ⟨c, hmem, by rw [if_pos hid]⟩
    · exact hprog

theorem endMarked_quiet (X : DevNo → Prop) (test : Context → Bool) (r : EndReason) (s : State) :
    Quiet X s (endMarked test r s) :=
  .foldl _ (fun s id => endContext_quiet X _ id r s) _ s

theorem takeModeTimerExpiry_quiet (X : DevNo → Prop) (id : Nat) (s : State) :
    Quiet X s (takeModeTimerExpiry id s) := by
  simp only [takeModeTimerExpiry]
  split
  · split
    · exact endContext_quiet X _ id _ s
    · exact .refl X s
  · exact .refl X s

theorem Context.hurryStep_safe {c : Context} (h : c.Safe) : c.hurryStep.Safe ∧ c.hurryStep.id = c.id := by
  obtain ⟨h1, h2, h3, h4, h5, h6, h7, h8, h9⟩ := h
  exact ⟨⟨h1, h2, h3, h4, h5, h6, Nat.le_max_right _ _, max_le ((Nat.sub_le _ _).trans h8) (h7.trans h8), h9⟩, rfl⟩

theorem takeHurryPeriodExpiry_quiet (X : DevNo → Prop) (id : Nat) (s : State) :
    Quiet X s (takeHurryPeriodExpiry id s) := by
  simp only [takeHurryPeriodExpiry]
  split
  · split
    · exact modContext_quiet X _ id _ s fun _ _ _ _ hc => Context.hurryStep_safe hc
    · exact .refl X s
  · exact .refl X s

theorem setPfMult_quiet (X : DevNo → Prop) (m t : Nat) (s : State) (h1 : 1 ≤ m) (h9 : m ≤ 9) :
    Quiet X s (setPfMult m t s) where
  game hs := ⟨hs.1, hs.2.1, hs.2.2.1, h1, h9⟩

theorem takePfMultTimerExpiry_quiet (X : DevNo → Prop) (s : State) : Quiet X s (takePfMultTimerExpiry s) := by
  unfold takePfMultTimerExpiry
  split
  · exact { game := fun hs => ⟨hs.1, hs.2.1, hs.2.2.1, le_refl _, show 1 ≤ 9 by decide⟩ }
  · exact .refl X s

/-! ### The search and the close of an event -/

theorem loadIdle_quiet (X : DevNo → Prop) (s : State) : Quiet X s (loadIdle s) := .modAcct X s _ rfl rfl rfl rfl rfl
theorem stopIdle_quiet (X : DevNo → Prop) (s : State) : Quiet X s (stopIdle s) := .modAcct X s _ rfl rfl rfl rfl rfl
theorem saveOff_quiet (X : DevNo → Prop) (s : State) : Quiet X s (saveOff s) := .modAcct X s _ rfl rfl rfl rfl rfl
theorem saveActive_quiet (X : DevNo → Prop) (t : Nat) (s : State) : Quiet X s (saveActive t s) :=
  .modAcct X s _ rfl rfl rfl rfl rfl
theorem startSpacing_quiet (X : DevNo → Prop) (s : State) : Quiet X s (startSpacing s) :=
  .modAcct X s _ rfl rfl rfl rfl rfl

/-- The phase becomes one of those between balls. -/
theorem setPhase_rest_quiet (X : DevNo → Prop) (p : PlayPhase) (s : State) (hp : p = .noPlay ∨ p = .ended) :
    Quiet X s (setPhase p s) where
  session _ := fun ⟨h1, h2, h3, _, h5, h6⟩ => ⟨h1, h2, h3, fun _ => hp, h5, h6⟩

/-- The phase changes while a ball is served, launched or in play, which is so in an OPEN session only. -/
theorem setPhase_play_quiet (X : DevNo → Prop) (p : PlayPhase) (s : State)
    (hs : s.SessionSafe → s.session.state = .opened) : Quiet X s (setPhase p s) where
  session _ h := by
    obtain ⟨h1, h2, h3, h4, h5, h6⟩ := h
    exact ⟨h1, h2, h3, fun hc => absurd (hc.symm.trans (hs ⟨h1, h2, h3, h4, h5, h6⟩)) (by simp), h5, h6⟩

/-- Outside NO_PLAY and ENDED the session is OPEN. -/
theorem State.SessionSafe.opened {s : State} (hs : s.SessionSafe) (h : s.acct.phase ≠ .noPlay ∧ s.acct.phase ≠ .ended) :
    s.session.state = .opened := by
  cases hst : s.session.state with
  | opened => rfl
  | closed =>
    obtain hp | hp := hs.2.2.2.1 hst
    · exact absurd hp h.1
    · exact absurd hp h.2

theorem endSearch_quiet (X : DevNo → Prop) (s : State) : Quiet X s (endSearch s) := by
  simp only [endSearch]
  split
  · exact .refl X s
  · refine ((withdrawWaiting_quiet X [.search] s).trans (t := withdrawWaiting [.search] s) ?_).trans
      (loadIdle_quiet X _)
    generalize withdrawWaiting [.search] s = t
    exact .modAcct X t _ rfl rfl rfl rfl rfl

theorem searchSteps_quiet (X : DevNo → Prop) (l : List CoilNo) (s : State) : Quiet X s (searchSteps l s).1 := by
  induction l generalizing s with
  | nil => exact .refl X s
  | cons c l ih =>
    have hnext : Quiet X s (s.modAcct fun a => { a with lastSearch := some c }) := .modAcct X s _ rfl rfl rfl rfl rfl
    simp only [searchSteps]
    split
    · exact hnext.trans (ih _)
    · split
      · exact hnext.trans (requestSearch_quiet X c _)
      · exact (hnext.trans (requestSearch_quiet X c _)).trans (ih _)

theorem startRound_quiet (X : DevNo → Prop) (s : State) : Quiet X s (startRound s) :=
  (Quiet.modAcct X s (fun a => { a with lastSearch := none }) rfl rfl rfl rfl rfl).trans
    ((searchSteps_quiet X _ _).trans (startSpacing_quiet X _))

theorem startSearch_quiet (X : DevNo → Prop) (s : State) : Quiet X s (startSearch s) :=
  ((Quiet.modAcct X s (fun a => { a with search := .searching, round := 1 }) rfl rfl rfl rfl rfl).trans
    (.raise X _ (by simp))).trans (startRound_quiet X _)

theorem endPlay_quiet (X : DevNo → Prop) (s : State) : Quiet X s (endPlay s) :=
  (((((setPhase_rest_quiet X .ended s (.inr rfl)).trans (.raise X _ (by simp))).trans (saveOff_quiet X _)).trans
    (endSearch_quiet X _)).trans (stopIdle_quiet X _)).trans (endMarked_quiet X _ _ _)

theorem formPlay_quiet (X : DevNo → Prop) (s : State) : Quiet X s (formPlay s) := by
  have hform : Quiet X s (s.modAcct fun a => { a with inPlay := s.ballsInPlay }) := .modAcct X s _ rfl rfl rfl rfl rfl
  simp only [formPlay]
  split
  · refine .after_ite _ (endPlay_quiet X) ?_
    split
    · split
      · exact hform
      · exact (hform.trans (.modAcct X _ _ rfl rfl rfl rfl rfl)).trans (.raise X _ (by simp))
    · split
      · exact (hform.trans (.modAcct X _ _ rfl rfl rfl rfl rfl)).trans (.raise X _ (by simp))
      · exact hform
  · exact .after_ite _ (fun s => setPhase_rest_quiet X .noPlay s (.inl rfl)) hform
  · exact .after_ite _ (fun s => setPhase_rest_quiet X .noPlay s (.inl rfl)) hform
  · exact hform

theorem closeEvent_quiet (X : DevNo → Prop) (before s : State) : Quiet X s (closeEvent before s) := by
  simp only [closeEvent]
  exact ((Quiet.after_ite _ (loadIdle_quiet X) (.after_ite _ (endSearch_quiet X) (.refl X s))).trans
    (formPlay_quiet X _)).trans (holdTimers_quiet X _)

/-- An event is quiet when its changes are. -/
theorem event_quiet {X : DevNo → Prop} {f : State → State} {s : State} (h : Quiet X s (f s)) : Quiet X s (event f s) :=
  h.trans (closeEvent_quiet X s _)

theorem event_sound {f : State → State} {s : State} (h : Sound s (f s)) : Sound s (event f s) :=
  h.trans (closeEvent_quiet _ s _).sound

theorem takeSaveTimerExpiry_quiet (X : DevNo → Prop) (s : State) : Quiet X s (takeSaveTimerExpiry s) := by
  unfold takeSaveTimerExpiry
  split
  · split
    · split
      · exact saveOff_quiet X s
      · exact .modAcct X s _ rfl rfl rfl rfl rfl
    · exact saveOff_quiet X s
  · exact .refl X s

theorem takeIdleTimerExpiry_quiet (X : DevNo → Prop) (s : State) : Quiet X s (takeIdleTimerExpiry s) := by
  unfold takeIdleTimerExpiry
  split
  · exact (Quiet.modAcct X s (fun a => { a with idleTimer := .stopped }) rfl rfl rfl rfl rfl).trans
      (startSearch_quiet X _)
  · exact .refl X s

/-! ### Locks -/

theorem lockNo_eq_some {d : DevNo} {k : LockNo} (h : lockNo d = some k) : d = lockDevice k := by
  unfold lockNo at h
  split at h
  · simp only [Option.some.injEq] at h
    subst h
    apply Fin.ext
    simp only [lockDevice]
    omega
  · exact absurd h (by simp)

@[simp] theorem lockNo_lockDevice (k : LockNo) : lockNo (lockDevice k) = some k := by
  unfold lockNo lockDevice
  rw [dif_pos (by simp)]
  simp

theorem State.lockOf_eq_some {s : State} {d : DevNo} {k : LockNo} (h : s.lockOf d = some k) :
    (s.devices[d]'d.isLt).cfg.kind = .lock ∧ d = lockDevice k := by
  unfold State.lockOf at h
  split at h
  · next hk => exact ⟨hk, lockNo_eq_some h⟩
  · exact absurd h (by simp)

/-- Raising the lit locks by no more than the room left keeps them within capacity. -/
theorem lightLock_quiet (X : DevNo → Prop) (d : DevNo) (k : LockNo) (n : Nat) (s : State) (hd : d = lockDevice k) :
    Quiet X s (lightLock d k n s) := by
  subst hd
  rw [lightLock, State.modCurrent]
  refine .modPage X s _ _ (fun hs => hs.1 _) (fun _ h => h) (fun hs j hj => ?_) fun _ => rfl
  have hold := hs s.session.current j hj
  dsimp only
  rw [vector_set_get]
  split
  · next h =>
    subst h
    simp only [State.lockRoom, State.page]
    omega
  · exact hold

theorem awardLightLock_quiet (X : DevNo → Prop) (argument : Byte) (s : State) :
    Quiet X s (awardLightLock argument s) := by
  unfold awardLightLock
  split
  · exact .refl X s
  · split
    · exact .refl X s
    · next h => exact lightLock_quiet X _ _ 1 s (State.lockOf_eq_some h).2

theorem recordDecision_quiet (X : DevNo → Prop) (k : LockNo) (o : LockOutcome) (r : LockReason) (s : State) :
    Quiet X s (recordDecision k o r s) := {}

theorem capture_quiet (X : DevNo → Prop) (k : LockNo) (s : State) (hlit : s.page.lit[k] ≠ 0) :
    Quiet X s (capture k s) := by
  have hpage : Quiet X s (s.modCurrent fun g =>
      { g with lit := g.lit.set k (g.lit[k] - 1), credits := g.credits.set k (g.credits[k] + 1) }) := by
    refine .modPage X s _ _ (fun hs => hs.1 _) (fun _ h => h) (fun hs j hj => ?_) fun _ => rfl
    have hold := hs s.session.current j hj
    dsimp only
    rw [vector_set_get, vector_set_get]
    split
    · next h =>
      subst h
      simp only [State.page] at hlit
      omega
    · exact hold
  simp only [capture]
  exact .after_ite _ (addOwed_quiet X trough)
    ((hpage.trans (recordDecision_quiet X k _ _ _)).trans (.raise X _ (by simp)))

theorem reject_quiet (X : DevNo → Prop) (d : DevNo) (k : LockNo) (r : LockReason) (s : State) :
    Quiet X s (reject d k r s) :=
  ((recordDecision_quiet X k _ r s).trans (.raise X _ (by simp))).trans (addOwedCount_quiet X d _)

/-- An entry is captured only where a lock is lit (R94). -/
theorem State.lit_of_not_rejected {s : State} {d : DevNo} {k : LockNo} (h : s.rejection d k = none) :
    s.page.lit[k] ≠ 0 := by
  intro hlit
  revert h
  rw [State.rejection, if_pos hlit]
  split_ifs <;> simp

theorem captureDecision_quiet (X : DevNo → Prop) (d : DevNo) (s : State) : Quiet X s (captureDecision d s) := by
  unfold captureDecision
  split
  · exact .refl X s
  · split
    · next h => exact capture_quiet X _ s (State.lit_of_not_rejected h)
    · exact reject_quiet X d _ _ s

theorem sourceLock_quiet (X : DevNo → Prop) (d : DevNo) (k : LockNo) (s : State) : Quiet X s (sourceLock d k s) := by
  simp only [sourceLock, State.modCurrent]
  refine (addOwedTimes_quiet X d _ s).trans
    (.modPage X _ _ _ (fun hs => hs.1 _) (fun _ h => h) (fun hs j hj => ?_) fun _ => rfl)
  have hold := hs (addOwedTimes d (min s.page.credits[k] (s.heldBalls d)) s).session.current j hj
  dsimp only
  rw [vector_set_get]
  split
  · exact (Nat.add_le_add_left (Nat.zero_le _) _).trans hold
  · exact hold

theorem startMultiball_quiet (X : DevNo → Prop) (target : Nat) (mask : Byte) (saveTime : Nat) (s : State) :
    Quiet X s (startMultiball target mask saveTime s).1 := by
  simp only [startMultiball]
  refine Quiet.trans ?_ (closeEvent_quiet X s _)
  exact .after_ite _ (saveActive_quiet X saveTime)
    ((Quiet.foldl _ (fun s (x : DevNo × LockNo) => sourceLock_quiet X x.1 x.2 s) _ s).trans (addOwedTimes_quiet X trough _ _))

theorem reconcile_quiet (X : DevNo → Prop) (s : State) : Quiet X s (reconcile s).1 := by
  unfold reconcile
  suffices h : ∀ (l : List DevNo) (acc : State × Nat), Quiet X s acc.1 → Quiet X s (l.foldl (fun acc d =>
      let s' := addOwedTimes d (acc.1.excess d) acc.1
      (s', acc.2 + ((s'.devices[d]'d.isLt).live.owed - acc.1.devices[d].live.owed))) acc).1 from h _ _ (.refl X s)
  intro l
  induction l with
  | nil => exact fun _ h => h
  | cons d l ih => exact fun acc h => ih _ (h.trans (addOwedTimes_quiet X d _ acc.1))

/-! ### Awards -/

/-- A value under M stays far below the largest score. -/
theorem award_value_le {b m : Nat} (hb : b ≤ Config.maxValue) (hm : m ≤ Config.maxProduct) :
    b * m ≤ Config.maxScore :=
  (Nat.mul_le_mul hb hm).trans (by decide)

theorem scoreAward_quiet (X : DevNo → Prop) (b m : Nat) (mode : Option Context) (s : State)
    (hb : s.GameSafe → b ≤ Config.maxValue) (hm : m ≤ Config.maxProduct) : Quiet X s (scoreAward b m mode s) := by
  have hscore := addScore_quiet X (b * m) s fun hs => award_value_le (hb hs) hm
  simp only [scoreAward]
  split
  · exact hscore.trans (addTotal_quiet X _ _ _ _)
  · exact hscore

theorem awardAdvance_quiet (X : DevNo → Prop) (b m : Nat) (mode : Option Context) (s : State)
    (hb : s.GameSafe → b ≤ Config.maxValue) (hm : m ≤ Config.maxProduct) : Quiet X s (awardAdvance b m mode s) := by
  simp only [awardAdvance]
  split
  · exact (scoreAward_quiet X b m _ s hb hm).trans (advance_quiet X _ 1 _)
  · exact scoreAward_quiet X b m _ s hb hm

theorem awardJackpotBuild_quiet (X : DevNo → Prop) (mode : Option Context) (s : State) :
    Quiet X s (awardJackpotBuild mode s) := by
  unfold awardJackpotBuild
  split
  · exact modContext_quiet X _ _ _ s fun _ _ _ _ ⟨h1, h2, h3, h4, h5, h6, h7⟩ =>
      ⟨⟨h1, h2, h3, h4, le_min (h5.trans (Nat.le_add_right _ _)) (h5.trans h6), Nat.min_le_right _ _, h7⟩, rfl⟩
  · exact .refl X s

theorem awardJackpotCollect_quiet (X : DevNo → Prop) (m : Nat) (mode : Option Context) (s : State)
    (hmode : ∀ c, mode = some c → c ∈ s.page.stack) (hm : m ≤ Config.maxProduct) :
    Quiet X s (awardJackpotCollect m mode s) := by
  unfold awardJackpotCollect
  split
  · next c =>
    refine (scoreAward_quiet X c.jackpot m _ s (fun hs => ?_) hm).trans (modContext_quiet X _ _ _ _ ?_)
    · obtain ⟨-, -, ⟨-, -, -, hmax, -⟩, -, -, hj, -⟩ := (hs.1 s.session.current).2.2.2.2.2 c (hmode c rfl)
      exact hj.trans hmax
    · exact fun _ _ _ _ ⟨h1, h2, h3, h4, h5, h6, h7⟩ => ⟨⟨h1, h2, h3, h4, le_refl _, h5.trans h6, h7⟩, rfl⟩
  · exact .refl X s

theorem awardHurryCollect_quiet (X : DevNo → Prop) (m : Nat) (mode : Option Context) (s : State)
    (hmode : ∀ c, mode = some c → c ∈ s.page.stack) (hm : m ≤ Config.maxProduct) :
    Quiet X s (awardHurryCollect m mode s) := by
  unfold awardHurryCollect
  split
  · next c =>
    have hscore := scoreAward_quiet X c.hurry m (some c) s (fun hs => by
      obtain ⟨-, -, ⟨-, -, -, -, -, hmax, -⟩, -, -, -, -, hh, -⟩ := (hs.1 s.session.current).2.2.2.2.2 c (hmode c rfl)
      exact hh.trans hmax) hm
    dsimp only
    split
    · next h => exact hscore.trans (complete_quiet X _ _ ⟨_, (mem_of_contextOf h).1, rfl, rfl⟩)
    · exact hscore
  · exact .refl X s

theorem awardStartMode_quiet (X : DevNo → Prop) (argument : Byte) (s : State) :
    Quiet X s (awardStartMode argument s) :=
  (push_quiet X _ _ s).trans (.raiseIf X _ _ (by simp))

theorem awardStartMultiball_quiet (X : DevNo → Prop) (argument : Byte) (s : State) :
    Quiet X s (awardStartMultiball argument s) := by
  unfold awardStartMultiball
  split
  · exact startMultiball_quiet X _ _ _ s
  · exact .refl X s

theorem awardPfMult_quiet (X : DevNo → Prop) (s : State) : Quiet X s (awardPfMult s) where
  game hs := ⟨hs.1, hs.2.1, hs.2.2.1, le_min (by decide) (Nat.le_add_left 1 _), Nat.min_le_left _ _⟩

theorem kindEffect_quiet (X : DevNo → Prop) (e : AwardEntry) (m : Nat) (mode : Option Context) (s : State)
    (hb : s.GameSafe → e.base ≤ Config.maxValue) (hmode : ∀ c, mode = some c → c ∈ s.page.stack)
    (hm : m ≤ Config.maxProduct) : Quiet X s (kindEffect e m mode s) := by
  unfold kindEffect
  cases e.kind with
  | points => exact scoreAward_quiet X _ m mode s hb hm
  | advance => exact awardAdvance_quiet X _ m mode s hb hm
  | jackpotBuild => exact awardJackpotBuild_quiet X mode s
  | jackpotCollect => exact awardJackpotCollect_quiet X m mode s hmode hm
  | hurryCollect => exact awardHurryCollect_quiet X m mode s hmode hm
  | lightLock => exact awardLightLock_quiet X _ s
  | startMode => exact awardStartMode_quiet X _ s
  | startMultiball => exact awardStartMultiball_quiet X _ s
  | pfMult => exact awardPfMult_quiet X s
  | notify => exact .refl X s

theorem notifyStep_frame (i : Fin 256) (s : State) :
    ∃ (hits : BitVec 256) (b : Bool), notifyStep i s = State.raiseIf { s with awardHits := hits } b .awardHit := by
  unfold notifyStep
  split
  · exact ⟨_, true, rfl⟩
  · exact ⟨s.awardHits, false, rfl⟩

theorem State.product_le (s : State) (mode : Option Context) : s.product mode ≤ Config.maxProduct := Nat.min_le_left _ _

theorem dispatch_quiet (X : DevNo → Prop) (i : Fin 256) (s : State) : Quiet X s (dispatch i s) := by
  have i_lt := i.isLt
  simp only [dispatch]
  split
  · exact .refl X s
  obtain ⟨hits, b, hn⟩ := notifyStep_frame i s
  have hnotify : Quiet X s (notifyStep i s) := by
    rw [hn]
    exact (Quiet.trans (t := { s with awardHits := hits }) {} (.raiseIf X _ b (by simp)))
  have hmode : ∀ c, (if (s.awards[i]'i.isLt).scope = 0 then none else runningContext s.page.stack (s.awards[i]'i.isLt).scope) = some c →
      c ∈ s.page.stack := by
    intro c hc
    split at hc
    · exact absurd hc (by simp)
    · exact (mem_of_runningContext hc).1
  generalize (if (s.awards[i]'i.isLt).scope = 0 then none else runningContext s.page.stack (s.awards[i]'i.isLt).scope) = mode at hmode ⊢
  split
  · exact hnotify
  · refine hnotify.trans (kindEffect_quiet X _ _ _ _ (fun hs => ?_) (fun c hc => ?_) (s.product_le _))
    · rw [hn] at hs
      have hbase := hs.2.2.1 i
      rw [State.raiseIf_awards] at hbase
      exact hbase
    · have hpage : (notifyStep i s).page.stack = s.page.stack := by
        rw [hn]
        cases b <;> rfl
      rw [hpage]
      exact hmode c hc

theorem switchEvent_quiet (X : DevNo → Prop) (n : SwitchNo) (d : Direction) (s : State) :
    Quiet X s (switchEvent n d s) := by
  unfold switchEvent
  split
  · exact .refl X s
  · exact dispatch_quiet X _ s

theorem deviceEdge_quiet (X : DevNo → Prop) (n : SwitchNo) (d : Direction) (dev : DevNo) (s : State) :
    Quiet X s (deviceEdge n d dev s) := by
  simp only [deviceEdge]
  split
  · exact .refl X s
  · next h =>
    refine Quiet.on_busy (d := dev) ?_ (DeviceLive.not_atRest h) X
    exact .after_ite _ (restartSettle_quiet dev) (.after_ite _
      (f := fun s => s.modLive dev fun l => { l with entriesSeen := min 255 (l.entriesSeen + 1) })
      (fun s => Quiet.modOwn s dev _) (.refl _ s))

theorem deviceEdges_quiet (X : DevNo → Prop) (n : SwitchNo) (d : Direction) (s : State) :
    Quiet X s (deviceEdges n d s) :=
  .foldl _ (fun s dev => deviceEdge_quiet X n d dev s) _ s

end Sys2Proof.Machine

/-! Balls change place: the ball accounting outside the evaluation, and the evaluation of a device, keep the conservation
identity (chapters 2 and 4). -/

namespace Sys2Proof.Machine

/-! ### Balls that no device holds -/

/-- The balls that no device holds. -/
def State.roaming (s : State) : Nat := s.acct.live + s.acct.flights.length + s.acct.missing

theorem State.balls_eq (s : State) : s.balls = s.occupancies + s.roaming := by
  simp only [State.balls, State.roaming]
  omega

/-- Work that leaves the session record and every occupancy, and makes up no in-flight record. -/
structure Moves (s t : State) : Prop extends Work (fun _ => False) s t where
  same : t.session = s.session := by rfl
  occupancy : ∀ d : DevNo, (t.devices[d]'d.isLt).live.occupancy = (s.devices[d]'d.isLt).live.occupancy := by exact fun _ => rfl
  flights : ∀ r ∈ t.acct.flights, r ∈ s.acct.flights := by exact fun _ h => h

theorem Moves.trans {s t u : State} (h : Moves s t) (g : Moves t u) : Moves s u :=
  { toWork := h.toWork.trans g.toWork, same := g.same.trans h.same,
    occupancy := fun d => (g.occupancy d).trans (h.occupancy d), flights := fun r hr => h.flights r (g.flights r hr) }

theorem Quiet.moves {s t : State} (h : Quiet (fun _ => False) s t) : Moves s t :=
  let ⟨hocc, _, _, _, hfl⟩ := Stock.ext_iff'.mp h.stock
  { toWork := h.toWork, same := h.same, occupancy := hocc, flights := fun _ hr => hfl ▸ hr }

theorem Quiet.roaming {X : DevNo → Prop} {s t : State} (h : Quiet X s t) : t.roaming = s.roaming := by
  obtain ⟨-, -, hlive, hmiss, hfl⟩ := Stock.ext_iff'.mp h.stock
  simp only [State.roaming, hlive, hmiss, hfl]

theorem Quiet.installed {X : DevNo → Prop} {s t : State} (h : Quiet X s t) : t.acct.installed = s.acct.installed :=
  (Stock.ext_iff'.mp h.stock).2.1

/-- A write to the accounting record that keeps the phase and makes up no in-flight record. -/
theorem Moves.modAcct (s : State) (f : Accounting → Accounting) (hph : (f s.acct).phase = s.acct.phase)
    (hfl : ∀ r ∈ (f s.acct).flights, r ∈ s.acct.flights) : Moves s (s.modAcct f) :=
  { toWork := .modAcct _ s f hph, flights := hfl }

/-- Balls that only change place keep every law of the counts. -/
theorem Moves.sound {s t : State} (h : Moves s t) (hin : t.acct.installed = s.acct.installed)
    (hroam : t.roaming = s.roaming) : Sound s t where
  toWork := h.toWork
  devices hs := by
    have ⟨hcfg, _, _, hoff, hfl⟩ := hs
    refine h.toWork.devicesSafe hs (fun d => (h.occupancy d).trans_le (hcfg d).2.1) (fun hd => ?_)
      fun r hr => hfl r (h.flights r hr)
    obtain ⟨-, h2, h3, h4⟩ := hoff hd
    have ht : t.acct.flights = [] :=
      List.eq_nil_iff_forall_not_mem.mpr fun r hr => by simpa [h4] using h.flights r hr
    simp only [State.roaming, h2, h3, h4, ht, List.length_nil] at hroam
    exact Stock.ext_iff'.mpr ⟨h.occupancy, hin, by omega, by omega, by rw [ht, h4]⟩
  balls hs := by
    rw [State.Conserved, State.balls_eq, State.occupancies_congr h.occupancy, hroam, hin, ← State.balls_eq]
    exact hs
  play := h.session (by rw [h.same])

theorem removeFlight_moves (i : Nat) (s : State) : Moves s (removeFlight i s) :=
  .modAcct s _ rfl fun _ h => List.mem_of_mem_eraseIdx h

theorem removeFlight_length {i : Nat} {s : State} (h : i < s.acct.flights.length) :
    (removeFlight i s).acct.flights.length + 1 = s.acct.flights.length := by
  simp only [removeFlight, State.modAcct_acct, List.length_eraseIdx_of_lt h]
  omega

theorem oldestAt_lt {test : FlightRec → Bool} {fs : List FlightRec} {i : Nat} (h : oldestAt test fs = some i) :
    i < fs.length := (List.findIdx?_eq_some_iff_getElem.mp h).1

theorem youngestAt_lt {test : FlightRec → Bool} {fs : List FlightRec} {i : Nat} (h : youngestAt test fs = some i) :
    i < fs.length := by
  obtain ⟨j, hj, rfl⟩ := Option.map_eq_some_iff.mp h
  have := (List.findIdx?_eq_some_iff_getElem.mp hj).1
  rw [List.length_reverse] at this
  omega

/-! ### Playfield activity, flights and the search -/

theorem confirmBall_sound (s : State) : Sound s (confirmBall s) := by
  unfold confirmBall
  split
  · next i h =>
    have hlen := removeFlight_length (oldestAt_lt h)
    refine ((removeFlight_moves i s).trans (.modAcct _ _ rfl fun _ h => h)).sound rfl ?_
    simp only [State.roaming, State.modAcct_acct, removeFlight] at hlen ⊢
    omega
  · split
    · next h =>
      refine ((Moves.modAcct s _ rfl fun _ h => h).trans (Quiet.raise _ _ (by simp)).moves).sound rfl ?_
      simp only [State.roaming, State.modAcct_acct, State.raise_acct]
      omega
    · exact .refl s

theorem playfieldActivity_sound (s : State) : Sound s (playfieldActivity s) :=
  event_sound ((confirmBall_sound s).trans ((endSearch_quiet _ _).trans (loadIdle_quiet _ _)).sound)

theorem expireFlight_sound {i : Nat} (r : FlightRec) {s : State} (hi : i < s.acct.flights.length) :
    Sound s (expireFlight i r s) := by
  have hlen := removeFlight_length hi
  simp only [expireFlight]
  split
  · refine ((removeFlight_moves i s).trans (.modAcct _ _ rfl fun _ h => h)).sound rfl ?_
    simp only [State.roaming, State.modAcct_acct, removeFlight] at hlen ⊢
    omega
  · refine (((removeFlight_moves i s).trans (.modAcct _ _ rfl fun _ h => h)).trans
      (Quiet.raise _ _ (by simp)).moves).sound rfl ?_
    simp only [State.roaming, State.modAcct_acct, State.raise_acct, removeFlight] at hlen ⊢
    omega

theorem takeFlightExpiry_sound (i : Nat) (s : State) : Sound s (takeFlightExpiry i s) := by
  unfold takeFlightExpiry
  split
  · next h =>
    split
    · exact event_sound (expireFlight_sound _ (List.getElem?_eq_some_iff.mp h).1)
    · exact .refl s
  · exact .refl s

theorem endRound_sound (s : State) : Sound s (endRound s) := by
  have hnext : Quiet (fun _ => False) s
      (s.modAcct fun a => { a with round := min 255 (a.round + 1), lastSearch := none }) :=
    .modAcct _ s _ rfl rfl rfl rfl rfl
  simp only [endRound]
  split
  · exact (hnext.trans (startRound_quiet _ _)).sound
  · refine Sound.trans ?_ (Quiet.modAcct _ _ _ rfl rfl rfl rfl rfl).sound
    split
    · refine hnext.sound.trans (Sound.trans (Moves.sound (.modAcct _ _ rfl fun _ h => h) rfl ?_)
        (Quiet.raiseIf _ _ _ (by simp)).sound)
      simp only [State.roaming, State.modAcct_acct]
      omega
    · exact hnext.sound

theorem searchExpiry_sound (s : State) : Sound s (searchExpiry s) := by
  have hstop : Quiet (fun _ => False) s (s.modAcct fun a => { a with searchTimer := .stopped, searchSlow := false }) :=
    .modAcct _ s _ rfl rfl rfl rfl rfl
  simp only [searchExpiry]
  generalize (s.modAcct fun a => { a with searchTimer := .stopped, searchSlow := false }) = t at hstop ⊢
  have hsteps := hstop.trans (searchSteps_quiet _ t.membersLeft t)
  split
  · exact (hstop.trans (startRound_quiet _ _)).sound
  · split
    · exact (hsteps.trans (startSpacing_quiet _ _)).sound
    · exact hsteps.sound.trans (endRound_sound _)

theorem takeSearchTimerExpiry_sound (s : State) : Sound s (takeSearchTimerExpiry s) := by
  unfold takeSearchTimerExpiry
  split
  · exact event_sound (searchExpiry_sound s)
  · exact .refl s

/-! ### The supply of entries (R66, R67) -/

/-- What the supply of one entry does to the counts: an attributed entry takes one ball from those that no device
holds, or a new one; `own` counts the records of the evaluation still in the list. -/
structure Supplied (own : Nat) (s : State) (r : State × Nat × Supply) : Prop extends Moves s r.1 where
  fits : r.2.1 ≤ r.1.acct.flights.length
  fewer : r.2.1 ≤ own
  taken : r.2.2 ≠ .unattributed → own ≤ r.2.1 + 1 ∧ r.1.roaming + 1 + s.acct.installed = s.roaming + r.1.acct.installed
  limit : s.acct.installed ≤ Config.maxInstalled → r.1.acct.installed ≤ Config.maxInstalled
  none : r.2.2 = .unattributed → r.1 = s ∧ r.2.1 = 0 ∧ own = 0

theorem takeFlight_supplied {i own : Nat} {s : State} (x : Supply) (hx : x ≠ .unattributed)
    (hown : own ≤ s.acct.flights.length) (hi : i < s.acct.flights.length) :
    Supplied own s ((takeFlight i own s).1, (takeFlight i own s).2, x) where
  toMoves := removeFlight_moves i s
  fits := by
    have := removeFlight_length hi
    simp only [takeFlight]
    split <;> omega
  fewer := by
    simp only [takeFlight]
    split <;> omega
  taken _ := by
    have := removeFlight_length hi
    refine ⟨?_, ?_⟩
    · simp only [takeFlight]
      split <;> omega
    · simp only [takeFlight, State.roaming, removeFlight, State.modAcct_acct] at this ⊢
      omega
  limit h := h
  none h := (hx h).elim

theorem supplyEntry_supplied (d : DevNo) (fallback : Bool) {own : Nat} {s : State}
    (hown : own ≤ s.acct.flights.length) : Supplied own s (supplyEntry d fallback own s) := by
  simp only [supplyEntry]
  split
  · next i h =>
    refine takeFlight_supplied _ (by simp) hown ?_
    split at h
    · exact youngestAt_lt h
    · exact absurd h (by simp)
  split
  · next i h => exact takeFlight_supplied _ (by simp) hown (oldestAt_lt h)
  split
  · next h =>
    refine { toMoves := .modAcct s (fun a => { a with live := a.live - 1 }) rfl fun _ h => h, fits := hown, fewer := le_refl _, limit := id,
             taken := fun _ => ⟨Nat.le_succ _, ?_⟩, none := fun h => nomatch h }
    simp only [State.roaming, State.modAcct_acct]
    omega
  split
  · next i h => exact takeFlight_supplied _ (by simp) hown (oldestAt_lt h)
  split
  · next h =>
    refine { toMoves := (Moves.modAcct s _ rfl fun _ h => h).trans (Quiet.raise _ _ (by simp)).moves, fits := hown,
             fewer := le_refl _, limit := id, taken := fun _ => ⟨Nat.le_succ _, ?_⟩, none := fun h => nomatch h }
    simp only [State.roaming, State.modAcct_acct, State.raise_acct]
    omega
  split
  · next h =>
    have hlen := removeFlight_length (s := s) (i := s.acct.flights.length - 1) (by omega)
    refine { toMoves := removeFlight_moves _ s, fits := ?_, fewer := Nat.sub_le _ _, limit := id,
             taken := fun _ => ⟨by dsimp only; omega, ?_⟩, none := fun h => nomatch h }
    · dsimp only
      omega
    · simp only [State.roaming, removeFlight, State.modAcct_acct] at hlen ⊢
      omega
  split
  · next h =>
    refine { toMoves := (Moves.modAcct s _ rfl fun _ h => h).trans (Quiet.raise _ _ (by simp)).moves, fits := hown,
             fewer := le_refl _, limit := fun _ => h, taken := fun _ => ⟨Nat.le_succ _, ?_⟩, none := fun h => nomatch h }
    simp only [State.roaming, State.modAcct_acct, State.raise_acct]
    omega
  · exact { toMoves := (Quiet.refl _ s).moves, fits := hown, fewer := le_refl _, limit := id,
            taken := fun h => (h rfl).elim, none := fun _ => ⟨rfl, by dsimp only; omega, by omega⟩ }

end Sys2Proof.Machine

/-! The evaluation of a device (R21 to R24, R66, R67) keeps the conservation identity. -/

namespace Sys2Proof.Machine

/-! ### One entry -/

theorem drain_quiet (X : DevNo → Prop) (s : State) : Quiet X s (drain s) := by
  unfold drain
  split
  · refine ((addOwedCount_quiet X trough s).trans (t := addOwedCount trough s) ?_).trans (.raise X _ (by simp))
    exact .modAcct X _ (fun a => { a with savesUsed := min 255 (a.savesUsed + 1) }) rfl rfl rfl rfl rfl
  · exact .refl X s

theorem shooterEntry_quiet (X : DevNo → Prop) (fallback : Bool) (s : State) : Quiet X s (shooterEntry fallback s) := by
  unfold shooterEntry
  split
  · next h =>
    have hphase : Quiet X s (setPhase .launchWait s) :=
      setPhase_play_quiet X _ s fun hs => hs.opened (by rw [h]; simp)
    dsimp only
    split
    · exact hphase.trans (addOwedCount_quiet X shooter _)
    · exact hphase
  · split
    · exact .refl X s
    · exact addOwedCount_quiet X shooter s
  · exact .refl X s

theorem entryRules_quiet (X : DevNo → Prop) (d : DevNo) (fallback : Bool) (x : Supply) (s : State) :
    Quiet X s (entryRules d fallback x s) := by
  simp only [entryRules]
  have hdrain : Quiet X s (if d = trough ∧ (x = .live ∨ x = .playfield) then drain s else s) :=
    .after_ite _ (drain_quiet X) (.refl X s)
  have hshoot := Quiet.after_ite (d = shooter) (shooterEntry_quiet X fallback) hdrain
  split
  · exact hshoot
  · exact hshoot.trans (captureDecision_quiet X d _)

theorem countFault_quiet (d : DevNo) (s : State) : Quiet (· = d) s (countFault d s) :=
  (Quiet.modOwn s d fun l => { l with countFault := true }).trans (.raiseIf _ _ _ (by simp))

/-! ### All entries of an evaluation -/

/-- What the entries of an evaluation do to the counts while `k` of `n` are attributed. -/
structure Handed (d : DevNo) (n k : Nat) (t : Tally) (s : State) (r : State × Tally) : Prop
    extends Work (· = d) s r.1 where
  same : r.1.session = s.session
  occupancy : ∀ e : DevNo, r.1.devices[e].live.occupancy = (s.devices[e]'e.isLt).live.occupancy
  flights : ∀ x ∈ r.1.acct.flights, x ∈ s.acct.flights
  fits : r.2.own ≤ r.1.acct.flights.length
  fewer : r.2.own ≤ t.own
  own : t.own ≤ r.2.own + k
  part : k ≤ n
  unattributed : r.2.unattributed + k = t.unattributed + n
  empty : k < n → r.2.own = 0
  roaming : r.1.roaming + k + s.acct.installed = s.roaming + r.1.acct.installed
  limit : s.acct.installed ≤ Config.maxInstalled → r.1.acct.installed ≤ Config.maxInstalled

theorem handEntry_handed (d : DevNo) (fallback : Bool) {t : Tally} {s : State}
    (hown : t.own ≤ s.acct.flights.length) : ∃ k, Handed d 1 k t s (handEntry d fallback t s) := by
  have h := supplyEntry_supplied d fallback hown
  simp only [handEntry]
  generalize supplyEntry d fallback t.own s = r at h ⊢
  obtain ⟨s', own, x⟩ := r
  dsimp only
  split
  · next hx =>
    obtain ⟨hs, hown', hzero⟩ := h.none hx
    dsimp only at hs hown'
    subst hs hown'
    have hq := countFault_quiet d s'
    obtain ⟨hocc, -, -, -, hfl⟩ := Stock.ext_iff'.mp hq.stock
    exact ⟨0,
      { toWork := hq.toWork, same := hq.same, occupancy := hocc, flights := fun _ hr => hfl ▸ hr,
        fits := Nat.zero_le _, fewer := Nat.zero_le _, own := hzero.le, part := Nat.zero_le _, unattributed := rfl,
        empty := fun _ => rfl, roaming := by rw [hq.roaming, hq.installed]; rfl,
        limit := fun hl => hq.installed ▸ hl }⟩
  · next hx =>
    have hq := entryRules_quiet (· = d) d fallback x s'
    obtain ⟨hocc, -, -, -, hfl⟩ := Stock.ext_iff'.mp hq.stock
    obtain ⟨htake, hroam⟩ := h.taken hx
    exact ⟨1,
      { toWork := (h.toWork.mono fun _ => False.elim).trans hq.toWork, same := hq.same.trans h.same,
        occupancy := fun e => (hocc e).trans (h.occupancy e), flights := fun r hr => h.flights r (hfl ▸ hr),
        fits := by rw [hfl]; exact h.fits, fewer := h.fewer, own := htake, part := le_refl _, unattributed := rfl,
        empty := fun hlt => absurd hlt (by simp), roaming := by rw [hq.roaming, hq.installed]; exact hroam,
        limit := fun hl => hq.installed ▸ h.limit hl }⟩

theorem Handed.trans {d : DevNo} {n k m j : Nat} {t : Tally} {s : State} {r q : State × Tally}
    (h : Handed d n k t s r) (g : Handed d m j r.2 r.1 q) :
    Handed d (n + m) (k + j) t s q where
  toWork := h.toWork.trans g.toWork
  same := g.same.trans h.same
  occupancy e := (g.occupancy e).trans (h.occupancy e)
  flights x hx := h.flights x (g.flights x hx)
  fits := g.fits
  fewer := g.fewer.trans h.fewer
  own := by have := h.own; have := g.own; omega
  part := Nat.add_le_add h.part g.part
  unattributed := by have := h.unattributed; have := g.unattributed; omega
  empty hlt := by
    by_cases hk : k < n
    · have := h.empty hk
      have := g.fewer
      omega
    · exact g.empty (by omega)
  roaming := by have := h.roaming; have := g.roaming; omega
  limit hl := g.limit (h.limit hl)

theorem handEntries_handed (d : DevNo) (n : Nat) (fallback : Bool) {t : Tally} {s : State}
    (hown : t.own ≤ s.acct.flights.length) : ∃ k, Handed d n k t s (handEntries d n fallback t s) := by
  induction n generalizing fallback t s with
  | zero =>
    exact ⟨0,
      { toWork := .refl _ s, same := rfl, occupancy := fun _ => rfl, flights := fun _ h => h, fits := hown,
        fewer := le_refl _, own := le_refl _, part := le_refl _, unattributed := rfl,
        empty := fun h => absurd h (by simp), roaming := rfl, limit := id }⟩
  | succ n ih =>
    obtain ⟨k, hk⟩ := handEntry_handed d fallback hown
    obtain ⟨j, hj⟩ := ih false hk.fits
    exact ⟨k + j, (Nat.add_comm 1 n ▸ hk.trans hj :)⟩

/-! ### The device counted afresh -/

/-- What counting device `d` anew with `c` closed switches does: every other occupancy stays, the device holds no more
than `c` balls, and the counts keep the identity. -/
structure Counted (d : DevNo) (c : Nat) (s t : State) : Prop extends Work (· = d) s t where
  same : t.session = s.session
  count : (t.devices[d]'d.isLt).live.occupancy ≤ c
  others : ∀ e : DevNo, e ≠ d → (t.devices[e]'e.isLt).live.occupancy = (s.devices[e]'e.isLt).live.occupancy
  flights : (s.devices[d]'d.isLt).cfg.target.From d → (∀ r ∈ s.acct.flights, r.target.From r.source) →
    ∀ r ∈ t.acct.flights, r.target.From r.source
  balls : s.Conserved → t.Conserved

theorem Counted.quiet {d : DevNo} {c : Nat} {s t u : State} (h : Counted d c s t) (g : Quiet (· = d) t u) :
    Counted d c s u :=
  let ⟨hocc, hin, _, _, hfl⟩ := Stock.ext_iff'.mp g.stock
  { toWork := h.toWork.trans g.toWork, same := g.same.trans h.same, count := (hocc d).trans_le h.count,
    others := fun e he => (hocc e).trans (h.others e he), flights := fun hd hs => hfl ▸ h.flights hd hs,
    balls := fun hs => by rw [State.Conserved, g.balls, hin]; exact h.balls hs }

theorem Quiet.counted {d : DevNo} {c : Nat} {s t u : State} (h : Quiet (· = d) s t) (g : Counted d c t u) :
    Counted d c s u :=
  let ⟨hocc, hin, _, _, hfl⟩ := Stock.ext_iff'.mp h.stock
  { toWork := h.toWork.trans g.toWork, same := g.same.trans h.same, count := g.count,
    others := fun e he => (g.others e he).trans (hocc e),
    flights := fun hd hs => g.flights (by rw [h.cfg]; exact hd) (hfl ▸ hs),
    balls := fun hs => g.balls (by rw [State.Conserved, h.balls, hin]; exact hs) }

/-- The exits of the device may start play at the close of its evaluation (R74). -/
theorem Counted.enterPlay {d : DevNo} {c exits : Nat} {s t : State} (h : Counted d c s t) :
    Counted d c s (if s.exitStartsPlay d exits = true then enterPlay t else t) := by
  split
  · next hx =>
    refine (show Counted d c s (setPhase .play t) from { h with session := fun hu hs => ?_ }).quiet
      (loadIdle_quiet _ _)
    have hopen : s.session.state = .opened := hs.opened (by
      simp only [State.exitStartsPlay, Bool.and_eq_true, Bool.or_eq_true, beq_iff_eq] at hx
      obtain ⟨-, ⟨⟨hp, -⟩, -⟩ | ⟨hp, -⟩⟩ := hx <;> rw [hp] <;> simp)
    exact (setPhase_play_quiet (· = d) .play t fun _ => by rw [h.same]; exact hopen).play (h.session hu hs)
  · exact h

/-- Counting a device in service keeps the laws of the counts. -/
theorem Counted.sound {d : DevNo} {c : Nat} {s t : State} (h : Counted d c s t)
    (hc : c ≤ (s.devices[d]'d.isLt).cfg.positions.length) (hd : ¬ (s.devices[d]'d.isLt).live.AtRest) : Sound s t where
  toWork := h.toWork.of_busy fun e he _ => he ▸ hd
  devices hs := by
    have ⟨hcfg, hrest, hon, _, hfl⟩ := hs
    have hstate : (s.devices[d]'d.isLt).live.state ≠ .disabled := fun hx => hd (hrest d hx)
    have hen : s.devicesEnabled = true := State.devicesEnabled_eq_true.mpr ⟨d, hstate⟩
    refine (h.toWork.of_busy fun e he _ => he ▸ hd).devicesSafe hs (fun e => ?_)
      (fun hx => absurd (hen.symm.trans hx) (by simp))
      (h.flights ((hcfg d).2.2.2.2 fun hk => hstate ((hon hen d).mpr hk)) hfl)
    by_cases he : e = d
    · rw [he]
      exact h.count.trans hc
    · rw [h.others e he]
      exact (hcfg e).2.1
  balls := h.balls
  play := h.session (by rw [h.same])

/-- Setting the occupancy of one device moves the sum by the difference. -/
theorem State.occupancies_set {s t : State} (d : DevNo)
    (h : ∀ e : DevNo, e ≠ d → (t.devices[e]'e.isLt).live.occupancy = (s.devices[e]'e.isLt).live.occupancy) :
    t.occupancies + (s.devices[d]'d.isLt).live.occupancy = s.occupancies + (t.devices[d]'d.isLt).live.occupancy := by
  have hsum (u : State) : u.occupancies = ∑ e : DevNo, (u.devices[e]'e.isLt).live.occupancy := by
    rw [State.occupancies, indices, Fin.sum_univ_def]
  rw [hsum, hsum, ← Finset.add_sum_erase _ _ (Finset.mem_univ d), ← Finset.add_sum_erase _ (fun e : DevNo =>
    (s.devices[e]'e.isLt).live.occupancy) (Finset.mem_univ d), Finset.sum_congr rfl fun e he => h e (Finset.ne_of_mem_erase he)]
  omega

/-- The occupancy of the device that is counted is written. -/
theorem setOccupancy_work (d : DevNo) (n : Nat) (s : State) :
    Work (· = d) s (s.modLive d fun l => { l with occupancy := n }) where
  cfg e := State.modLive_cfg s d e _
  locks h p k hk := by
    rw [State.modLive_cfg] at hk ⊢
    exact h p k hk
  rest e he hr := by rwa [State.modLive_get, if_neg he]
  enabled e he := by
    rw [State.modLive_get] at he
    split at he
    · next h => subst h; exact he
    · exact he

theorem handExits_length (d : DevNo) (n : Nat) (s : State) :
    (handExits d n s).acct.flights.length = s.acct.flights.length + n := by
  simp [handExits]

/-- A device is counted anew with exits and entries that balance its switches against its occupancy. -/
theorem recountDevice_counted (d : DevNo) (counts : Nat × Nat) (c : Nat) (fallback : Bool) (s : State)
    (hbal : counts.1 + c = counts.2 + (s.devices[d]'d.isLt).live.occupancy) :
    Counted d c s (recountDevice d counts c fallback s).1 := by
  have d_lt := d.isLt
  obtain ⟨exits, entries⟩ := counts
  simp only [recountDevice]
  have hclear : Quiet (· = d) s (s.modLive d fun l => { l with entriesSeen := 0 }) := .modOwn s d _
  have hfrom : (s.modLive d fun l => { l with entriesSeen := 0 }).devices[d].live.occupancy =
    (s.devices[d]'d.isLt).live.occupancy := by rw [State.modLive_get, if_pos rfl]
  refine hclear.counted ?_
  rw [← hfrom] at hbal
  generalize (s.modLive d fun l => { l with entriesSeen := 0 }) = s at hbal ⊢
  obtain ⟨k, h⟩ := handEntries_handed d entries fallback (t := { own := exits, unattributed := 0, ordinary := 0 })
    (s := handExits d exits s) (by rw [handExits_length]; exact Nat.le_add_left _ _)
  generalize handEntries d entries fallback _ (handExits d exits s) = r at h ⊢
  obtain ⟨t, tally⟩ := r
  dsimp only
  have hgo : Work (· = d) s t := Work.trans (.modAcct _ s _ rfl) h.toWork
  have hoth (e : DevNo) (he : e ≠ d) : (t.modLive d fun l => { l with occupancy := c - tally.unattributed }
      ).devices[e].live.occupancy = (s.devices[e]'e.isLt).live.occupancy := by
    rw [State.modLive_get, if_neg he]
    exact h.occupancy e
  have hself : (t.modLive d fun l => { l with occupancy := c - tally.unattributed }).devices[d].live.occupancy =
      c - tally.unattributed := by rw [State.modLive_get, if_pos rfl]
  refine { toWork := hgo.trans (setOccupancy_work d _ t), same := h.same, count := ?_, others := hoth, flights := fun hd hs r hr => ?_,
           balls := fun hs => ?_ }
  · rw [hself]
    exact Nat.sub_le _ _
  · have hr' := h.flights r hr
    simp only [handExits, State.modAcct_acct, List.mem_append, List.mem_replicate] at hr'
    obtain hr' | ⟨-, rfl⟩ := hr'
    · exact hs r hr'
    · exact hd
  · have hocc := State.occupancies_set d hoth
    rw [hself] at hocc
    have hun := h.unattributed
    have hown := h.own
    have hroam := h.roaming
    have hempty := h.empty
    have hpart := h.part
    have hlen := handExits_length d exits s
    obtain ⟨hb, hl⟩ := hs
    rw [State.balls_eq] at hb
    refine ⟨?_, h.limit hl⟩
    rw [State.balls_eq]
    have hover : (handExits d exits s).roaming = s.roaming + exits := by
      simp only [State.roaming, hlen]
      simp only [handExits, State.modAcct_acct]
      omega
    have hin : (handExits d exits s).acct.installed = s.acct.installed := rfl
    have hafter : (t.modLive d fun l => { l with occupancy := c - tally.unattributed }).roaming = t.roaming := rfl
    rw [hafter, State.modLive_acct]
    dsimp only at hun hown hroam hempty
    omega

theorem swapCount_balance (c a e : Nat) : (swapCount c a e).1 + c = (swapCount c a e).2 + a := by
  simp only [swapCount]
  omega

theorem netCount_balance (c a : Nat) : (netCount c a).1 + c = (netCount c a).2 + a := by
  simp only [netCount]
  omega

theorem State.closedCount_le (s : State) (d : DevNo) : s.closedCount d ≤ (s.devices[d]'d.isLt).cfg.positions.length :=
  List.countP_le_length

theorem evaluate_counted (d : DevNo) (s : State) : Counted d (s.closedCount d) s (evaluate d s) := by
  simp only [evaluate]
  have hbal : (if (s.devices[d]'d.isLt).cfg.entry.isSome then
      swapCount (s.closedCount d) (s.devices[d]'d.isLt).live.occupancy (s.devices[d]'d.isLt).live.entriesSeen
      else netCount (s.closedCount d) (s.devices[d]'d.isLt).live.occupancy).1 + s.closedCount d =
      (if (s.devices[d]'d.isLt).cfg.entry.isSome then
      swapCount (s.closedCount d) (s.devices[d]'d.isLt).live.occupancy (s.devices[d]'d.isLt).live.entriesSeen
      else netCount (s.closedCount d) (s.devices[d]'d.isLt).live.occupancy).2 + (s.devices[d]'d.isLt).live.occupancy := by
    split
    · exact swapCount_balance _ _ _
    · exact netCount_balance _ _
  generalize (if (s.devices[d]'d.isLt).cfg.entry.isSome then
      swapCount (s.closedCount d) (s.devices[d]'d.isLt).live.occupancy (s.devices[d]'d.isLt).live.entriesSeen
      else netCount (s.closedCount d) (s.devices[d]'d.isLt).live.occupancy) = counts at hbal ⊢
  refine Counted.enterPlay ((((Quiet.modOwn s d fun l => { l with settle := .stopped }).counted
    (recountDevice_counted d counts _ _ _ ?_)).quiet (actOnOrder_quiet d _ _ _)).quiet
    ((saucerHold_quiet d _ _ _).trans (takeOrder_quiet _ d _)))
  rw [State.modLive_get, if_pos rfl]
  exact hbal

theorem takeEvaluation_sound (d : DevNo) (s : State) : Sound s (takeEvaluation d s) := by
  simp only [takeEvaluation]
  split
  · next h =>
    exact event_sound ((evaluate_counted d s).sound (s.closedCount_le d) (DeviceLive.not_atRest_of_settle h.1))
  · exact .refl s

theorem clearJam_counted (d : DevNo) (s : State) : Counted d (s.closedCount d) s (clearJam d s) := by
  simp only [clearJam]
  refine Counted.enterPlay ((((Quiet.modOwn s d fun l =>
    { l with countFault := false, settle := l.settle.halt }).counted
    (recountDevice_counted d _ (s.closedCount d) false _ ?_)).quiet
    (Quiet.modOwn _ d fun l => { l with attemptCount := 0, state := .idle })).quiet (takeOrder_quiet _ d _))
  rw [State.modLive_get, if_pos rfl]
  exact netCount_balance _ _

theorem clearJam_sound {d : DevNo} {s : State} (hd : (s.devices[d]'d.isLt).live.state ≠ .disabled) : Sound s (clearJam d s) :=
  (clearJam_counted d s).sound (s.closedCount_le d) (DeviceLive.not_atRest hd)

end Sys2Proof.Machine

/-! Tilt, slam and every event that can be taken keep the laws of the part; then `Lawful`, what one command keeps: the seven
invariants, and every record that is not its own. -/

namespace Sys2Proof.Machine

/-! ### Tilt and slam (R167 to R170) -/

theorem tilt_quiet (X : DevNo → Prop) (s : State) : Quiet X s (tilt s) :=
  (((Quiet.raise X s (by simp)).trans (saveOff_quiet X _)).trans (endMarked_quiet X _ _ _)).trans (holdTimers_quiet X _)

/-- The counts of balls do not matter to work that leaves them. -/
theorem Work.sound {s t : State} (h : Work (fun _ => False) s t) (hstock : t.stock = s.stock)
    (hplay : s.SessionSafe → t.SessionSafe) : Sound s t where
  toWork := h
  devices hs := by
    obtain ⟨hocc, -, -, -, hfl⟩ := Stock.ext_iff'.mp hstock
    refine h.devicesSafe hs (fun d => ?_) (fun _ => hstock) (fun r hr => hs.2.2.2.2 r (hfl ▸ hr))
    rw [hocc]
    exact (hs.1 d).2.1
  balls hs := by
    obtain ⟨hocc, hin, hlive, hmiss, hfl⟩ := Stock.ext_iff'.mp hstock
    rw [State.Conserved, State.balls, State.occupancies_congr hocc, hlive, hmiss, hfl, hin]
    exact hs
  play := hplay

/-- A write to the session record that neither opens nor closes it nor changes who plays. -/
theorem modSession_sound (s : State) (f : Session → Session) (hstate : (f s.session).state = s.session.state)
    (hcurrent : (f s.session).current = s.session.current) (hplayers : (f s.session).players = s.session.players)
    (htilt : s.session.state = .opened → s.session.TiltAgrees s.options.limit →
      (f s.session).TiltAgrees s.options.limit) : Sound s (s.modSession f) := by
  have hplay : s.SessionSafe → (s.modSession f).SessionSafe := fun ⟨h1, h2, h3, h4, h5, h6⟩ => by
    simp only [State.SessionSafe, State.modSession_session, hplayers, hcurrent, hstate]
    exact ⟨h1, h2, h3, h4, h5, fun ho => htilt ho (h6 ho)⟩
  exact Work.sound { shut := hstate.trans, session := fun _ => hplay, current := hcurrent } rfl hplay

theorem State.isOpen_iff {s : State} : s.isOpen = true ↔ s.session.state = .opened := by
  simp [State.isOpen]

theorem countWarning_sound {s : State} (htilt : s.isTilted = false) : Sound s (countWarning s) := by
  have hcount : Sound s (s.modSession fun r =>
      { r with warnings := s.session.warnings + 1,
               tilt := if decide (s.options.limit ≤ s.session.warnings + 1) then .tilted else .warned,
               swing := if s.options.swingWindow = 0 then s.session.swing else .load s.options.swingWindow }) := by
    refine modSession_sound s _ rfl rfl rfl fun _ ⟨hnormal, hwarned, _⟩ => ?_
    have hlt : s.session.warnings < s.options.limit := by
      cases h : s.session.tilt with
      | normal => rw [hnormal h]; exact Nat.lt_of_lt_of_le Nat.zero_lt_one (Nat.le_max_left _ _)
      | warned => exact (hwarned h).2
      | tilted => simp [State.isTilted, h] at htilt
    dsimp only [Session.TiltAgrees]
    by_cases h : s.options.limit ≤ s.session.warnings + 1
    · rw [decide_eq_true h, if_pos rfl]
      exact ⟨fun h => (nomatch h), fun h => (nomatch h), fun _ => le_antisymm hlt h⟩
    · rw [decide_eq_false h, if_neg (by simp)]
      exact ⟨fun h => (nomatch h), fun _ => ⟨Nat.le_add_left _ _, Nat.lt_of_not_le h⟩, fun h => (nomatch h)⟩
  have hraise := hcount.trans (Quiet.raise _ _ (k := .tiltWarning) (by simp)).sound
  simp only [countWarning]
  generalize decide (s.options.limit ≤ s.session.warnings + 1) = tilts at hraise ⊢
  cases tilts with
  | true => exact hraise.trans (tilt_quiet _ _).sound
  | false => exact hraise

theorem tiltEvent_sound (s : State) : Sound s (tiltEvent s) := by
  unfold tiltEvent
  split
  · next h =>
    simp only [Bool.and_eq_true, Bool.not_eq_true'] at h
    exact countWarning_sound h.1.2
  · exact .refl s

theorem takeSwingTimerExpiry_sound (s : State) : Sound s (takeSwingTimerExpiry s) := by
  unfold takeSwingTimerExpiry
  split
  · exact modSession_sound s (fun r => { r with swing := .stopped }) rfl rfl rfl fun _ h => h
  · exact .refl s

theorem Page.closeStack_stack (g : Page) : g.closeStack.stack = [] := by
  unfold Page.closeStack
  split
  · assumption
  · rfl

theorem Page.closeStack_frame (g : Page) : ∃ last : LastEnded, g.closeStack = { g with stack := [], last := last } := by
  unfold Page.closeStack
  split
  · next h => exact ⟨g.last, by rw [← h]⟩
  · exact ⟨_, rfl⟩

theorem Page.closeStack_safe {g : Page} (h : g.Safe) : g.closeStack.Safe := by
  obtain ⟨h1, h2, h3, -, -, hc⟩ := h
  unfold Page.closeStack
  split
  · next hs => exact ⟨h1, h2, h3, by simp [hs], by simp [hs], by simp [hs]⟩
  · next c _ hs =>
    obtain ⟨-, -, -, -, -, -, -, -, -, -, -, htotal⟩ := hc c (by simp [hs])
    exact ⟨h1, h2, htotal, Nat.zero_le _, List.nodup_nil, fun c hc => absurd hc (by simp)⟩

theorem closeModes_pages (s : State) (p : PlayerNo) : (closeModes s).pages[p] = (s.pages[p]'p.isLt).closeStack := by
  simp only [closeModes, State.raiseIf_pages]
  simp

theorem closeModes_quiet (X : DevNo → Prop) (s : State) : Quiet X s (closeModes s) := by
  have hclose : Quiet X s { s with pages := s.pages.map Page.closeStack } := by
    have hget (p : PlayerNo) : (s.pages.map Page.closeStack)[p] = (s.pages[p]'p.isLt).closeStack := by simp
    exact { game := fun hs => ⟨fun p => by rw [hget]; exact Page.closeStack_safe (hs.1 p), hs.2⟩
            session := fun _ ⟨h1, h2, h3, h4, _, h6⟩ => ⟨h1, h2, h3, h4,
              fun _ p => by rw [hget]; exact Page.closeStack_stack _, h6⟩
            locks := fun hs p k hk => by
              obtain ⟨_, h⟩ := Page.closeStack_frame (s.pages[p]'p.isLt)
              rw [hget, h]
              exact hs p k hk
            scores := fun p _ => by
              obtain ⟨_, h⟩ := Page.closeStack_frame (s.pages[p]'p.isLt)
              rw [hget, h] }
  exact hclose.trans (.raiseIf X _ _ (by simp))

/-- The session of a state whose modes are all closed is safe when it is CLOSED between balls. -/
theorem closeModes_sessionSafe {s t : State} (hs : s.SessionSafe)
    (hclosed : t.session.state = .closed) (hplayers : t.session.players = s.session.players)
    (hcurrent : t.session.current = s.session.current) (hphase : t.acct.phase = .noPlay ∨ t.acct.phase = .ended) :
    (closeModes t).SessionSafe := by
  obtain ⟨h1, h2, h3, -⟩ := hs
  have hkeep : (closeModes t).session = t.session := by simp only [closeModes, State.raiseIf_session]
  have hacct : (closeModes t).acct = t.acct := by simp only [closeModes, State.raiseIf_acct]
  refine ⟨?_, ?_, ?_, fun _ => ?_, fun _ p => ?_, ?_⟩
  · rw [hkeep, hplayers]; exact h1
  · rw [hkeep, hplayers]; exact h2
  · rw [hkeep, hcurrent, hplayers]; exact h3
  · rw [hacct]; exact hphase
  · rw [closeModes_pages]; exact Page.closeStack_stack _
  · rw [hkeep, hclosed]; exact fun h => nomatch h

/-- The record of a session that is closed. -/
theorem closeRecord_work {s : State} (hopen : s.session.state = .opened) :
    Work (fun _ => False) s (s.modSession fun r => { r with state := .closed }) where
  shut _ := rfl
  session h := by
    rw [hopen] at h
    exact nomatch h

theorem slamEvent_sound (s : State) : Sound s (slamEvent s) := by
  unfold slamEvent
  split
  · next hopen =>
    refine event_sound ?_
    have hclose := closeRecord_work (State.isOpen_iff.mp hopen)
    dsimp only
    generalize hr : (s.modSession fun r => { r with state := .closed }) = r at hclose ⊢
    have hquiet : Quiet (fun _ => False) r (stopIdle (endSearch (saveOff (((((setPhase .ended r).raise .slam).modLive
        trough fun l => { l with owed := 0 }).modLive shooter fun l => { l with owed := 0 }).modAcct
          fun a => { a with multiball := false })))) := by
      refine (((((((setPhase_rest_quiet _ .ended r (.inr rfl)).trans
        (.raise _ _ (k := .slam) (by simp))).trans (.clearOwed _ trough _)).trans (.clearOwed _ shooter _)).trans ?_).trans (saveOff_quiet _ _)).trans
        (endSearch_quiet _ _)).trans (stopIdle_quiet _ _)
      exact .modAcct _ _ (fun a => { a with multiball := false }) rfl rfl rfl rfl rfl
    have hphase : (stopIdle (endSearch (saveOff (((((setPhase .ended r).raise .slam).modLive
        trough fun l => { l with owed := 0 }).modLive shooter fun l => { l with owed := 0 }).modAcct
          fun a => { a with multiball := false })))).acct.phase = .ended := by
      obtain ⟨coils, acct, h, -, -, -, -, -, hp⟩ := endSearch_frame (saveOff (((((setPhase .ended r).raise .slam).modLive
        trough fun l => { l with owed := 0 }).modLive shooter fun l => { l with owed := 0 }).modAcct
          fun a => { a with multiball := false }))
      rw [h]
      exact hp
    generalize stopIdle (endSearch _) = t at hquiet hphase ⊢
    have hall := hquiet.trans (closeModes_quiet _ t)
    refine Work.sound (hclose.trans hall.toWork) (hall.stock.trans (by rw [← hr]; rfl)) fun hs =>
      closeModes_sessionSafe hs ?_ ?_ ?_ (.inr hphase)
    · rw [hquiet.same, ← hr]
      rfl
    · rw [hquiet.same, ← hr]
      rfl
    · rw [hquiet.same, ← hr]
      rfl
  · exact .refl s

/-! ### Every event that can be taken -/

theorem take_sound (e : Event) (s : State) : Sound s (take e s) := by
  cases e with
  | evaluation d => exact takeEvaluation_sound d s
  | confirmTimer d => exact (takeConfirmTimerExpiry_quiet _ d s).sound
  | saucerHold d => exact (takeSaucerHoldExpiry_quiet _ d s).sound
  | grant g => exact (takeGrant_quiet _ g s).sound
  | priorityAging c => exact (takePriorityAging_quiet _ c s).sound
  | pulseEnd c => exact (takePulseEnd_quiet _ c s).sound
  | holdWindow c => exact (takeHoldWindowExpiry_quiet _ c s).sound
  | interval c => exact (takeIntervalExpiry_quiet _ c s).sound
  | recovery c => exact (takeRecoveryExpiry_quiet _ c s).sound
  | gap g => exact (takeGapExpiry_quiet _ g s).sound
  | flight i => exact takeFlightExpiry_sound i s
  | saveTimer => exact (takeSaveTimerExpiry_quiet _ s).sound
  | idleTimer => exact (takeIdleTimerExpiry_quiet _ s).sound
  | searchTimer => exact takeSearchTimerExpiry_sound s
  | pfMultTimer => exact (takePfMultTimerExpiry_quiet _ s).sound
  | modeTimer id => exact (takeModeTimerExpiry_quiet _ id s).sound
  | hurryPeriod id => exact (takeHurryPeriodExpiry_quiet _ id s).sound
  | swingTimer => exact takeSwingTimerExpiry_sound s

end Sys2Proof.Machine

/-! `Lawful`: what one command keeps. The seven invariants of the step, and every record that is not the command's own. -/

namespace Sys2Proof.Machine

/-! ### The relation -/

/-- A part of the state that one command, or a few, write. -/
inductive Part
  | switches | frame | devices | coils | windows | awards | templates | options | enable | route | pending | scores | free
  deriving DecidableEq

/-- What a command keeps that may write the part `w` only, the session's own rules left aside. -/
structure Loyal (w : Option Part) (s t : State) : Prop where
  balls : s.Conserved → t.Conserved := by exact fun h => h
  devices : s.DevicesSafe → t.DevicesSafe := by exact fun h => h
  slots : s.SlotsSafe → t.SlotsSafe := by exact fun h => h
  coils : s.CoilsSafe → t.CoilsSafe := by exact fun h => h
  game : s.GameSafe → t.GameSafe := by exact fun h => h
  locks : s.LocksSafe → t.LocksSafe := by exact fun h => h
  switches : s.SwitchesSafe → t.SwitchesSafe := by exact fun h => h
  queue : t.pending = s.pending := by rfl
  switchCfg : w ≠ some .switches → ∀ n : SwitchNo, (t.switches[n]'n.isLt).cls = (s.switches[n]'n.isLt).cls ∧
    (t.switches[n]'n.isLt).closeDebounce = (s.switches[n]'n.isLt).closeDebounce ∧
    (t.switches[n]'n.isLt).openDebounce = (s.switches[n]'n.isLt).openDebounce ∧ (t.switches[n]'n.isLt).selection = (s.switches[n]'n.isLt).selection := by
      exact fun _ _ => ⟨rfl, rfl, rfl, rfl⟩
  frame : w ≠ some .frame → t.frameCount = s.frameCount ∧ t.tickPhase = s.tickPhase ∧
    ∀ n : SwitchNo, (t.switches[n]'n.isLt).level = (s.switches[n]'n.isLt).level ∧
      (t.switches[n]'n.isLt).lastClose = (s.switches[n]'n.isLt).lastClose ∧ (t.switches[n]'n.isLt).lastOpen = (s.switches[n]'n.isLt).lastOpen := by
      exact fun _ => ⟨rfl, rfl, fun _ => ⟨rfl, rfl, rfl⟩⟩
  deviceCfg : w ≠ some .devices → ∀ d : DevNo, (t.devices[d]'d.isLt).cfg = (s.devices[d]'d.isLt).cfg := by exact fun _ _ => rfl
  coilCfg : w ≠ some .coils → ∀ c : CoilNo, (t.coils[c]'c.isLt).cfg = (s.coils[c]'c.isLt).cfg := by exact fun _ _ => rfl
  windows : w ≠ some .windows → t.windows = s.windows := by exact fun _ => rfl
  awards : w ≠ some .awards → t.awards = s.awards := by exact fun _ => rfl
  templates : w ≠ some .templates → t.templates = s.templates := by exact fun _ => rfl
  options : w ≠ some .options → t.options = s.options := by exact fun _ => rfl
  enable : w ≠ some .enable → t.notices.enable = s.notices.enable := by exact fun _ => rfl
  route : w ≠ some .route → t.notices.route = s.notices.route := by exact fun _ => rfl
  pending : w ≠ some .pending → ∀ k : Notice, s.isPending k = true → t.isPending k = true := by exact fun _ _ h => h
  scores : w ≠ some .scores → ∀ p : PlayerNo, p ≠ s.session.current → (t.pages[p]'p.isLt).score = (s.pages[p]'p.isLt).score := by
    exact fun _ _ _ => rfl
  free : w ≠ some .free → t.freeIndex = s.freeIndex := by exact fun _ => rfl

/-- What a command keeps that may write the part `w` only. -/
structure Lawful (w : Option Part) (s t : State) : Prop extends Loyal w s t where
  session : s.SessionSafe → t.SessionSafe := by exact fun h => h

theorem Lawful.refl (w : Option Part) (s : State) : Lawful w s s := {}

/-- Two commands one after the other; the scores are told apart, for the current player may change between them. -/
theorem Loyal.trans_of_scores {w : Option Part} {s t u : State} (h : Loyal w s t) (g : Loyal w t u)
    (hscores : w ≠ some .scores → ∀ p : PlayerNo, p ≠ s.session.current → (u.pages[p]'p.isLt).score = (s.pages[p]'p.isLt).score) :
    Loyal w s u where
  balls hs := g.balls (h.balls hs)
  devices hs := g.devices (h.devices hs)
  slots hs := g.slots (h.slots hs)
  coils hs := g.coils (h.coils hs)
  game hs := g.game (h.game hs)
  locks hs := g.locks (h.locks hs)
  switches hs := g.switches (h.switches hs)
  queue := g.queue.trans h.queue
  switchCfg hw n :=
    let ⟨h1, h2, h3, h4⟩ := h.switchCfg hw n
    let ⟨g1, g2, g3, g4⟩ := g.switchCfg hw n
    ⟨g1.trans h1, g2.trans h2, g3.trans h3, g4.trans h4⟩
  frame hw :=
    let ⟨h1, h2, h3⟩ := h.frame hw
    let ⟨g1, g2, g3⟩ := g.frame hw
    ⟨g1.trans h1, g2.trans h2, fun n => ⟨(g3 n).1.trans (h3 n).1, (g3 n).2.1.trans (h3 n).2.1,
      (g3 n).2.2.trans (h3 n).2.2⟩⟩
  deviceCfg hw d := (g.deviceCfg hw d).trans (h.deviceCfg hw d)
  coilCfg hw c := (g.coilCfg hw c).trans (h.coilCfg hw c)
  windows hw := (g.windows hw).trans (h.windows hw)
  awards hw := (g.awards hw).trans (h.awards hw)
  templates hw := (g.templates hw).trans (h.templates hw)
  options hw := (g.options hw).trans (h.options hw)
  enable hw := (g.enable hw).trans (h.enable hw)
  route hw := (g.route hw).trans (h.route hw)
  pending hw k hk := g.pending hw k (h.pending hw k hk)
  scores := hscores
  free hw := (g.free hw).trans (h.free hw)

theorem Lawful.trans {w : Option Part} {s t u : State} (h : Lawful w s t) (g : Lawful w t u)
    (hcurrent : t.session.current = s.session.current := by rfl) : Lawful w s u where
  toLoyal := h.toLoyal.trans_of_scores g.toLoyal fun hw p hp =>
    (g.scores hw p (hcurrent.symm ▸ hp)).trans (h.scores hw p hp)
  session hs := g.session (h.session hs)

/-- Steady work is lawful when it keeps the laws of the counts and of the session. -/
theorem Steady.lawful {s t : State} (h : Steady s t) (w : Option Part) (hballs : s.Conserved → t.Conserved)
    (hdevices : s.DevicesSafe → t.DevicesSafe) (hplay : s.SessionSafe → t.SessionSafe) : Lawful w s t := by
  have hswitches : t.switches = s.switches := State.switches_of_kept h.kept
  exact { balls := hballs, devices := hdevices, slots := h.slots, coils := h.coils, game := h.game, session := hplay,
          locks := h.locks
          switches := fun hs n => by rw [hswitches]; exact hs n
          queue := congrArg Kept.pending h.kept
          switchCfg := fun _ n => by rw [hswitches]; exact ⟨rfl, rfl, rfl, rfl⟩
          frame := fun _ => ⟨State.frameCount_of_kept h.kept, congrArg Kept.tickPhase h.kept, fun n => by
            rw [hswitches]; exact ⟨rfl, rfl, rfl⟩⟩
          deviceCfg := fun _ => h.cfg
          coilCfg := fun _ => h.coilCfg
          windows := fun _ => congrArg Kept.windows h.kept
          awards := fun _ => congrArg Kept.awards h.kept
          templates := fun _ => congrArg Kept.templates h.kept
          options := fun _ => congrArg Kept.options h.kept
          enable := fun _ => h.enable
          route := fun _ => h.route
          pending := fun _ => h.pending
          scores := fun _ => h.scores
          free := fun _ => congrArg Kept.freeIndex h.kept }

theorem Sound.lawful {s t : State} (h : Sound s t) (w : Option Part) : Lawful w s t :=
  h.toSteady.lawful w h.balls h.devices h.play

theorem Quiet.lawful {s t : State} (h : Quiet (fun _ => False) s t) (w : Option Part) : Lawful w s t := h.sound.lawful w

/-! ### The start of a frame -/

theorem Timer.tick_of_halted {t : Timer} (h : t.running = false) : t.tick = t := by simp [Timer.tick, h]

theorem Coil.tick1_cfg (v : Coil) : v.tick1.cfg = v.cfg := by
  unfold Coil.tick1
  split
  · split
    · rfl
    · split <;> rfl
  · rfl
  · rfl

theorem Coil.tick1_state (v : Coil) : v.tick1.live.state = v.live.state := by
  unfold Coil.tick1
  split
  · split
    · rfl
    · split <;> rfl
  · rfl
  · rfl

theorem Coil.tick1_fine {v : Coil} (h : v.live.Fine) : v.tick1.live.Fine := by
  obtain ⟨hidle, hage, hp⟩ := h
  unfold Coil.tick1
  split
  · next hw =>
    split
    · exact ⟨hidle, hage, hp⟩
    · split
      · exact ⟨hidle, hage, hp⟩
      · exact CoilLive.fine_of_busy (by simp [hw]) (by simp only; omega) hp
  · exact ⟨hidle, hage, hp⟩
  · exact ⟨hidle, hage, hp⟩

theorem Coil.tick10_frame (v : Coil) : ∃ t : Timer, v.tick10 = { v with live := { v.live with timer := t } } := by
  unfold Coil.tick10
  split
  · exact ⟨_, rfl⟩
  · exact ⟨v.live.timer, rfl⟩

theorem tick1_lawful (s : State) (w : Option Part) : Lawful w s (tick1 s) := by
  have hget (c : CoilNo) : (tick1 s).coils[c] = (s.coils[c]'c.isLt).tick1 := by simp [tick1]
  exact { coils := fun hs => hs.of_steady (fun c => by rw [hget, Coil.tick1_state])
            (fun c => by rw [hget, Coil.tick1_cfg]) (fun g => by cases g <;> exact Iff.rfl)
            fun c hc => by rw [hget]; exact Coil.tick1_fine hc
          coilCfg := fun _ c => by rw [hget, Coil.tick1_cfg] }

theorem Device.tick10_atRest {v : Device} (h : v.live.AtRest) : v.tick10.live.AtRest := by
  have ⟨_, _, _, _, _, _, _, _, _, _, _, ⟨h1, _⟩, ⟨h2, _⟩, ⟨h3, _⟩, _⟩ := DeviceLive.atRest_iff.mp h
  have hsame : v.tick10.live = v.live := by
    simp only [Device.tick10, Timer.tick_of_halted h1, Timer.tick_of_halted h2, Timer.tick_of_halted h3]
  rw [hsame]
  exact h

theorem Context.tick10_safe {c : Context} (h : c.Safe) : c.tick10.Safe ∧ c.tick10.id = c.id := by
  obtain ⟨h1, h2, h3, h4, h5, h6, h7, h8, htimed, huntimed, hmax, htotal⟩ := h
  have htimer : ∀ d : Context, d = (if !c.timed || c.timerDue then c
      else if c.timer ≤ 1 then { c with timerDue := true } else { c with timer := c.timer - 1 }) → d.Safe ∧ d.id = c.id := by
    rintro d rfl
    split
    · exact ⟨⟨h1, h2, h3, h4, h5, h6, h7, h8, htimed, huntimed, hmax, htotal⟩, rfl⟩
    · next hc =>
      simp only [Bool.or_eq_true, Bool.not_eq_true', not_or, Bool.not_eq_false] at hc
      split
      · exact ⟨⟨h1, h2, h3, h4, h5, h6, h7, h8, htimed, huntimed, hmax, htotal⟩, rfl⟩
      · refine ⟨⟨h1, h2, h3, h4, h5, h6, h7, h8, fun _ => ?_, fun h => ?_, (Nat.sub_le _ _).trans hmax, htotal⟩, rfl⟩
        · dsimp only
          omega
        · exact absurd (hc.1.symm.trans h) (by simp)
  unfold Context.tick10
  generalize hd : (if !c.timed || c.timerDue then c
      else if c.timer ≤ 1 then { c with timerDue := true } else { c with timer := c.timer - 1 }) = d
  obtain ⟨hsafe, hid⟩ := htimer d hd.symm
  dsimp only
  split
  · exact ⟨hsafe, hid⟩
  · split
    · exact ⟨hsafe, hid⟩
    · exact ⟨hsafe, hid⟩

theorem tickStack_map (l : List Context) : ∃ f : Context × RunState → Context,
    tickStack l = (derived l).map f ∧ ∀ x, x.1.Safe → (f x).Safe ∧ (f x).id = x.1.id := by
  refine ⟨fun x => if x.2 = .running then x.1.tick10 else x.1, rfl, fun x hx => ?_⟩
  dsimp only
  split
  · exact Context.tick10_safe hx
  · exact ⟨hx, rfl⟩

theorem SafeStack.tick {l : List Context} (hl : SafeStack l) : SafeStack (tickStack l) := by
  obtain ⟨hlen, hid, hc⟩ := hl
  obtain ⟨f, hf, hsafe⟩ := tickStack_map l
  rw [hf]
  refine ⟨?_, ?_, fun c hcm => ?_⟩
  · rw [List.length_map, derived_length]
    exact hlen
  · have hids : (derived l).map (fun x => (f x).id) = l.map fun c => c.id := by
      conv_rhs => rw [← derived_map_fst l, List.map_map]
      exact List.map_congr_left fun x hx => (hsafe x (hc _ (mem_of_mem_derived hx))).2
    rw [List.map_map]
    exact hids.symm ▸ hid
  · obtain ⟨x, hx, rfl⟩ := List.mem_map.mp hcm
    exact (hsafe x (hc _ (mem_of_mem_derived hx))).1

theorem tick10_pages (s : State) (p : PlayerNo) : (tick10 s).pages[p] =
    { (s.pages[p]'p.isLt) with stack := if s.modesCount ∧ p = s.session.current then tickStack (s.pages[p]'p.isLt).stack
                               else (s.pages[p]'p.isLt).stack } := by
  by_cases hm : s.modesCount = true
  · by_cases hp : p = s.session.current
    · subst hp
      simp [tick10, hm, State.page]
    · simp [tick10, hm, hp, Fin.val_inj, Ne.symm hp]
  · simp [tick10, hm]

theorem tick10_lawful (s : State) (w : Option Part) : Lawful w s (tick10 s) := by
  have hdev (d : DevNo) : (tick10 s).devices[d] = (s.devices[d]'d.isLt).tick10 := by simp [tick10]
  have hcoil (c : CoilNo) : ∃ t : Timer,
      (tick10 s).coils[c] = { (s.coils[c]'c.isLt) with live := { (s.coils[c]'c.isLt).live with timer := t } } := by
    obtain ⟨t, ht⟩ := Coil.tick10_frame (s.coils[c]'c.isLt)
    exact ⟨t, by rw [← ht]; simp [tick10]⟩
  have hocc (d : DevNo) : (tick10 s).devices[d].live.occupancy = (s.devices[d]'d.isLt).live.occupancy := by rw [hdev]; rfl
  have hstate (d : DevNo) : (tick10 s).devices[d].live.state = (s.devices[d]'d.isLt).live.state := by rw [hdev]; rfl
  have hcfg (d : DevNo) : (tick10 s).devices[d].cfg = (s.devices[d]'d.isLt).cfg := by rw [hdev]; rfl
  refine { balls := fun hs => ?_, devices := fun hs => ?_, coils := fun hs => ?_, game := fun hs => ?_,
           session := fun ⟨h1, h2, h3, h4, h5, h6⟩ => ⟨h1, h2, h3, h4, fun hc p => ?_, h6⟩, locks := fun hs p k hk => ?_,
           deviceCfg := fun _ => hcfg, coilCfg := fun _ c => ?_, scores := fun _ p _ => ?_ }
  · rw [State.Conserved, State.balls, State.occupancies_congr hocc]
    exact hs
  · obtain ⟨h1, h2, h3, h4, h5⟩ := hs
    have hen : (tick10 s).devicesEnabled = s.devicesEnabled := by simp only [State.devicesEnabled, hstate]
    refine ⟨fun d => ?_, fun d hd => ?_, fun ht d => ?_, fun ht => h4 (hen ▸ ht), h5⟩
    · rw [hcfg, hocc]
      exact h1 d
    · rw [hdev]
      exact Device.tick10_atRest (h2 d (hstate d ▸ hd))
    · rw [hstate, hcfg]
      exact h3 (hen ▸ ht) d
  · refine hs.of_steady (fun c => ?_) (fun c => ?_) (fun g => by cases g <;> exact Iff.rfl) fun c hc => ?_ <;>
      obtain ⟨t, ht⟩ := hcoil c <;> rw [ht]
    exact hc
  · refine ⟨fun p => ?_, hs.2⟩
    obtain ⟨h1, h2, h3, h4⟩ := Page.safe_iff.mp (hs.1 p)
    rw [tick10_pages]
    refine Page.safe_iff.mpr ⟨h1, h2, h3, ?_⟩
    dsimp only
    split
    · exact h4.tick
    · exact h4
  · rw [tick10_pages]
    rw [hcfg] at hk ⊢
    exact hs p k hk
  · obtain ⟨t, ht⟩ := hcoil c
    rw [ht]
  · rw [tick10_pages]
  · rw [tick10_pages, h5 hc p]
    dsimp only
    split <;> rfl

theorem FlightRec.tick_frame (r : FlightRec) : r.tick.target = r.target ∧ r.tick.source = r.source := by
  unfold FlightRec.tick
  split
  · exact ⟨rfl, rfl⟩
  · split <;> exact ⟨rfl, rfl⟩

theorem tick100_lawful (s : State) (w : Option Part) : Lawful w s (tick100 s) where
  balls hs := by
    simp only [State.Conserved, State.balls, tick100, State.modAcct_acct, List.length_map]
    exact hs
  devices := fun ⟨h1, h2, h3, h4, h5⟩ => by
    refine ⟨h1, h2, h3, fun hd => ?_, fun r hr => ?_⟩
    · obtain ⟨g1, g2, g3, g4⟩ := h4 hd
      exact ⟨g1, g2, g3, by simp [tick100, g4]⟩
    · obtain ⟨q, hq, rfl⟩ := List.mem_map.mp hr
      obtain ⟨htarget, hsource⟩ := q.tick_frame
      rw [htarget, hsource]
      exact h5 q hq

theorem startFrame_current (s : State) : (startFrame s).session.current = s.session.current := by
  simp only [startFrame, tick100, tick10]
  split <;> split <;> rfl

theorem startFrame_lawful (s : State) : Lawful (some .frame) s (startFrame s) := by
  simp only [startFrame]
  generalize hr : (tick1 { s with frameCount := s.frameCount + 1, tickPhase := (s.tickPhase + 1) % 100 }) = r
  have hbegin : Lawful (some .frame) s r := by
    rw [← hr]
    exact Lawful.trans (t := { s with frameCount := s.frameCount + 1, tickPhase := (s.tickPhase + 1) % 100 })
      { frame := fun h => (h rfl).elim } (tick1_lawful _ _)
  have hcur : r.session.current = s.session.current := by rw [← hr]; rfl
  have hten : Lawful (some .frame) s (if (s.tickPhase + 1) % 100 % 10 = 0 then tick10 r else r) := by
    split
    · exact hbegin.trans (tick10_lawful r _) hcur
    · exact hbegin
  have hcur' : (if (s.tickPhase + 1) % 100 % 10 = 0 then tick10 r else r).session.current = s.session.current := by
    split <;> exact hcur
  split
  · exact hten.trans (tick100_lawful _ _) hcur'
  · exact hten

/-! ### The readings of a frame -/

theorem debounce_cfg (r : SwitchRec) (closed : Bool) (stamp : Stamp) :
    (r.debounce closed stamp).1.cls = r.cls ∧ (r.debounce closed stamp).1.closeDebounce = r.closeDebounce ∧
      (r.debounce closed stamp).1.openDebounce = r.openDebounce ∧
      (r.debounce closed stamp).1.selection = r.selection := by
  obtain ⟨-, h⟩ | ⟨-, -, h⟩ | ⟨-, -, h⟩ := debounce_cases r closed stamp <;> rw [h]
  · exact ⟨rfl, rfl, rfl, rfl⟩
  · exact ⟨rfl, rfl, rfl, rfl⟩
  · cases closed <;> exact ⟨rfl, rfl, rfl, rfl⟩

/-- A write to the switch records alone. -/
theorem Lawful.of_switches {w : Option Part} (s : State) (v : Vector SwitchRec 128)
    (hsafe : s.SwitchesSafe → ∀ n : SwitchNo, v[n].Safe)
    (hcfg : w ≠ some .switches → ∀ n : SwitchNo, v[n].cls = (s.switches[n]'n.isLt).cls ∧
      v[n].closeDebounce = (s.switches[n]'n.isLt).closeDebounce ∧ v[n].openDebounce = (s.switches[n]'n.isLt).openDebounce ∧
      v[n].selection = (s.switches[n]'n.isLt).selection)
    (hframe : w ≠ some .frame → ∀ n : SwitchNo, v[n].level = (s.switches[n]'n.isLt).level ∧
      v[n].lastClose = (s.switches[n]'n.isLt).lastClose ∧ v[n].lastOpen = (s.switches[n]'n.isLt).lastOpen) :
    Lawful w s { s with switches := v } where
  switches := hsafe
  switchCfg := hcfg
  frame hw := ⟨rfl, rfl, hframe hw⟩

theorem debounceAll_lawful (raw : BitVec 128) (s : State) : Lawful (some .frame) s (debounceAll raw s) := by
  refine .of_switches s _ (fun hs n => ?_) (fun _ n => ?_) fun h => (h rfl).elim
  · have hget := debounceAll_get raw s n
    simp only [debounceAll] at hget
    rw [hget]
    have hle := debounce_pendingFrames_le (s.switches[n]'n.isLt) (raw.getLsbD n.val) s.frameCount
    obtain ⟨h1, h2, h3, h4, -⟩ := hs n
    obtain ⟨-, hclose, hopen, -⟩ := debounce_cfg (s.switches[n]'n.isLt) (raw.getLsbD n.val) s.frameCount
    refine ⟨by rwa [hclose], by rwa [hclose], by rwa [hopen], by rwa [hopen], hle.trans ?_⟩
    split <;> omega
  · have hget := debounceAll_get raw s n
    simp only [debounceAll] at hget
    rw [hget]
    exact debounce_cfg _ _ _

theorem activity_lawful (w : Option Part) (a : BitVec 128) (s : State) :
    Lawful w s ({ s with activity := a }.raise .switchActivity) where
  pending _ k hk := by
    rw [isPending_raise]
    exact Bool.or_eq_true_iff.mpr (.inl hk)

theorem passEdge_lawful (w : Option Part) (n : SwitchNo) (d : Direction) (s : State) : Lawful w s (passEdge n d s) :=
  (activity_lawful w _ s).trans ((switchEvent_quiet _ n d _).lawful w)

/-- What an edge does before it is told to the activity set and the router (R10). -/
def deliverEarly (e : SwitchNo × Direction) (s : State) : State :=
  let r := (s.switches[e.1]'e.1.isLt)
  let s := deviceEdges e.1 e.2 s
  let s := if r.cls = .playfield then playfieldActivity s else s
  let s := if r.cls = .tilt ∧ e.2 = .closing then tiltEvent s else s
  if r.cls = .slam ∧ e.2 = .closing then slamEvent s else s

theorem deliverEdge_eq (e : SwitchNo × Direction) (s : State) : deliverEdge e s =
    if (s.switches[e.1]'e.1.isLt).cls = .unused then s
    else if (s.switches[e.1]'e.1.isLt).selection.passes e.2 then passEdge e.1 e.2 (deliverEarly e s) else deliverEarly e s := rfl

theorem Sound.after_ite {s t : State} {f : State → State} (c : Prop) [Decidable c] (hf : ∀ s, Sound s (f s))
    (h : Sound s t) : Sound s (if c then f t else t) := by
  split
  · exact h.trans (hf t)
  · exact h

theorem deliverEarly_sound (e : SwitchNo × Direction) (s : State) : Sound s (deliverEarly e s) :=
  .after_ite _ slamEvent_sound (.after_ite _ tiltEvent_sound (.after_ite _ playfieldActivity_sound
    (deviceEdges_quiet _ e.1 e.2 s).sound))

theorem passEdge_current (n : SwitchNo) (d : Direction) (s : State) :
    (passEdge n d s).session.current = s.session.current :=
  (switchEvent_quiet (fun _ => False) n d _).current

theorem deliverEdge_lawful (w : Option Part) (e : SwitchNo × Direction) (s : State) :
    Lawful w s (deliverEdge e s) ∧ (deliverEdge e s).session.current = s.session.current := by
  have h := deliverEarly_sound e s
  rw [deliverEdge_eq]
  split
  · exact ⟨.refl w s, rfl⟩
  · split
    · exact ⟨(h.lawful w).trans (passEdge_lawful w _ _ _) h.current, (passEdge_current _ _ _).trans h.current⟩
    · exact ⟨h.lawful w, h.current⟩

theorem Lawful.foldl {α : Type} {w : Option Part} (f : State → α → State)
    (hf : ∀ s a, Lawful w s (f s a) ∧ (f s a).session.current = s.session.current) (l : List α) (s : State) :
    Lawful w s (l.foldl f s) ∧ (l.foldl f s).session.current = s.session.current := by
  induction l generalizing s with
  | nil => exact ⟨.refl w s, rfl⟩
  | cons a l ih => exact ⟨(hf s a).1.trans (ih _).1 (hf s a).2, (ih _).2.trans (hf s a).2⟩

theorem scanFrame_lawful (raw : BitVec 128) (early : List Event) (s : State) :
    Lawful (some .frame) s (scanFrame raw early s) := by
  have htake := Sound.foldl _ (fun s e => take_sound e s) early (startFrame s)
  have hdeliver := Lawful.foldl (w := some .frame) _ (fun s e => deliverEdge_lawful _ e s)
  exact ((startFrame_lawful s).trans (htake.lawful _) (startFrame_current s)).trans
    ((debounceAll_lawful raw _).trans (hdeliver _ _).1) (htake.current.trans (startFrame_current s))

end Sys2Proof.Machine

/-! Every request but those of devices and sessions is lawful. -/

namespace Sys2Proof.Machine

/-! ### The link -/

theorem Lawful.modLink (w : Option Part) (s : State) (f : Link → Link) : Lawful w s (s.modLink f) := {}

/-- The link may change after a lawful command. -/
theorem Lawful.then_modLink {w : Option Part} {s t : State} (h : Lawful w s t) (f : Link → Link) :
    Lawful w s (t.modLink f) := { h with }

theorem Lawful.raise (w : Option Part) (s : State) (k : Notice) : Lawful w s (s.raise k) where
  pending _ j hj := by rw [isPending_raise, hj, Bool.true_or]

theorem linkError_lawful (w : Option Part) (c : LinkCause) (s : State) : Lawful w s (linkError c s) :=
  (Lawful.modLink w s _).trans (.raise w _ _)

theorem overrunFrame_lawful (w : Option Part) (n : Nat) (s : State) : Lawful w s (overrunFrame n s) :=
  (Lawful.modLink w s _).trans (linkError_lawful w _ _)

theorem badFrame_lawful (w : Option Part) (n : Nat) (c : LinkCause) (s : State) : Lawful w s (badFrame n c s) :=
  ((Lawful.modLink w s _).trans (.modLink w _ _)).trans (linkError_lawful w c _)

theorem frame_lawful {w : Option Part} {n : Nat} {f : State → State} {s : State} (h : Lawful w s (f s)) :
    Lawful w s (frame n f s) := by
  unfold frame
  split
  · exact overrunFrame_lawful w n s
  · exact h

theorem beginExecution_lawful (w : Option Part) (n : Nat) (s : State) : Lawful w s (beginExecution n s) :=
  (Lawful.modLink w s _).trans (.modLink w _ _)

/-- A request is lawful when its owner is. -/
theorem request_lawful {w : Option Part} {len : Nat} {body : List Byte} {run : List Byte → State → State × Reply}
    {s t : State} (hrun : ∀ s, Lawful w s (run body s).1) (h : request len body run s = .next t) : Lawful w s t := by
  obtain rfl : _ = t := by simpa only [request, Host.Outcome.next.injEq] using h
  refine frame_lawful ?_
  split
  · exact badFrame_lawful w _ _ s
  · split
    · exact (beginExecution_lawful w _ s).trans ((hrun _).then_modLink _)
    · exact (beginExecution_lawful w _ s).trans (.modLink w _ _)

theorem withEncodingCheck_eq_ok {valid : Bool} {owner : Status} :
    withEncodingCheck valid owner = .ok ↔ valid = true ∧ owner = .ok := by
  unfold withEncodingCheck
  cases valid with
  | true => simp
  | false =>
    by_cases h : owner = .ok
    · simp [h]
    · simp only [Bool.not_false, Bool.true_and, Bool.false_eq_true, false_and, iff_false]
      split
      · simp
      · exact h

/-! ### Notices and options -/

theorem clearNotices_lawful (body : List Byte) (s : State) : Lawful (some .pending) s (clearNotices body s).1 := by
  have hclear : Lawful (some .pending) s
      { s with notices := { s.notices with pending := s.notices.pending &&& ~~~noticeSet body } } :=
    { pending := fun h => (h rfl).elim }
  simp only [clearNotices, ok]
  split
  · exact hclear.then_modLink _
  · exact hclear

theorem setNoticeEnable_lawful (body : List Byte) (s : State) : Lawful (some .enable) s (setNoticeEnable body s).1 :=
  { enable := fun h => (h rfl).elim }

theorem setNoticeRoute_lawful (body : List Byte) (s : State) : Lawful (some .route) s (setNoticeRoute body s).1 :=
  { route := fun h => (h rfl).elim }

/-- The options change in a CLOSED session only, where no warning is counted. -/
theorem setGameOptions_lawful (body : List Byte) (s : State) : Lawful (some .options) s (setGameOptions body s).1 := by
  simp only [setGameOptions]
  split
  · exact .refl _ s
  · next hopen =>
    split
    · exact .refl _ s
    · exact { options := fun h => (h rfl).elim
              session := fun ⟨h1, h2, h3, h4, h5, _⟩ => ⟨h1, h2, h3, h4, h5,
                fun ho => (hopen (State.isOpen_iff.mpr ho)).elim⟩ }

/-! ### The scanner, the router and the templates -/

theorem clampDebounce_range (b : Byte) : 1 ≤ clampDebounce b ∧ clampDebounce b ≤ 15 := by
  unfold clampDebounce
  omega

theorem setSwitch_lawful (body : List Byte) (s : State) : Lawful (some .switches) s (setSwitch body s).1 := by
  unfold setSwitch
  split
  · split
    · exact .refl _ s
    · split
      · split
        · exact .refl _ s
        · refine .of_switches s _ (fun hs m => ?_) (fun h => (h rfl).elim) fun _ m => ?_ <;> rw [vector_set_get] <;> split
          · exact ⟨(clampDebounce_range _).1, (clampDebounce_range _).2, (clampDebounce_range _).1,
              (clampDebounce_range _).2, Nat.zero_le _⟩
          · exact hs m
          · next h => subst h; exact ⟨rfl, rfl, rfl⟩
          · exact ⟨rfl, rfl, rfl⟩
      · exact .refl _ s
  · exact .refl _ s

theorem setWindow_lawful (body : List Byte) (s : State) : Lawful (some .windows) s (setWindow body s).1 := by
  unfold setWindow
  split
  · split
    · exact .refl _ s
    · split
      · split
        · exact .refl _ s
        · exact { windows := fun h => (h rfl).elim }
      · exact .refl _ s
  · exact .refl _ s

/-- Valid digits carry fewer than 100 per byte. -/
theorem bcdValue_lt {l : List Byte} (h : bcdValid l = true) : bcdValue l < 100 ^ l.length := by
  suffices hn : ∀ (l : List Byte) (n k : Nat), bcdValid l = true → n < 100 ^ k →
      l.foldl (fun n b => n * 100 + (b.toNat / 16 * 10 + b.toNat % 16)) n < 100 ^ (k + l.length) by
    have := hn l 0 0 h (by decide)
    rwa [Nat.zero_add] at this
  intro l
  induction l with
  | nil => exact fun _ _ _ hn => hn
  | cons b l ih =>
    intro n k hl hn
    simp only [bcdValid, List.all_cons, Bool.and_eq_true, decide_eq_true_eq] at hl
    obtain ⟨⟨hhi, hlo⟩, hrest⟩ := hl
    have hstep := ih (n * 100 + (b.toNat / 16 * 10 + b.toNat % 16)) (k + 1) hrest (by rw [pow_succ]; omega)
    rw [Nat.add_assoc, Nat.add_comm 1] at hstep
    exact hstep

theorem bcdValue_le {l : List Byte} (h : bcdValid l = true) (hl : l.length ≤ 4) : bcdValue l ≤ Config.maxValue := by
  have hlt := bcdValue_lt h
  have hpow : 100 ^ l.length ≤ 100 ^ 4 := Nat.pow_le_pow_right (by decide) hl
  have hmax : Config.maxValue = 100 ^ 4 - 1 := rfl
  omega

theorem setAward_lawful (body : List Byte) (s : State) : Lawful (some .awards) s (setAward body s).1 := by
  unfold setAward
  split
  · next i _ b3 b2 b1 b0 _ _ _ _ =>
    split
    · exact .refl _ s
    · next hvalid =>
      split
      · split
        · exact .refl _ s
        · refine { awards := fun h => (h rfl).elim, game := fun hs => ⟨hs.1, hs.2.1, fun j => ?_, hs.2.2.2⟩ }
          dsimp only [ok]
          rw [vector_set_get]
          split
          · exact bcdValue_le (by simpa using hvalid) (le_refl 4)
          · exact hs.2.2.1 j
      · exact .refl _ s
  · exact .refl _ s

theorem bcdValid_value4 {l : List Byte} (h : bcdValid l = true) (k : Nat) : value4 l k ≤ Config.maxValue := by
  refine bcdValue_le (List.all_eq_true.mpr fun b hb => List.all_eq_true.mp h b ?_) (List.length_take_le _ _)
  exact List.mem_of_mem_drop (List.mem_of_mem_take hb)

theorem bytes_word16_le (hi lo : Byte) : word16 hi lo ≤ Config.maxTime := by
  have := hi.isLt
  have := lo.isLt
  simp only [word16, Config.maxTime]
  omega

theorem TemplateFields.timer_le {body : List Byte} {f : TemplateFields} (h : templateFields body = some f) :
    f.timer ≤ Config.maxTime := by
  unfold templateFields at h
  split at h
  · split at h
    · obtain rfl := Option.some.inj h
      exact bytes_word16_le _ _
    · exact absurd h (by simp)
  · exact absurd h (by simp)

/-- A template that passes R141's checks keeps the relations of R140. -/
theorem TemplateFields.template_safe {f : TemplateFields} (h : f.check = .ok) (ht : f.timer ≤ Config.maxTime) :
    f.template.Safe := by
  unfold TemplateFields.check at h
  split_ifs at h with h1 h2 h3 h4 h5 h6 h7 h8
  simp only [Bool.not_eq_true', Bool.and_eq_false_iff, not_or, Bool.not_eq_false] at h1
  refine ⟨by simp only [TemplateFields.template]; omega, by simp only [TemplateFields.template]; omega,
    Nat.le_of_not_lt h6, bcdValid_value4 h1.1 2, ?_, bcdValid_value4 h1.2 0, Nat.min_le_left _ _, Nat.le_of_not_lt h5, ht⟩
  simp only [TemplateFields.template]
  split
  · exact Nat.zero_le _
  · omega

theorem setTemplate_lawful (body : List Byte) (s : State) : Lawful (some .templates) s (setTemplate body s).1 := by
  unfold setTemplate
  split
  · exact .refl _ s
  · next f hf =>
    split
    · next hcheck =>
      simp only [ok, putTemplate]
      split
      · next hid =>
        refine { templates := fun h => (h rfl).elim, game := fun hs => ⟨hs.1, fun j t ht => ?_, hs.2.2⟩ }
        by_cases h : j.val = f.id.toNat - 1
        · have hget : (s.templates.set (f.id.toNat - 1) (some f.template))[j] = some f.template := by
            simp [h]
          rw [hget] at ht
          obtain rfl : t = f.template := by simpa using ht
          exact TemplateFields.template_safe hcheck (TemplateFields.timer_le hf)
        · have hget : (s.templates.set (f.id.toNat - 1) (some f.template))[j] = (s.templates[j]'j.isLt) := by
            simp [Ne.symm h]
          rw [hget] at ht
          exact hs.2.1 j t ht
      · exact .refl _ s
    · exact .refl _ s

/-! ### Scores and modes -/

/-- A write to one page that keeps its locks and its stack. -/
theorem Lawful.modScore (s : State) (p : PlayerNo) (f : Page → Page) (hg : s.GameSafe → (f (s.pages[p]'p.isLt)).Safe)
    (hstack : (f (s.pages[p]'p.isLt)).stack = (s.pages[p]'p.isLt).stack) (hlit : (f (s.pages[p]'p.isLt)).lit = (s.pages[p]'p.isLt).lit)
    (hcredits : (f (s.pages[p]'p.isLt)).credits = (s.pages[p]'p.isLt).credits) : Lawful (some .scores) s (s.modPage p f) where
  game hs := by
    refine ⟨fun q => ?_, hs.2⟩
    rw [State.modPage_get]
    split
    · exact hg hs
    · exact hs.1 q
  session := fun ⟨h1, h2, h3, h4, h5, h6⟩ => by
    refine ⟨h1, h2, h3, h4, fun hc q => ?_, h6⟩
    rw [State.modPage_get]
    split
    · exact hstack.trans (h5 hc p)
    · exact h5 hc q
  locks hs q k hk := by
    rw [State.modPage_get]
    split
    · have hold := hs p k hk
      rw [← hlit, ← hcredits] at hold
      exact hold
    · exact hs q k hk
  scores h := (h rfl).elim

theorem addScore_lawful (p : PlayerNo) (v : Nat) (s : State) (hv : v ≤ Config.maxScore) :
    Lawful (some .scores) s (addScore p v s).1 := by
  have hsafe (hs : s.GameSafe) := addScore_page_safe (p := p) hs hv p
  obtain ⟨-, h⟩ | ⟨-, -, h⟩ | ⟨-, -, -, h⟩ := addScore_cases p v s <;> rw [h] at hsafe ⊢ <;> dsimp only at hsafe ⊢
  · simp only [State.modPage_get, if_pos] at hsafe
    exact .modScore s p _ hsafe rfl rfl rfl
  · simp only [State.modPage_get, if_pos] at hsafe
    exact .modScore s p _ hsafe rfl rfl rfl
  · simp only [State.raise_pages, State.modPage_get, if_pos] at hsafe
    refine Lawful.trans ?_ (.raise _ _ _)
    refine .modScore s p _ ?_ ?_ ?_ ?_
    · exact hsafe
    · dsimp only
    · dsimp only
    · dsimp only

theorem addPoints_lawful (body : List Byte) (s : State) : Lawful (some .scores) s (addPoints body s).1 := by
  unfold addPoints
  split
  · next p v3 v2 v1 v0 mu =>
    split
    · exact .refl _ s
    · next hvalid =>
      split
      · exact .refl _ s
      · next p _ =>
        split
        · exact .refl _ s
        · next mult _ =>
          split
          · exact .refl _ s
          · split
            · exact .refl _ s
            · have hv : bcdValue [v3, v2, v1, v0] * (if mult = true then s.product none else 1) ≤ Config.maxScore := by
                refine award_value_le (bcdValue_le (by simpa using hvalid) (le_refl 4)) ?_
                split
                · exact s.product_le none
                · decide
              exact addScore_lawful p _ s hv
  · exact .refl _ s

theorem setPfMultRequest_lawful (w : Option Part) (body : List Byte) (s : State) :
    Lawful w s (setPfMultRequest body s).1 := by
  unfold setPfMultRequest
  split
  · split
    · exact .refl w s
    · exact (setPfMult_quiet _ _ _ s (by omega) (by omega)).lawful w
  · exact .refl w s

theorem pushMode_lawful (w : Option Part) (body : List Byte) (s : State) : Lawful w s (pushMode body s).1 := by
  unfold pushMode
  split
  · next id =>
    have hpush := (push_quiet (fun _ => False) s.session.current id.toNat s).lawful w
    split
    · next h => rw [h] at hpush; exact hpush
    · exact .refl w s
  · exact .refl w s

theorem withContext_lawful {w : Option Part} {id : Byte} {s : State} {f : Context → State × Reply}
    (hf : ∀ c, c ∈ s.page.stack → Lawful w s (f c).1) : Lawful w s (withContext id s f).1 := by
  unfold withContext
  split
  · exact .refl w s
  · split
    · exact .refl w s
    · next h => exact hf _ (mem_of_contextOf h).1

theorem retireMode_lawful (w : Option Part) (body : List Byte) (s : State) : Lawful w s (retireMode body s).1 := by
  unfold retireMode
  split
  · exact withContext_lawful fun c _ => (endContext_quiet _ _ _ _ s).lawful w
  · exact .refl w s

theorem pauseRequest_lawful (w : Option Part) (on : Bool) (body : List Byte) (s : State) :
    Lawful w s (pauseRequest on body s).1 := by
  unfold pauseRequest
  split
  · refine withContext_lawful fun c _ => ?_
    exact ((modContext_quiet _ s.session.current c.id (fun x => { x with paused := on }) s
      fun _ _ _ _ h => ⟨h, rfl⟩).trans (holdTimers_quiet _ _)).lawful w
  · exact .refl w s

theorem Context.addTime_safe (t : Nat) {c : Context} (h : c.Safe) : (c.addTime t).Safe ∧ (c.addTime t).id = c.id := by
  obtain ⟨h1, h2, h3, h4, h5, h6, h7, h8, htimed, huntimed, hmax, htotal⟩ := h
  unfold Context.addTime
  split
  · exact ⟨⟨h1, h2, h3, h4, h5, h6, h7, h8, htimed, huntimed, hmax, htotal⟩, rfl⟩
  · next hc =>
    simp only [Bool.or_eq_true, Bool.not_eq_true', not_or, Bool.not_eq_false] at hc
    refine ⟨⟨h1, h2, h3, h4, h5, h6, h7, h8, fun _ => ?_, fun h => ?_, Nat.min_le_left _ _, htotal⟩, rfl⟩
    · have := htimed hc.1
      exact le_min (by decide) (by omega)
    · exact absurd (hc.1.symm.trans h) (by simp)

theorem addModeTime_lawful (w : Option Part) (body : List Byte) (s : State) : Lawful w s (addModeTime body s).1 := by
  unfold addModeTime
  split
  · next t1 t0 =>
    exact withContext_lawful fun c _ => (modContext_quiet _ s.session.current c.id (Context.addTime (word16 t1 t0)) s
      fun _ _ _ _ h => Context.addTime_safe _ h).lawful w
  · exact .refl w s

theorem advanceMode_lawful (body : List Byte) (s : State) : Lawful (some .free) s (advanceMode body s).1 := by
  unfold advanceMode
  split
  · next n =>
    refine withContext_lawful fun c _ => ?_
    split
    · exact .refl _ s
    · have h := (advance_quiet (fun _ => False) c.id n.toNat s).lawful (some .free)
      dsimp only [ok]
      split
      · exact { h with free := fun h => (h rfl).elim }
      · exact h
  · exact .refl _ s

/-! ### Locks, coils and the accounting -/

theorem lightLockRequest_lawful (w : Option Part) (body : List Byte) (s : State) :
    Lawful w s (lightLockRequest body s).1 := by
  unfold lightLockRequest
  split
  · split
    · exact .refl w s
    · split
      · exact .refl w s
      · split
        · exact .refl w s
        · next hk =>
          split
          · exact .refl w s
          · exact (lightLock_quiet _ _ _ _ s (State.lockOf_eq_some hk).2).lawful w
  · exact .refl w s

theorem startMultiballRequest_lawful (w : Option Part) (body : List Byte) (s : State) :
    Lawful w s (startMultiballRequest body s).1 := by
  unfold startMultiballRequest
  split
  · split
    · exact .refl w s
    · exact (startMultiball_quiet _ _ _ _ s).lawful w
  · exact .refl w s

/-- The configuration of an IDLE coil may change: it neither fires nor serves anyone. -/
theorem Lawful.modCoilCfg (s : State) (c : CoilNo) (cfg : CoilConfig) (hidle : (s.coils[c]'c.isLt).live.state = .idle) :
    Lawful (some .coils) s (s.modCoil c fun v => { v with cfg := cfg }) where
  coils hs := by
    have hget (e : CoilNo) : (s.modCoil c fun v => { v with cfg := cfg }).coils[e].live = (s.coils[e]'e.isLt).live := by
      rw [State.modCoil_get]
      split
      · next h => subst h; rfl
      · rfl
    obtain ⟨hg, hf⟩ := State.coilsSafe_iff.mp hs
    refine State.coilsSafe_iff.mpr ⟨fun g => ?_, fun e => by rw [hget]; exact hf e⟩
    rw [State.firing_congr (s := s) (fun e => ?_)]
    · exact hg g
    · rw [hget]
      refine and_congr_right fun hfire => ?_
      have hne : e ≠ c := fun h => by rw [h, hidle] at hfire; exact nomatch hfire
      rw [State.modCoil_get, if_neg hne]
  coilCfg h := (h rfl).elim

theorem setCoil_lawful (body : List Byte) (s : State) : Lawful (some .coils) s (setCoil body s).1 := by
  unfold setCoil
  split
  · next c g pw rec pr rp rl hw sf =>
    dsimp only
    split
    · next c' hok hc =>
      refine .modCoilCfg s c' _ ?_
      by_contra hidle
      rw [hc] at hok
      have howner := (withEncodingCheck_eq_ok.mp hok).2
      simp only [State.coilCheck, if_pos (Or.inl hidle)] at howner
      exact nomatch howner
    · exact .refl _ s
  · exact .refl _ s

theorem pulseCoil_lawful (w : Option Part) (body : List Byte) (s : State) : Lawful w s (pulseCoil body s).1 := by
  unfold pulseCoil
  split
  · next width =>
    split
    · exact .refl w s
    · next c _ =>
      split
      · exact .refl w s
      · split
        · exact .refl w s
        · next hidle =>
          split
          · exact .refl w s
          · have hstep : CoilStep c s (enterWaiting c .host .direct s) := .enterWaiting c .host .direct s
            refine ((hstep.trans (.modCoilLive _ c (fun l => { l with grantWidth := width.toNat }) ?_ fun h => h)).quiet ?_ _).lawful w
            · exact hstep.quenched
            · rw [not_not.mp hidle]
              simp
  · exact .refl w s

end Sys2Proof.Machine

/-! The requests that count the balls anew, and those of the session, are lawful. -/

namespace Sys2Proof.Machine

/-! ### One write per device -/

theorem Steady.modLive (s : State) (d : DevNo) (f : DeviceLive → DeviceLive) : Steady s (s.modLive d f) where
  cfg e := State.modLive_cfg s d e f
  locks h p k hk := by
    rw [State.modLive_cfg] at hk ⊢
    exact h p k hk

theorem Steady.foldl {α : Type} (f : State → α → State) (hf : ∀ s a, Steady s (f s a)) (l : List α) (s : State) :
    Steady s (l.foldl f s) := by
  induction l generalizing s with
  | nil => exact .refl s
  | cons a l ih => exact (hf s a).trans (ih _)

/-- A pass over the devices in which each device's own step reads its record and the switches alone. -/
structure OwnPass (f : DevNo → State → State) : Prop where
  other : ∀ (d e : DevNo) (s : State), e ≠ d → (f d s).devices[e] = (s.devices[e]'e.isLt)
  own : ∀ (d : DevNo) (s t : State), (t.devices[d]'d.isLt) = (s.devices[d]'d.isLt) → t.switches = s.switches →
    (f d t).devices[d] = (f d s).devices[d]
  switches : ∀ (d : DevNo) (s : State), (f d s).switches = s.switches

theorem OwnPass.foldl_of_not_mem {f : DevNo → State → State} (h : OwnPass f) {l : List DevNo} {d : DevNo} (hd : d ∉ l)
    (s : State) : (l.foldl (fun s d => f d s) s).devices[d] = (s.devices[d]'d.isLt) := by
  induction l generalizing s with
  | nil => rfl
  | cons e l ih =>
    rw [List.mem_cons, not_or] at hd
    rw [List.foldl_cons, ih hd.2, h.other e d s hd.1]

theorem OwnPass.foldl_of_mem {f : DevNo → State → State} (h : OwnPass f) {l : List DevNo} (hl : l.Nodup) {d : DevNo}
    (hd : d ∈ l) (s : State) : (l.foldl (fun s d => f d s) s).devices[d] = (f d s).devices[d] := by
  induction l generalizing s with
  | nil => exact absurd hd (by simp)
  | cons e l ih =>
    obtain ⟨hel, hl⟩ := List.nodup_cons.mp hl
    rw [List.foldl_cons]
    obtain rfl | hdl := List.mem_cons.mp hd
    · exact h.foldl_of_not_mem hel _
    · have hne : d ≠ e := fun hde => hel (hde ▸ hdl)
      rw [ih hl hdl]
      exact h.own d s _ (h.other e d s hne) (h.switches e s)

/-- After a pass over all devices each stands as its own step left it. -/
theorem OwnPass.foldl_get {f : DevNo → State → State} (h : OwnPass f) (s : State) (d : DevNo) :
    ((indices 8).foldl (fun s d => f d s) s).devices[d] = (f d s).devices[d] :=
  h.foldl_of_mem (nodup_indices 8) (mem_indices d) s

/-! ### The surplus (R68) -/

/-- A device gives up balls of the surplus. -/
def shedFrom (acc : State × Nat) (d : DevNo) : State × Nat :=
  let o := acc.1.devices[d].live.occupancy
  let give := min o acc.2
  if give = 0 then acc
  else (acc.1.modLive d fun l => { l with occupancy := o - give, countFault := true }, acc.2 - give)

theorem shedSurplus_eq (n : Nat) (s : State) :
    shedSurplus n s = ((indices 8).reverse.foldl shedFrom (s, n)).1 := rfl

theorem shedFrom_work (acc : State × Nat) (d : DevNo) : Work (fun _ => False) acc.1 (shedFrom acc d).1 := by
  obtain ⟨s, n⟩ := acc
  simp only [shedFrom]
  split
  · exact .refl _ s
  · next h =>
    refine Work.of_busy (X := (· = d)) ⟨?_, fun e he hr => ?_, fun e he => ?_⟩ fun e he _ hr => h ?_
    · exact .modLive s d fun l => { l with occupancy := _, countFault := true }
    · rwa [State.modLive_get, if_neg he]
    · rw [State.modLive_get] at he
      split at he
      · next h => subst h; exact he
      · exact he
    · rw [he, DeviceLive.atRest_iff] at hr
      rw [hr.2.1, Nat.zero_min]

theorem shedFrom_get (acc : State × Nat) (d e : DevNo) : (shedFrom acc d).1.devices[e].live.occupancy =
    if e = d then acc.1.devices[d].live.occupancy - acc.2 else acc.1.devices[e].live.occupancy := by
  simp only [shedFrom]
  split
  · next h =>
    split
    · next he => subst he; omega
    · rfl
  · rw [State.modLive_get]
    split
    · dsimp only; omega
    · rfl

theorem shedFrom_left (acc : State × Nat) (d : DevNo) :
    (shedFrom acc d).2 = acc.2 - acc.1.devices[d].live.occupancy := by
  simp only [shedFrom]
  split
  · omega
  · dsimp only
    omega

/-- Shedding takes from each device no more than it holds, and from all together what is asked as far as they hold it. -/
theorem shed_foldl (l : List DevNo) (hl : l.Nodup) (acc : State × Nat) :
    Work (fun _ => False) acc.1 (l.foldl shedFrom acc).1 ∧
      (∀ e : DevNo, (l.foldl shedFrom acc).1.stock.occupancy e ≤ acc.1.stock.occupancy e) ∧
      (l.foldl shedFrom acc).2 = acc.2 - (l.map fun d => acc.1.devices[d].live.occupancy).sum ∧
      (l.foldl shedFrom acc).1.occupancies + acc.2 = acc.1.occupancies + (l.foldl shedFrom acc).2 := by
  induction l generalizing acc with
  | nil => exact ⟨.refl _ _, fun _ => le_refl _, rfl, rfl⟩
  | cons d l ih =>
    obtain ⟨hdl, hl⟩ := List.nodup_cons.mp hl
    obtain ⟨hwork, hle, hleft, hsum⟩ := ih hl (shedFrom acc d)
    have hmap : (l.map fun e => (shedFrom acc d).1.devices[e].live.occupancy) =
        l.map fun e => acc.1.devices[e].live.occupancy :=
      List.map_congr_left fun e he => by rw [shedFrom_get, if_neg fun h : e = d => hdl (h ▸ he)]
    have hset := State.occupancies_set (s := acc.1) (t := (shedFrom acc d).1) d fun e he => by
      rw [shedFrom_get, if_neg he]
    rw [shedFrom_get, if_pos rfl] at hset
    rw [shedFrom_left] at hleft hsum
    rw [hmap] at hleft
    refine ⟨(shedFrom_work acc d).trans hwork, fun e => (hle e).trans ?_, ?_, ?_⟩
    · simp only [State.stock]
      rw [shedFrom_get]
      split
      · next h => subst h; exact Nat.sub_le _ _
      · exact le_refl _
    · rw [List.foldl_cons, hleft, List.map_cons, List.sum_cons]
      omega
    · rw [List.foldl_cons]
      omega

theorem shedSurplus_work (n : Nat) (s : State) : Work (fun _ => False) s (shedSurplus n s) := by
  rw [shedSurplus_eq]
  exact (shed_foldl (indices 8).reverse (List.nodup_reverse.mpr (nodup_indices 8)) (s, n)).1

theorem shedSurplus_le (n : Nat) (s : State) (e : DevNo) :
    (shedSurplus n s).stock.occupancy e ≤ s.stock.occupancy e := by
  rw [shedSurplus_eq]
  exact (shed_foldl (indices 8).reverse (List.nodup_reverse.mpr (nodup_indices 8)) (s, n)).2.1 e

theorem shedSurplus_occupancies {n : Nat} {s : State} (hn : n ≤ s.occupancies) :
    (shedSurplus n s).occupancies + n = s.occupancies := by
  rw [shedSurplus_eq]
  obtain ⟨-, -, hleft, hsum⟩ := shed_foldl (indices 8).reverse (List.nodup_reverse.mpr (nodup_indices 8)) (s, n)
  have hall : ((indices 8).reverse.map fun d => (s.devices[d]'d.isLt).live.occupancy).sum = s.occupancies := by
    rw [List.map_reverse, List.sum_reverse, State.occupancies]
  dsimp only at hleft hsum
  rw [hleft, hall, Nat.sub_eq_zero_of_le hn, Nat.add_zero] at hsum
  exact hsum

/-- Shedding a surplus leaves the accounting record. -/
theorem shedSurplus_acct (n : Nat) (s : State) : (shedSurplus n s).acct = s.acct := by
  rw [shedSurplus_eq]
  suffices h : ∀ (l : List DevNo) (acc : State × Nat), (l.foldl shedFrom acc).1.acct = acc.1.acct from h _ _
  intro l
  induction l with
  | nil => exact fun _ => rfl
  | cons d l ih =>
    intro acc
    rw [List.foldl_cons, ih]
    simp only [shedFrom]
    split <;> rfl

theorem balls_of_surplus {x n m : Nat} (h : x + (n - m) = n) : x + 0 + 0 + 0 = min m n := by omega

/-- The counts before a surplus is shed (R68). -/
def surplusCounts (n : Nat) (s : State) : State :=
  (s.modAcct fun a => { a with installed := n, missing := 0, live := 0, flights := [] }).raise .extraBall

theorem settleCounts_eq (b : Nat) (s : State) : settleCounts b s = if s.occupancies ≤ b then
      s.modAcct fun a => { a with installed := b, missing := b - s.occupancies, live := 0, flights := [] }
    else shedSurplus (s.occupancies - Config.maxInstalled)
      (surplusCounts (min Config.maxInstalled s.occupancies) s) := rfl

@[simp] theorem surplusCounts_devices (n : Nat) (s : State) : (surplusCounts n s).devices = s.devices := rfl

@[simp] theorem surplusCounts_acct (n : Nat) (s : State) : (surplusCounts n s).acct =
    { s.acct with installed := n, missing := 0, live := 0, flights := [] } := rfl

theorem surplusCounts_occupancy (n : Nat) (s : State) (e : DevNo) :
    (surplusCounts n s).stock.occupancy e = s.stock.occupancy e := rfl

theorem surplusCounts_work (n : Nat) (s : State) : Work (fun _ => False) s (surplusCounts n s) :=
  Work.trans (.modAcct _ s _ rfl) (Quiet.raise _ _ (by simp)).toWork

theorem surplusCounts_occupancies (n : Nat) (s : State) : (surplusCounts n s).occupancies = s.occupancies :=
  State.occupancies_congr fun _ => by rw [surplusCounts_devices]

theorem settleCounts_work (b : Nat) (s : State) : Work (fun _ => False) s (settleCounts b s) := by
  rw [settleCounts_eq]
  split
  · exact .modAcct _ s _ rfl
  · exact (surplusCounts_work _ s).trans (shedSurplus_work _ _)

theorem State.stock_occupancy (s : State) (d : DevNo) : s.stock.occupancy d = (s.devices[d]'d.isLt).live.occupancy := rfl

theorem settleCounts_le (b : Nat) (s : State) (e : DevNo) :
    (settleCounts b s).stock.occupancy e ≤ s.stock.occupancy e := by
  rw [settleCounts_eq]
  split
  · exact le_refl _
  · exact (shedSurplus_le _ _ e).trans (surplusCounts_occupancy _ s e).le

theorem shedSurplus_session (n : Nat) (s : State) : (shedSurplus n s).session = s.session := by
  rw [shedSurplus_eq]
  suffices h : ∀ (l : List DevNo) (acc : State × Nat), (l.foldl shedFrom acc).1.session = acc.1.session from h _ _
  intro l
  induction l with
  | nil => exact fun _ => rfl
  | cons d l ih =>
    intro acc
    rw [List.foldl_cons, ih]
    simp only [shedFrom]
    split <;> rfl

theorem settleCounts_session (b : Nat) (s : State) : (settleCounts b s).session = s.session := by
  rw [settleCounts_eq]
  split
  · rfl
  · rw [shedSurplus_session]
    rfl

theorem settleCounts_flights (b : Nat) (s : State) : (settleCounts b s).acct.flights = [] := by
  rw [settleCounts_eq]
  split
  · rfl
  · rw [shedSurplus_acct, surplusCounts_acct]

theorem settleCounts_phase (b : Nat) (s : State) : (settleCounts b s).acct.phase = s.acct.phase := by
  rw [settleCounts_eq]
  split
  · rfl
  · rw [shedSurplus_acct, surplusCounts_acct]

/-- The counts set from the occupancies and B (R68, R69) keep the identity, whatever stood before. -/
theorem settleCounts_conserved {b : Nat} (s : State) (hb : b ≤ 8) : (settleCounts b s).Conserved := by
  have hmax : Config.maxInstalled = 16 := rfl
  rw [settleCounts_eq]
  split
  · next h =>
    have hocc : (s.modAcct fun a => { a with installed := b, missing := b - s.occupancies, live := 0, flights := []
                                    }).occupancies = s.occupancies := rfl
    refine ⟨?_, ?_⟩
    · simp only [State.balls, hocc, State.modAcct_acct, List.length_nil]
      omega
    · simp only [State.modAcct_acct]
      omega
  · have hocc := surplusCounts_occupancies (min Config.maxInstalled s.occupancies) s
    have hsum := shedSurplus_occupancies (n := s.occupancies - Config.maxInstalled)
      (s := surplusCounts (min Config.maxInstalled s.occupancies) s) (by rw [hocc]; exact Nat.sub_le _ _)
    refine ⟨?_, ?_⟩
    · rw [State.balls, shedSurplus_acct, surplusCounts_acct]
      exact balls_of_surplus (hsum.trans hocc)
    · rw [shedSurplus_acct, surplusCounts_acct]
      exact Nat.min_le_left _ _

/-! ### ENABLE_DEVICES (R40, R68) -/

theorem startHold_steady (d : DevNo) (s : State) : Steady s (startHold d s) := by
  simp only [startHold]
  split
  · exact .modLive s d _
  · exact .modLive s d _

theorem startHold_switches (d : DevNo) (s : State) : (startHold d s).switches = s.switches := by
  simp only [startHold]
  split <;> rfl

/-- The live part of a device whose hold starts (R37). -/
def Device.held (v : Device) : DeviceLive :=
  if v.cfg.holdTime = 0 then
    { v.live with owed := if v.live.state = .disabled then v.live.owed else min 8 (v.live.owed + 1) }
  else { v.live with hold := .load v.cfg.holdTime }

theorem startHold_get (d e : DevNo) (s : State) : (startHold d s).devices[e] =
    if e = d then { (s.devices[d]'d.isLt) with live := (s.devices[d]'d.isLt).held } else (s.devices[e]'e.isLt) := by
  unfold startHold Device.held
  dsimp only
  split
  · rw [addOwedCount_get]
    by_cases h : e = d
    · subst h
      by_cases hd : (s.devices[e]'e.isLt).live.state = .disabled
      · rw [if_neg (fun h => h.2 hd), if_pos rfl, if_pos hd]
      · rw [if_pos ⟨rfl, hd⟩, if_pos rfl, if_neg hd]
    · rw [if_neg (fun g => h g.1), if_neg h]
  · rw [State.modLive_get]

/-- The live part of a device that comes into service with `c` closed position switches (R40). -/
def Device.entered (v : Device) (c : Nat) : DeviceLive :=
  if v.cfg.kind = .saucer ∧ 1 ≤ c then
    Device.held { v with live := { DeviceLive.powerOn with state := .idle, occupancy := c } }
  else { DeviceLive.powerOn with state := .idle, occupancy := c }

theorem enableDevice_get (d e : DevNo) (s : State) : (enableDevice d s).devices[e] =
    if e = d ∧ (s.devices[d]'d.isLt).cfg.kind ≠ .unused then
      { (s.devices[d]'d.isLt) with live := (s.devices[d]'d.isLt).entered (s.closedCount d) }
    else (s.devices[e]'e.isLt) := by
  have d_lt := d.isLt
  unfold enableDevice Device.entered
  by_cases hk : (s.devices[d]'d.isLt).cfg.kind = .unused
  · simp only [hk, ne_eq, not_true_eq_false, and_false, if_true, if_false]
  · simp only [hk, ne_eq, not_false_eq_true, and_true, if_false]
    split
    · rw [startHold_get, State.modLive_get, State.modLive_get, if_pos rfl]
      by_cases he : e = d
      · rw [if_pos he, if_pos he]
      · rw [if_neg he, if_neg he, if_neg he]
    · rw [State.modLive_get]

theorem enableDevice_steady (d : DevNo) (s : State) : Steady s (enableDevice d s) := by
  simp only [enableDevice]
  split
  · exact .refl s
  · split
    · exact (Steady.modLive s d _).trans (startHold_steady d _)
    · exact .modLive s d _

theorem State.closedCount_congr {s t : State} {d : DevNo} (hd : (t.devices[d]'d.isLt) = (s.devices[d]'d.isLt))
    (hs : t.switches = s.switches) : t.closedCount d = s.closedCount d := by
  simp only [State.closedCount, hd, hs]

theorem enableDevice_switches (d : DevNo) (s : State) : (enableDevice d s).switches = s.switches := by
  simp only [enableDevice]
  split
  · rfl
  · split
    · rw [startHold_switches, State.modLive_switches]
    · rfl

theorem enableDevice_pass : OwnPass enableDevice where
  other d e s he := by rw [enableDevice_get, if_neg fun h => he h.1]
  own d s t hd hs := by
    rw [enableDevice_get, enableDevice_get, hd, State.closedCount_congr hd hs]
  switches := enableDevice_switches

/-- All devices as ENABLE_DEVICES leaves them before the counts are set. -/
@[irreducible] def enableAll (s : State) : State := (indices 8).foldl (fun s d => enableDevice d s) s

theorem enableAll_eq (s : State) : enableAll s = (indices 8).foldl (fun s d => enableDevice d s) s := by
  unfold enableAll
  rfl

theorem enableAll_get (s : State) (d : DevNo) : (enableAll s).devices[d] =
    if (s.devices[d]'d.isLt).cfg.kind ≠ .unused then { (s.devices[d]'d.isLt) with live := (s.devices[d]'d.isLt).entered (s.closedCount d) }
    else (s.devices[d]'d.isLt) := by
  rw [enableAll_eq, enableDevice_pass.foldl_get, enableDevice_get]
  simp only [true_and]

theorem startHold_frame (d : DevNo) (s : State) : ∃ v : Vector Device 8, startHold d s = { s with devices := v } := by
  simp only [startHold]
  split <;> exact ⟨_, rfl⟩

theorem enableDevice_frame (d : DevNo) (s : State) :
    ∃ v : Vector Device 8, enableDevice d s = { s with devices := v } := by
  simp only [enableDevice]
  split
  · exact ⟨s.devices, rfl⟩
  · split
    · obtain ⟨v, h⟩ := startHold_frame d (s.modLive d fun _ =>
        { DeviceLive.powerOn with state := .idle, occupancy := s.closedCount d })
      exact ⟨v, h⟩
    · exact ⟨_, rfl⟩

/-- Steps that each write the devices alone write the devices alone. -/
theorem foldl_devices_frame (f : State → DevNo → State)
    (hf : ∀ s d, ∃ v : Vector Device 8, f s d = { s with devices := v }) (l : List DevNo) (s : State) :
    ∃ v : Vector Device 8, l.foldl f s = { s with devices := v } := by
  induction l generalizing s with
  | nil => exact ⟨s.devices, rfl⟩
  | cons d l ih =>
    obtain ⟨v, hv⟩ := hf s d
    obtain ⟨w, hw⟩ := ih (f s d)
    exact ⟨w, by rw [List.foldl_cons, hw, hv]⟩

theorem enableAll_frame (s : State) : ∃ v : Vector Device 8, enableAll s = { s with devices := v } := by
  rw [enableAll_eq]
  exact foldl_devices_frame _ (fun s d => enableDevice_frame d s) _ s

theorem enableAll_steady (s : State) : Steady s (enableAll s) := by
  rw [enableAll_eq]
  exact .foldl _ (fun s d => enableDevice_steady d s) _ s

theorem Device.held_frame (v : Device) : v.held.state = v.live.state ∧ v.held.occupancy = v.live.occupancy := by
  unfold Device.held
  split <;> exact ⟨rfl, rfl⟩

theorem Device.entered_frame (v : Device) (c : Nat) : (v.entered c).state = .idle ∧ (v.entered c).occupancy = c := by
  unfold Device.entered
  split
  · exact Device.held_frame { v with live := { DeviceLive.powerOn with state := .idle, occupancy := c } }
  · exact ⟨rfl, rfl⟩

/-- Device 0 can only be a trough. -/
theorem State.DevicesSafe.trough {s : State} (hs : s.DevicesSafe) : (s.devices[trough]'trough.isLt).cfg.kind ≠ .unused := by
  intro h
  have hk := (hs.1 Machine.trough).1
  rw [h] at hk
  exact absurd hk (by decide)

/-- The devices come into service consistent. -/
theorem enableAll_devicesSafe {s : State} (hs : s.DevicesSafe) (hoff : s.devicesEnabled = false) :
    (enableAll s).DevicesSafe := by
  have ⟨hcfg, hrest, _, _, hfl⟩ := hs
  have hdis := State.devicesEnabled_eq_false.mp hoff
  have hon : (enableAll s).devicesEnabled = true := by
    refine State.devicesEnabled_eq_true.mpr ⟨trough, ?_⟩
    rw [enableAll_get, if_pos hs.trough]
    exact (Device.entered_frame _ _).1.trans_ne (by simp)
  have hacct : (enableAll s).acct = s.acct := by
    obtain ⟨v, h⟩ := enableAll_frame s
    rw [h]
  refine ⟨fun d => ?_, fun d hd => ?_, fun _ d => ?_, fun h => absurd (hon.symm.trans h) (by simp),
    fun r hr => hfl r (by rw [hacct] at hr; exact hr)⟩
  · rw [enableAll_get]
    obtain ⟨h1, h2, h3⟩ := hcfg d
    split
    · refine ⟨h1, ?_, h3⟩
      dsimp only
      rw [(Device.entered_frame _ _).2]
      exact s.closedCount_le d
    · exact ⟨h1, h2, h3⟩
  · rw [enableAll_get] at hd ⊢
    split at hd
    · exact absurd ((Device.entered_frame _ _).1.symm.trans hd) (by simp)
    · next hk =>
      rw [if_neg hk]
      exact hrest d hd
  · rw [enableAll_get]
    split
    · next hk => exact iff_of_false ((Device.entered_frame _ _).1.trans_ne (by simp)) hk
    · next hk => exact iff_of_true (hdis d) (not_not.mp hk)

/-- Setting the counts afresh keeps enabled devices consistent. -/
theorem settleCounts_devicesSafe (b : Nat) {s : State} (hs : s.DevicesSafe) (hon : s.devicesEnabled = true) :
    (settleCounts b s).DevicesSafe := by
  refine (settleCounts_work b s).devicesSafe hs (fun d => ?_) (fun h => absurd (hon.symm.trans h) (by simp)) ?_
  · have hle := settleCounts_le b s d
    rw [State.stock_occupancy, State.stock_occupancy] at hle
    exact hle.trans (hs.1 d).2.1
  · rw [settleCounts_flights]
    exact fun r hr => absurd hr (by simp)

/-- The accounting fields besides the counts set afresh (R68). -/
theorem resetPlay_quiet (X : DevNo → Prop) (s : State) : Quiet X s (resetPlay s) where
  session _ := fun ⟨h1, h2, h3, _, h5, h6⟩ => ⟨h1, h2, h3, fun _ => .inl rfl, h5, h6⟩

theorem takeOrders_quiet (X : DevNo → Prop) (s : State) :
    Quiet X s ((indices 8).foldl (fun s d => takeOrder d s) s) :=
  .foldl _ (fun s d => takeOrder_quiet X d s) _ s

theorem enableDevices_lawful (w : Option Part) (body : List Byte) (s : State) : Lawful w s (enableDevices body s).1 := by
  unfold enableDevices
  split
  · next b =>
    split
    · next hok =>
      have hcheck : s.devicesEnabled = false ∧ b.toNat ≤ 8 := by
        unfold State.enableCheck at hok
        split_ifs at hok with h1 h2 h3 h4
        exact ⟨by simpa using h1, by omega⟩
      have hlast := (resetPlay_quiet (fun _ => False) (settleCounts b.toNat (enableAll s))).trans (takeOrders_quiet _ _)
      have hsteady := ((enableAll_steady s).trans (settleCounts_work b.toNat _).toSteady).trans hlast.toSteady
      simp only [ok, ← enableAll_eq]
      generalize (indices 8).foldl (fun s d => takeOrder d s) (resetPlay (settleCounts b.toNat (enableAll s))) = t
        at hlast hsteady ⊢
      refine hsteady.lawful w (fun _ => ?_) (fun hs => ?_) fun hs => ?_
      · exact hlast.sound.balls (settleCounts_conserved _ hcheck.2)
      · refine hlast.sound.devices (settleCounts_devicesSafe _ (enableAll_devicesSafe hs hcheck.1) ?_)
        refine State.devicesEnabled_eq_true.mpr ⟨trough, ?_⟩
        rw [enableAll_get, if_pos hs.trough]
        exact (Device.entered_frame _ _).1.trans_ne (by simp)
      · refine hsteady.session ?_ hs
        obtain ⟨v, h⟩ := enableAll_frame s
        rw [hlast.same, settleCounts_session, h]
    · exact .refl w s
  · exact .refl w s

/-! ### DISABLE_DEVICES (R41, R70) -/

theorem endRequest_devices (c : CoilNo) (d : DevNo) (s : State) : (endRequest c d s).devices = s.devices := by
  obtain ⟨v, h⟩ := endRequest_frame c d s
  rw [h]

theorem endRequest_switches (c : CoilNo) (d : DevNo) (s : State) : (endRequest c d s).switches = s.switches := by
  obtain ⟨v, h⟩ := endRequest_frame c d s
  rw [h]

/-- The live part of a device out of service (R41). -/
def DeviceLive.retired (l : DeviceLive) : DeviceLive :=
  { DeviceLive.powerOn with settle := l.settle.halt, confirm := l.confirm.halt, hold := l.hold.halt }

theorem DeviceLive.retired_atRest (l : DeviceLive) : l.retired.AtRest := rfl

theorem disableDevice_get (d e : DevNo) (s : State) : (disableDevice d s).devices[e] =
    if e = d then { (s.devices[d]'d.isLt) with live := (s.devices[d]'d.isLt).live.retired } else (s.devices[e]'e.isLt) := by
  simp only [disableDevice]
  rw [State.modLive_get, endRequest_devices]
  rfl

theorem disableDevice_pass : OwnPass disableDevice where
  other d e s he := by rw [disableDevice_get, if_neg he]
  own d s t hd _ := by rw [disableDevice_get, disableDevice_get, hd]
  switches d s := by
    simp only [disableDevice, State.modLive_switches]
    exact endRequest_switches _ d s

theorem disableDevice_steady (d : DevNo) (s : State) : Steady s (disableDevice d s) :=
  (endRequest_quiet (fun _ => False) (s.devices[d]'d.isLt).cfg.coil d s).toSteady.trans (.modLive _ d DeviceLive.retired)

/-- All devices as DISABLE_DEVICES leaves them. -/
@[irreducible] def disableEach (s : State) : State := (indices 8).foldl (fun s d => disableDevice d s) s

theorem disableEach_eq (s : State) : disableEach s = (indices 8).foldl (fun s d => disableDevice d s) s := by
  unfold disableEach
  rfl

theorem disableEach_get (s : State) (d : DevNo) : (disableEach s).devices[d] =
    { (s.devices[d]'d.isLt) with live := (s.devices[d]'d.isLt).live.retired } := by
  rw [disableEach_eq, disableDevice_pass.foldl_get, disableDevice_get, if_pos rfl]

theorem disableEach_steady (s : State) : Steady s (disableEach s) := by
  rw [disableEach_eq]
  exact .foldl _ (fun s d => disableDevice_steady d s) _ s

theorem disableEach_frame (s : State) :
    ∃ (v : Vector Device 8) (w : Vector Coil 24), disableEach s = { s with devices := v, coils := w } := by
  rw [disableEach_eq]
  generalize indices 8 = l
  induction l generalizing s with
  | nil => exact ⟨s.devices, s.coils, rfl⟩
  | cons d l ih =>
    obtain ⟨v, w, h⟩ := ih (disableDevice d s)
    rw [List.foldl_cons, h]
    obtain ⟨u, hu⟩ := endRequest_frame (s.devices[d]'d.isLt).cfg.coil d s
    exact ⟨v, w, by simp only [disableDevice, State.modLive, State.modDevice, hu]⟩

theorem disableAll_eq (s : State) : disableAll s = holdTimers ((resetPlay (endSearch (disableEach (cancelSlots s)))).modAcct
    fun a => { a with installed := 0, live := 0, missing := 0, flights := [] }) := by
  rw [disableEach_eq]
  rfl

theorem disableDevices_lawful (w : Option Part) (body : List Byte) (s : State) :
    Lawful w s (disableDevices body s).1 := by
  unfold disableDevices
  split
  · exact .refl w s
  · simp only [ok]
    rw [disableAll_eq]
    have hslots := cancelSlots_quiet (fun _ => False) s
    have hfar := (endSearch_quiet (fun _ => False) (disableEach (cancelSlots s))).trans (resetPlay_quiet _ _)
    have hget (d : DevNo) := disableEach_get (cancelSlots s) d
    have hsession : (disableEach (cancelSlots s)).session = (cancelSlots s).session := by
      obtain ⟨v, w, h⟩ := disableEach_frame (cancelSlots s)
      rw [h]
    have hsteady := (hslots.toSteady.trans (disableEach_steady _)).trans hfar.toSteady
    have hcfg := hslots.cfg
    generalize disableEach (cancelSlots s) = m at hget hfar hsession hsteady ⊢
    have hrest (d : DevNo) : (resetPlay (endSearch m)).devices[d].live.AtRest :=
      hfar.rest d id (by rw [hget d]; exact DeviceLive.retired_atRest _)
    have hsame := (hfar.same.trans hsession).trans hslots.same
    generalize resetPlay (endSearch m) = t at hrest hsame hsteady ⊢
    have hzero : Work (fun _ => False) t (t.modAcct fun a =>
        { a with installed := 0, live := 0, missing := 0, flights := [] }) := .modAcct _ t _ rfl
    have hlast := hzero.toSteady.trans (holdTimers_quiet (fun _ => False) _).toSteady
    have hocc (d : DevNo) : (t.devices[d]'d.isLt).live.occupancy = 0 := (DeviceLive.atRest_iff.mp (hrest d)).2.1
    refine (hsteady.trans hlast).lawful w (fun _ => ?_) (fun hs => ?_) fun hs => ?_
    · refine ⟨?_, Nat.zero_le _⟩
      have hsum : t.occupancies = 0 := by
        simp only [State.occupancies, hocc]
        decide
      exact (Nat.add_zero _).trans hsum
    · obtain ⟨h1, -, -, -, -⟩ := hs
      have hcfg' (d : DevNo) := hsteady.cfg d
      refine ⟨fun d => ?_, fun d _ => hrest d, fun h => ?_, fun _ => ⟨rfl, rfl, rfl, rfl⟩, fun r hr => nomatch hr⟩
      · obtain ⟨hk, -, hp⟩ := h1 d
        rw [← hcfg' d] at hk hp
        refine ⟨hk, ?_, hp⟩
        exact (hocc d).trans_le (Nat.zero_le _)
      · obtain ⟨d, hd⟩ := State.devicesEnabled_eq_true.mp h
        exact absurd (hrest d).disabled hd
    · exact (hsteady.trans hlast).session (congrArg Session.state hsame) hs

/-! ### RECOUNT (R69) -/

/-- The record of a device that retakes its occupancy from `c` closed position switches (R69). -/
def Device.retaken (v : Device) (c : Nat) : Device :=
  let w : Device := { v with live :=
    { v.live with countFault := false, entriesSeen := 0, settle := v.live.settle.halt, occupancy := c } }
  if v.cfg.kind ≠ .saucer then w
  else if c = 0 then { w with live := { w.live with hold := w.live.hold.halt } }
  else if v.live.occupancy = 0 ∧ c = 1 then { w with live := w.held }
  else w

theorem retakeDevice_get (d e : DevNo) (s : State) : (retakeDevice d s).devices[e] =
    if e = d ∧ (s.devices[d]'d.isLt).cfg.kind ≠ .unused then (s.devices[d]'d.isLt).retaken (s.closedCount d) else (s.devices[e]'e.isLt) := by
  unfold retakeDevice Device.retaken
  by_cases hk : (s.devices[d]'d.isLt).cfg.kind = .unused
  · simp only [hk, ne_eq, not_true_eq_false, and_false, if_true, if_false]
  · simp only [hk, ne_eq, not_false_eq_true, and_true, if_false]
    by_cases he : e = d
    · subst he
      rw [if_pos rfl]
      split
      · rw [State.modLive_get, if_pos rfl]
      · split
        · rw [State.modLive_get, if_pos rfl, State.modLive_get, if_pos rfl]
        · split
          · rw [startHold_get, if_pos rfl, State.modLive_get, if_pos rfl]
          · rw [State.modLive_get, if_pos rfl]
    · rw [if_neg he]
      split
      · rw [State.modLive_get, if_neg he]
      · split
        · rw [State.modLive_get, if_neg he, State.modLive_get, if_neg he]
        · split
          · rw [startHold_get, if_neg he, State.modLive_get, if_neg he]
          · rw [State.modLive_get, if_neg he]

theorem retakeDevice_frame (d : DevNo) (s : State) :
    ∃ v : Vector Device 8, retakeDevice d s = { s with devices := v } := by
  simp only [retakeDevice]
  generalize hm : (s.modLive d fun l =>
    { l with countFault := false, entriesSeen := 0, settle := l.settle.halt, occupancy := s.closedCount d }) = m
  have hframe : ∃ v : Vector Device 8, m = { s with devices := v } := ⟨_, hm.symm⟩
  split
  · exact ⟨s.devices, rfl⟩
  · obtain ⟨v, hv⟩ := hframe
    split
    · exact ⟨v, hv⟩
    · split
      · rw [hv]
        exact ⟨_, rfl⟩
      · split
        · obtain ⟨u, hu⟩ := startHold_frame d m
          exact ⟨u, by rw [hu, hv]⟩
        · exact ⟨v, hv⟩

theorem retakeDevice_steady (d : DevNo) (s : State) : Steady s (retakeDevice d s) := by
  simp only [retakeDevice]
  have hcount : Steady s (s.modLive d fun l =>
      { l with countFault := false, entriesSeen := 0, settle := l.settle.halt, occupancy := s.closedCount d }) :=
    .modLive s d _
  split
  · exact .refl s
  · split
    · exact hcount
    · split
      · exact hcount.trans (.modLive _ d fun l => { l with hold := l.hold.halt })
      · split
        · exact hcount.trans (startHold_steady d _)
        · exact hcount

theorem retakeDevice_pass : OwnPass retakeDevice where
  other d e s he := by rw [retakeDevice_get, if_neg fun h => he h.1]
  own d s t hd hs := by rw [retakeDevice_get, retakeDevice_get, hd, State.closedCount_congr hd hs]
  switches d s := by
    obtain ⟨v, h⟩ := retakeDevice_frame d s
    rw [h]

/-- All devices as RECOUNT leaves them before the counts are set. -/
@[irreducible] def retakeAll (s : State) : State := (indices 8).foldl (fun t d => retakeDevice d t) s

theorem retakeAll_eq (s : State) : retakeAll s = (indices 8).foldl (fun t d => retakeDevice d t) s := by
  unfold retakeAll
  rfl

theorem retakeAll_get (s : State) (d : DevNo) : (retakeAll s).devices[d] =
    if (s.devices[d]'d.isLt).cfg.kind ≠ .unused then (s.devices[d]'d.isLt).retaken (s.closedCount d) else (s.devices[d]'d.isLt) := by
  rw [retakeAll_eq, retakeDevice_pass.foldl_get, retakeDevice_get]
  simp only [true_and]

theorem retakeAll_frame (s : State) : ∃ v : Vector Device 8, retakeAll s = { s with devices := v } := by
  rw [retakeAll_eq]
  exact foldl_devices_frame _ (fun s d => retakeDevice_frame d s) _ s

theorem retakeAll_steady (s : State) : Steady s (retakeAll s) := by
  rw [retakeAll_eq]
  exact .foldl _ (fun s d => retakeDevice_steady d s) _ s

theorem Device.retaken_frame (v : Device) (c : Nat) : (v.retaken c).live.state = v.live.state ∧
    (v.retaken c).live.occupancy = c ∧ (v.retaken c).cfg = v.cfg := by
  simp only [Device.retaken]
  split
  · exact ⟨rfl, rfl, rfl⟩
  · split
    · exact ⟨rfl, rfl, rfl⟩
    · split
      · refine ⟨?_, ?_, rfl⟩
        · exact (Device.held_frame _).1
        · exact (Device.held_frame _).2
      · exact ⟨rfl, rfl, rfl⟩

theorem retakeAll_state (s : State) (d : DevNo) : (retakeAll s).devices[d].live.state = (s.devices[d]'d.isLt).live.state := by
  rw [retakeAll_get]
  split
  · exact (Device.retaken_frame _ _).1
  · rfl

theorem retakeAll_enabled (s : State) : (retakeAll s).devicesEnabled = s.devicesEnabled := by
  simp only [State.devicesEnabled, retakeAll_state]

theorem retakeAll_devicesSafe {s : State} (hs : s.DevicesSafe) (hon : s.devicesEnabled = true) :
    (retakeAll s).DevicesSafe := by
  have ⟨hcfg, hrest, hused, _, hfl⟩ := hs
  have hacct : (retakeAll s).acct = s.acct := by
    obtain ⟨v, h⟩ := retakeAll_frame s
    rw [h]
  have hkind := (retakeAll_steady s).cfg
  have hstate := retakeAll_state s
  refine ⟨fun d => ?_, fun d hd => ?_, fun _ d => ?_, fun h => ?_, fun r hr => hfl r (by rw [hacct] at hr; exact hr)⟩
  · obtain ⟨h1, h2, h3⟩ := hcfg d
    rw [hkind d]
    refine ⟨h1, ?_, h3⟩
    rw [retakeAll_get]
    split
    · rw [(Device.retaken_frame _ _).2.1]
      exact s.closedCount_le d
    · exact h2
  · rw [hstate d] at hd
    rw [retakeAll_get, if_neg (not_not.mpr ((hused hon d).mp hd))]
    exact hrest d hd
  · rw [hstate d, hkind d]
    exact hused hon d
  · rw [retakeAll_enabled] at h
    exact absurd (hon.symm.trans h) (by simp)

theorem retakeOrders_quiet (X : DevNo → Prop) (before s : State) : Quiet X s (retakeOrders before s) :=
  .foldl _ (fun s d => .after_ite (before.recountOwes d = true) (takeOrder_quiet X d) (.refl X s)) _ s

theorem recount_lawful (w : Option Part) (body : List Byte) (s : State) : Lawful w s (recount body s).1 := by
  unfold recount
  split
  · next b =>
    split
    · next hok =>
      have hcheck : s.devicesEnabled = true ∧ b.toNat ≤ 8 := by
        unfold State.recountCheck at hok
        split_ifs at hok with h1 h2 h3 h4
        exact ⟨by simpa using h1, by omega⟩
      simp only [ok, event, ← retakeAll_eq]
      have hlast := (retakeOrders_quiet (fun _ => False) s (settleCounts b.toNat (retakeAll s))).trans
        (closeEvent_quiet _ s _)
      have hsteady := ((retakeAll_steady s).trans (settleCounts_work b.toNat _).toSteady).trans hlast.toSteady
      generalize closeEvent s (retakeOrders s (settleCounts b.toNat (retakeAll s))) = t at hlast hsteady ⊢
      refine hsteady.lawful w (fun _ => ?_) (fun hs => ?_) fun hs => ?_
      · exact hlast.sound.balls (settleCounts_conserved _ hcheck.2)
      · exact hlast.sound.devices (settleCounts_devicesSafe _ (retakeAll_devicesSafe hs hcheck.1)
          ((retakeAll_enabled s).trans hcheck.1))
      · refine hsteady.session ?_ hs
        obtain ⟨v, h⟩ := retakeAll_frame s
        rw [hlast.same, settleCounts_session, h]
    · exact .refl w s
  · exact .refl w s

/-! ### The other requests of devices and accounting -/

theorem eject_lawful (w : Option Part) (body : List Byte) (s : State) : Lawful w s (eject body s).1 := by
  unfold eject
  split
  · split
    · exact .refl w s
    · split
      · exact .refl w s
      · split
        · exact .refl w s
        · split
          · exact .refl w s
          · next h =>
            have hidle := List.find?_some h
            exact ((issueSlot_quiet _ _ _ _ s (by simpa using hidle)).trans (takeOrder_quiet _ _ _)).lawful w
  · exact .refl w s

theorem cancel_lawful (w : Option Part) (body : List Byte) (s : State) : Lawful w s (cancel body s).1 := by
  unfold cancel
  split
  · dsimp only
    split
    · exact (event_quiet (cancelEjects_quiet _ _ _ s)).lawful w
    · exact .refl w s
  · exact .refl w s

theorem DeviceLive.clearable_enabled {l : DeviceLive} (h : l.clearable = true) : l.state ≠ .disabled := by
  intro hd
  simp [DeviceLive.clearable, hd] at h

theorem clearJamRequest_lawful (w : Option Part) (body : List Byte) (s : State) :
    Lawful w s (clearJamRequest body s).1 := by
  unfold clearJamRequest
  split
  · split
    · exact .refl w s
    · split
      · next h => exact (event_sound (clearJam_sound (DeviceLive.clearable_enabled h))).lawful w
      · exact .refl w s
  · exact .refl w s

/-- Multiplier, ball save and search as a new ball finds them (R73). -/
theorem freshBall_quiet (X : DevNo → Prop) (saveTime : Nat) (s : State) : Quiet X s (stopIdle (endSearch
    ((if saveTime = 0 then saveOff (setPfMult 1 0 s) else saveActive saveTime (setPfMult 1 0 s)).modAcct
      fun a => { a with savesUsed := 0 }))) := by
  have hmult : Quiet X s (setPfMult 1 0 s) := setPfMult_quiet X 1 0 s (by decide) (by decide)
  have hsave : Quiet X s (if saveTime = 0 then saveOff (setPfMult 1 0 s) else saveActive saveTime (setPfMult 1 0 s)) := by
    split
    · exact hmult.trans (saveOff_quiet X _)
    · exact hmult.trans (saveActive_quiet X _ _)
  generalize (if saveTime = 0 then saveOff (setPfMult 1 0 s) else saveActive saveTime (setPfMult 1 0 s)) = t at hsave ⊢
  refine (hsave.trans (t := t) ?_).trans ((endSearch_quiet X _).trans (stopIdle_quiet X _))
  exact .modAcct X t _ rfl rfl rfl rfl rfl

theorem startBallInPlay_sound (saveTime : Nat) (autoLaunch : Bool) {s : State} (hopen : s.session.state = .opened) :
    Sound s (startBallInPlay saveTime autoLaunch s) := by
  simp only [startBallInPlay]
  have hbegin : Quiet (fun _ => False) s (s.modAcct fun a => { a with serveLaunch := autoLaunch }) :=
    .modAcct _ s _ rfl rfl rfl rfl rfl
  have hphase : Quiet (fun _ => False) s
      (if 1 ≤ (s.devices[shooter]'shooter.isLt).live.occupancy then
        if autoLaunch = true then addOwed shooter (setPhase .launchWait (s.modAcct fun a => { a with serveLaunch := autoLaunch }))
        else setPhase .launchWait (s.modAcct fun a => { a with serveLaunch := autoLaunch })
      else setPhase .serving (addOwed trough (s.modAcct fun a => { a with serveLaunch := autoLaunch }))) := by
    split
    · exact .after_ite _ (addOwed_quiet _ shooter) (hbegin.trans (setPhase_play_quiet _ _ _ fun _ => hopen))
    · refine (hbegin.trans (addOwed_quiet _ trough _)).trans (setPhase_play_quiet _ _ _ fun _ => ?_)
      rw [(addOwed_quiet (fun _ => False) trough _).same]
      exact hopen
  refine hphase.sound.trans (Sound.trans
    (modSession_sound _ (fun r => { r with tilt := .normal, warnings := 0 }) rfl rfl rfl fun _ _ => ?_) ?_)
  · exact ⟨fun _ => rfl, fun h => absurd h (by simp), fun h => absurd h (by simp)⟩
  · exact (freshBall_quiet _ saveTime _).sound

/-- The checks of SERVE let it through in an OPEN session only. -/
theorem State.opened_of_serveCheck {s : State} (h : s.serveCheck = .ok) : s.session.state = .opened := by
  unfold State.serveCheck at h
  split_ifs at h with h1
  exact State.isOpen_iff.mp (by simpa using h1)

theorem serve_lawful (w : Option Part) (body : List Byte) (s : State) : Lawful w s (serve body s).1 := by
  unfold serve
  split
  · next al =>
    split
    · next hok =>
      have hopen := State.opened_of_serveCheck (withEncodingCheck_eq_ok.mp hok).2
      exact (event_sound (startBallInPlay_sound _ _ hopen)).lawful w
    · exact .refl w s
  · exact .refl w s

theorem setBallSave_lawful (w : Option Part) (body : List Byte) (s : State) : Lawful w s (setBallSave body s).1 := by
  unfold setBallSave
  split
  · split
    · exact .refl w s
    · split
      · exact (saveOff_quiet _ s).lawful w
      · exact (saveActive_quiet _ _ s).lawful w
  · exact .refl w s

theorem startSearchRequest_lawful (w : Option Part) (body : List Byte) (s : State) :
    Lawful w s (startSearchRequest body s).1 := by
  unfold startSearchRequest
  split
  · exact .refl w s
  · split
    · exact .refl w s
    · exact ((startSearch_quiet _ s).trans (holdTimers_quiet _ _)).lawful w

end Sys2Proof.Machine

/-! SET_DEVICE and the requests of the session are lawful; then every command is, and the invariants of the step. -/

namespace Sys2Proof.Machine

/-! ### SET_DEVICE (R19) -/

theorem clearLock_page (k : LockNo) (s : State) (p : PlayerNo) : (clearLock k s).pages[p] =
    { (s.pages[p]'p.isLt) with lit := (s.pages[p]'p.isLt).lit.set k 0, credits := (s.pages[p]'p.isLt).credits.set k 0 } := by
  simp [clearLock]

/-- What SET_DEVICE stores: the configuration, and no lit lock or credit left at a lock place (R19). -/
def storeDevice (d : DevNo) (cfg : DeviceConfig) (s : State) : State :=
  match lockNo d with
  | some k => clearLock k (s.modDevice d fun v => { v with cfg := cfg })
  | none => s.modDevice d fun v => { v with cfg := cfg }

theorem storeDevice_frame (d : DevNo) (cfg : DeviceConfig) (s : State) : ∃ pages : Vector Page 4,
    storeDevice d cfg s = { s.modDevice d (fun v => { v with cfg := cfg }) with pages := pages } := by
  unfold storeDevice
  split
  · exact ⟨_, rfl⟩
  · exact ⟨s.pages, rfl⟩

theorem storeDevice_devices (d : DevNo) (cfg : DeviceConfig) (s : State) (e : DevNo) :
    (storeDevice d cfg s).devices[e] = if e = d then { (s.devices[d]'d.isLt) with cfg := cfg } else (s.devices[e]'e.isLt) := by
  obtain ⟨pages, h⟩ := storeDevice_frame d cfg s
  rw [h]
  exact State.modDevice_get s d e fun v => { v with cfg := cfg }

theorem storeDevice_page (d : DevNo) (cfg : DeviceConfig) (s : State) (p : PlayerNo) :
    (storeDevice d cfg s).pages[p] = match lockNo d with
      | some k => { (s.pages[p]'p.isLt) with lit := (s.pages[p]'p.isLt).lit.set k 0, credits := (s.pages[p]'p.isLt).credits.set k 0 }
      | none => (s.pages[p]'p.isLt) := by
  unfold storeDevice
  split
  · rw [clearLock_page, State.modDevice_pages]
  · rfl

theorem storeDevice_page_frame (d : DevNo) (cfg : DeviceConfig) (s : State) (p : PlayerNo) :
    ∃ (lit credits : Vector Nat 6),
      (storeDevice d cfg s).pages[p] = { (s.pages[p]'p.isLt) with lit := lit, credits := credits } := by
  rw [storeDevice_page]
  split
  · exact ⟨_, _, rfl⟩
  · exact ⟨(s.pages[p]'p.isLt).lit, (s.pages[p]'p.isLt).credits, rfl⟩

/-- What a configuration must obey that R19's checks pass. -/
def DeviceConfig.FitsAt (cfg : DeviceConfig) (d : DevNo) : Prop :=
  kindFits d cfg.kind = true ∧ cfg.positions.length ≤ cfg.capacity ∧ cfg.capacity ≤ 8 ∧
    (cfg.kind ≠ .unused → cfg.target.From d)

theorem storeDevice_lawful (d : DevNo) (cfg : DeviceConfig) (s : State) (hoff : s.devicesEnabled = false)
    (hfit : cfg.FitsAt d) : Lawful (some .devices) s (storeDevice d cfg s) := by
  have hdev := storeDevice_devices d cfg s
  have hpage := storeDevice_page_frame d cfg s
  have hlocks : s.LocksSafe → (storeDevice d cfg s).LocksSafe := fun hs p k hk => by
    by_cases hd : lockDevice k = d
    · have hget := storeDevice_page d cfg s p
      rw [← hd, lockNo_lockDevice] at hget
      rw [← hd, hget]
      simp only [vector_set_get, if_true]
      exact Nat.zero_le _
    · have hsame : (storeDevice d cfg s).devices[lockDevice k] = s.devices[lockDevice k] := by
        rw [hdev, if_neg hd]
      rw [hsame] at hk ⊢
      have hold := hs p k hk
      have hget := storeDevice_page d cfg s p
      split at hget
      · next j hj =>
        have hjk : k ≠ j := fun h => hd (by rw [h]; exact (lockNo_eq_some hj).symm)
        rw [hget]
        simp only [vector_set_get, if_neg hjk]
        exact hold
      · rw [hget]
        exact hold
  have hlive (e : DevNo) : (storeDevice d cfg s).devices[e].live = (s.devices[e]'e.isLt).live := by
    rw [hdev]
    split
    · next h => subst h; rfl
    · rfl
  obtain ⟨pages, hframe⟩ := storeDevice_frame d cfg s
  generalize storeDevice d cfg s = t at *
  subst hframe
  have hoff' : (({ s.modDevice d (fun v => { v with cfg := cfg }) with pages := pages } : State)).devicesEnabled =
      false := by
    rw [← hoff]
    simp only [State.devicesEnabled, hlive]
  exact { balls := fun hs => by
            rw [State.Conserved, State.balls, State.occupancies_congr (s := s) fun e => by rw [hlive]]
            exact hs
          devices := fun hs => by
            obtain ⟨h1, h2, -, h4, h5⟩ := hs
            refine ⟨fun e => ?_, fun e he => ?_, fun h => absurd (hoff'.symm.trans h) (by simp), fun _ => h4 hoff, h5⟩
            · rw [hdev]
              split
              · next he =>
                subst he
                obtain ⟨g1, g2, g3, g4⟩ := hfit
                have hocc := (DeviceLive.atRest_iff.mp (h2 e (State.devicesEnabled_eq_false.mp hoff e))).2.1
                exact ⟨g1, hocc.trans_le (Nat.zero_le _), g2, g3, g4⟩
              · exact h1 e
            · rw [hlive] at he ⊢
              exact h2 e he
          game := fun hs => ⟨fun p => by
            obtain ⟨lit, credits, h⟩ := hpage p
            rw [h]
            exact hs.1 p, hs.2⟩
          session := fun ⟨h1, h2, h3, h4, h5, h6⟩ => ⟨h1, h2, h3, h4, fun hc p => by
            obtain ⟨lit, credits, h⟩ := hpage p
            rw [h]
            exact h5 hc p, h6⟩
          locks := hlocks
          deviceCfg := fun h => (h rfl).elim
          scores := fun _ p _ => by
            obtain ⟨lit, credits, h⟩ := hpage p
            rw [h] }

theorem byte_toNat (b : Byte) : byte b.toNat = b := by simp [byte]

/-- A target byte that passes the checks names a device other than device 0 and the device itself, or the playfield. -/
theorem DeviceFields.storedTarget_from {f : DeviceFields} {d : DevNo}
    (hrange : f.target ≠ Config.noneByte → f.target.toNat < 8) (hzero : f.target ≠ 0) (hself : f.target ≠ byte d.val) :
    (f.storedTarget d).From d := by
  have hne : ∀ e : DevNo, f.target ≠ byte e.val → targetOfNat f.target.toNat ≠ .device e := by
    intro e he h
    unfold targetOfNat at h
    split at h
    · have hval := congrArg Fin.val (Target.device.inj h)
      exact he (by rw [← hval, byte_toNat])
    · exact nomatch h
  unfold DeviceFields.storedTarget
  split
  · exact ⟨by simp, by simp⟩
  · next hnone =>
    have hlt := hrange hnone
    rw [if_neg (by simp only [hzero, hself, or_false]; omega)]
    exact ⟨hne trough hzero, hne d hself⟩

/-- A configuration that passes R19's checks fits its device. -/
theorem DeviceFields.config_fits {f : DeviceFields} {d : DevNo} (h : f.check d = .ok) : (f.config d).FitsAt d := by
  unfold DeviceFields.check at h
  dsimp only at h
  split_ifs at h with h1 h2 h3 h4 h5 h6 h7 h8
  have hkind : ∃ k, nameOf DeviceKind.names f.kind = some k ∧ kindFits d k = true := by
    simpa [Option.any_eq_true] using h4
  obtain ⟨k, hk, hfits⟩ := hkind
  have hconfig : (f.config d).kind = k := by simp [DeviceFields.config, hk]
  refine ⟨hconfig ▸ hfits, ?_⟩
  by_cases hu : f.unused = true
  · have hkun : k = .unused := by simpa [DeviceFields.unused, hk] using hu
    have hcap : f.finalCapacity = 1 := by simp [DeviceFields.finalCapacity, hk, hkun]
    refine ⟨?_, ?_, fun hne => (hne (hconfig.trans hkun)).elim⟩
    · simp [DeviceFields.config, hu]
    · simp [DeviceFields.config, hcap]
  · simp only [Bool.not_eq_true] at hu
    simp only [hu, Bool.not_false, Bool.true_and, Bool.or_eq_true, not_or, bne_iff_ne, ne_eq, not_not, beq_iff_eq,
      Bool.not_eq_true', Bool.and_eq_true, decide_eq_true_eq, Bool.not_eq_false, Bool.not_eq_true] at h3 h5 h6 h7
    refine ⟨?_, ?_, fun _ => ?_⟩
    · simp only [DeviceFields.config, hu, Bool.false_eq_true, if_false]
      refine (List.length_filterMap_le _ _).trans ?_
      rw [DeviceFields.positions, List.length_take]
      omega
    · simp only [DeviceFields.config]
      omega
    · refine DeviceFields.storedTarget_from (fun hne => ?_) h7.1 h7.2
      exact Nat.lt_of_not_le fun hle => h3 ⟨hne, hle⟩

theorem setDevice_lawful (body : List Byte) (s : State) : Lawful (some .devices) s (setDevice body s).1 := by
  unfold setDevice
  split
  · exact .refl _ s
  · next f hf =>
    dsimp only
    split
    · next d hok hd =>
      have howner := (withEncodingCheck_eq_ok.mp hok).2
      rw [hd] at howner
      split at howner
      · exact nomatch howner
      · next hoff =>
        exact storeDevice_lawful d (f.config d) s (by simpa using hoff) (DeviceFields.config_fits howner)
    · exact .refl _ s

/-! ### The session (R163 to R166) -/

theorem clearPage_lawful (p : PlayerNo) (s : State) : Lawful (some .scores) s (clearPage p s) where
  game hs := by
    refine ⟨fun q => ?_, hs.2⟩
    rw [clearPage, State.modPage_get]
    split
    · decide
    · exact hs.1 q
  session := fun ⟨h1, h2, h3, h4, h5, h6⟩ => by
    refine ⟨h1, h2, h3, h4, fun hc q => ?_, h6⟩
    rw [clearPage, State.modPage_get]
    split
    · rfl
    · exact h5 hc q
  locks hs q k hk := by
    rw [clearPage, State.modPage_get]
    split
    · simp [Page.clear]
    · exact hs q k hk
  scores h := (h rfl).elim

/-- Commands that may write the scores, one after the other. -/
theorem Lawful.trans_of_scores {s t u : State} (h : Lawful (some .scores) s t) (g : Lawful (some .scores) t u) :
    Lawful (some .scores) s u where
  toLoyal := h.toLoyal.trans_of_scores g.toLoyal fun hw => (hw rfl).elim
  session hs := g.session (h.session hs)

theorem clearPages_lawful (n : Nat) (s : State) : Lawful (some .scores) s
    ((indices 4).foldl (fun s p => if p.val < n then clearPage p s else s) s) := by
  generalize indices 4 = l
  induction l generalizing s with
  | nil => exact .refl _ s
  | cons p l ih =>
    refine Lawful.trans_of_scores (t := if p.val < n then clearPage p s else s) ?_ (ih _)
    split
    · exact clearPage_lawful p s
    · exact .refl _ s

/-- A session opened for `n` players starts untilted, with player 0 current. -/
theorem openRecord_lawful (s : State) {n : Nat} (h1 : 1 ≤ n) (h4 : n ≤ 4) : Lawful (some .scores) s
    (s.modSession fun r =>
      { r with state := .opened, players := n, current := 0, tilt := .normal, warnings := 0, swing := .stopped }) where
  session _ := by
    refine ⟨h1, h4, h1, fun h => ?_, fun h => ?_, fun _ => ⟨fun _ => rfl, fun h => ?_, fun h => ?_⟩⟩
    · exact absurd h (by simp)
    · exact absurd h (by simp)
    · exact absurd h (by simp)
    · exact absurd h (by simp)
  scores h := (h rfl).elim

theorem openSession_lawful (body : List Byte) (s : State) : Lawful (some .scores) s (openSession body s).1 := by
  unfold openSession
  split
  · next n =>
    split
    · exact .refl _ s
    · split
      · exact .refl _ s
      · have hopen := openRecord_lawful s (n := min 4 (max 1 n.toNat)) (by omega) (Nat.min_le_left _ _)
        dsimp only [ok]
        refine (hopen.trans_of_scores (clearPages_lawful (min 4 (max 1 n.toNat)) _)).trans_of_scores (Quiet.lawful ?_ _)
        exact ((setPhase_rest_quiet _ .noPlay _ (.inl rfl)).trans
          (setPfMult_quiet _ 1 0 _ (by decide) (by decide))).trans (holdTimers_quiet _ _)
  · exact .refl _ s

theorem addPlayer_lawful (body : List Byte) (s : State) : Lawful (some .scores) s (addPlayer body s).1 := by
  unfold addPlayer
  split
  · exact .refl _ s
  · split
    · next h =>
      refine (clearPage_lawful ⟨s.session.players, h⟩ s).trans_of_scores (t := clearPage ⟨s.session.players, h⟩ s) ?_
      exact { session := fun ⟨h1, h2, h3, h4, h5, h6⟩ =>
                ⟨Nat.le_add_left _ _, h, h3.trans (Nat.lt_succ_self _), h4, h5, h6⟩ }
    · exact .refl _ s

theorem reconcile_pages (s : State) : (reconcile s).1.pages = s.pages := by
  unfold reconcile
  suffices h : ∀ (l : List DevNo) (acc : State × Nat), (l.foldl (fun acc d =>
      let s' := addOwedTimes d (acc.1.excess d) acc.1
      (s', acc.2 + ((s'.devices[d]'d.isLt).live.owed - acc.1.devices[d].live.owed))) acc).1.pages = acc.1.pages from h _ _
  intro l
  induction l with
  | nil => exact fun _ => rfl
  | cons d l ih =>
    intro acc
    rw [List.foldl_cons, ih]
    obtain ⟨devices, coils, slots, b, h⟩ := OrderFrame.of_addOwedTimes d (acc.1.excess d) acc.1
    dsimp only
    rw [h, State.raiseIf_pages]

/-- Another player becomes current between balls (R165). -/
theorem setCurrent_session {s : State} {p : PlayerNo} (hp : p.val < s.session.players) (hs : s.SessionSafe) :
    (setPhase .noPlay (s.modSession fun r => { r with current := p })).SessionSafe :=
  let ⟨h1, h2, _, _, h5, h6⟩ := hs
  ⟨h1, h2, hp, fun _ => .inl rfl, h5, h6⟩

theorem setPlayer_lawful (w : Option Part) (body : List Byte) (s : State) : Lawful w s (setPlayer body s).1 := by
  unfold setPlayer
  split
  · split
    · exact .refl w s
    · split
      · exact .refl w s
      · next p _ =>
        split
        · exact .refl w s
        · next hp =>
          split
          · exact .refl w s
          · dsimp only [ok]
            generalize hm : setPhase .noPlay (s.modSession fun r => { r with current := p }) = m
            have hset : Loyal w s m := by rw [← hm]; exact {}
            have hpages : m.pages = s.pages := by rw [← hm]; rfl
            have hrest := (reconcile_quiet (fun _ => False) m).trans (holdTimers_quiet _ _)
            refine { toLoyal := hset.trans_of_scores (hrest.lawful w).toLoyal fun _ q _ => ?_, session := fun hs => ?_ }
            · rw [(holdTimers_page _ q).1, reconcile_pages, hpages]
            · exact hrest.sound.play (hm ▸ setCurrent_session (Nat.lt_of_not_le hp) hs)
  · exact .refl w s

theorem closeSession_lawful (w : Option Part) (body : List Byte) (s : State) : Lawful w s (closeSession body s).1 := by
  unfold closeSession
  split
  · exact .refl w s
  · next hopen =>
    split
    · exact .refl w s
    · next hphase =>
      have hclose := closeRecord_work (s := s) (State.isOpen_iff.mp (by simpa using hopen))
      have hrest := (closeModes_quiet (fun _ => False) (s.modSession fun r => { r with state := .closed })).trans
        (holdTimers_quiet _ _)
      refine (Work.sound (hclose.trans hrest.toWork) hrest.stock fun hs => ?_).lawful w
      exact (holdTimers_quiet (fun _ => False) _).sound.play (closeModes_sessionSafe hs rfl rfl rfl (by
        simp only [ne_eq, not_and_or, not_not] at hphase
        exact hphase))

/-! ### GAME_RESET (R171) -/

theorem resetSession_work (s : State) : Work (fun _ => False) s (resetSession s) where
  shut _ := rfl
  session h := fun ⟨h1, h2, h3, h4, h5, _⟩ => ⟨h1, h2, h3, fun _ => h4 h.symm, fun _ => h5 h.symm, fun ho => nomatch ho⟩

theorem resetDevices_quiet (X : DevNo → Prop) (s : State) : Quiet X s (resetDevices s) :=
  .foldl _ (fun s d => cancelEjects_quiet X d true s) _ s

theorem resetAccounting_sound (s : State) : Sound s (resetAccounting s) := by
  have hstop := (endSearch_quiet (fun _ => False) s).trans (stopIdle_quiet _ _)
  simp only [resetAccounting]
  generalize stopIdle (endSearch s) = t at hstop ⊢
  refine hstop.sound.trans (Sound.trans (t := setPhase .noPlay t)
    (setPhase_rest_quiet _ .noPlay t (.inl rfl)).sound (Moves.sound ?_ rfl ?_))
  · exact .modAcct (setPhase .noPlay t) (fun a =>
      { a with missing := t.acct.missing + t.acct.flights.length + t.acct.live, live := 0, flights := [],
               phase := .noPlay, serveLaunch := false, multiball := false, saveState := .off, saveTimer := .stopped,
               savesUsed := 0 }) rfl fun r hr => nomatch hr
  · simp only [State.roaming, State.modAcct_acct, setPhase, List.length_nil]
    omega

/-- Every page returns to a game not begun, its stack left to the modes' own part (R91, R161). -/
def resetPages (s : State) : State := { s with pages := s.pages.map Page.gameReset }

theorem resetPages_get (s : State) (p : PlayerNo) : (resetPages s).pages[p] = (s.pages[p]'p.isLt).gameReset := by
  simp [resetPages]

theorem resetPages_loyal (s : State) : Loyal (some .scores) s (resetPages s) := by
  have hget := resetPages_get s
  have hgame (hs : s.GameSafe) (p : PlayerNo) : (resetPages s).pages[p].Safe := by
    obtain ⟨-, -, h3, h4⟩ := Page.safe_iff.mp (hs.1 p)
    rw [hget]
    refine Page.safe_iff.mpr ⟨Nat.zero_le _, Nat.zero_le _, ?_, h4⟩
    simp only [Page.gameReset]
    split
    · exact Nat.zero_le _
    · exact h3
  have hlocks (p : PlayerNo) (k : LockNo) :
      (resetPages s).pages[p].lit[k] + (resetPages s).pages[p].credits[k] = 0 := by
    rw [hget]
    simp [Page.gameReset]
  exact { game := fun hs => ⟨hgame hs, hs.2⟩
          locks := fun hs p k _ => (hlocks p k).trans_le (Nat.zero_le _)
          scores := fun h => (h rfl).elim }

theorem Loyal.trans {s t u : State} (h : Loyal (some .scores) s t) (g : Loyal (some .scores) t u) :
    Loyal (some .scores) s u := h.trans_of_scores g fun hw => (hw rfl).elim

theorem resetAccounting_frame (s : State) :
    (resetAccounting s).session = s.session ∧ (resetAccounting s).acct.phase = .noPlay := by
  have hstop := (endSearch_quiet (fun _ => False) s).trans (stopIdle_quiet _ _)
  exact ⟨hstop.same, rfl⟩

/-- GAME_RESET up to the close of the modes (R171). -/
def resetBeforeModes (s : State) : State :=
  resetPages (setPfMult 1 0 (resetAccounting (withdrawWaiting [.search, .direct] (resetDevices
    { resetSession s with activity := 0, awardHits := 0 }))))

theorem gameReset_eq (s : State) : gameReset s = holdTimers (formPlay (closeModes (resetBeforeModes s))) := rfl

theorem resetBeforeModes_loyal (s : State) : Loyal (some .scores) s (resetBeforeModes s) := by
  have hbegin : Loyal (some .scores) s { resetSession s with activity := 0, awardHits := 0 } := {}
  have hwork := (resetDevices_quiet (fun _ => False) { resetSession s with activity := 0, awardHits := 0 }).trans
    (withdrawWaiting_quiet _ [.search, .direct] _)
  have hcount := (resetAccounting_sound (withdrawWaiting [.search, .direct] (resetDevices
    { resetSession s with activity := 0, awardHits := 0 }))).trans
      (setPfMult_quiet _ 1 0 _ (by decide) (by decide)).sound
  exact ((hbegin.trans (hwork.lawful _).toLoyal).trans (hcount.lawful _).toLoyal).trans (resetPages_loyal _)

theorem resetBeforeModes_frame (s : State) :
    (resetBeforeModes s).session = { s.session with state := .closed, tilt := .normal, warnings := 0, swing := .stopped } ∧
      (resetBeforeModes s).acct.phase = .noPlay := by
  have hwork := (resetDevices_quiet (fun _ => False) { resetSession s with activity := 0, awardHits := 0 }).trans
    (withdrawWaiting_quiet _ [.search, .direct] _)
  unfold resetBeforeModes
  generalize withdrawWaiting [.search, .direct] _ = t at hwork ⊢
  obtain ⟨hsession, hphase⟩ := resetAccounting_frame t
  generalize resetAccounting t = u at hsession hphase ⊢
  exact ⟨hsession.trans hwork.same, hphase⟩

theorem gameReset_lawful (s : State) : Lawful (some .scores) s (gameReset s) := by
  have hlast := (formPlay_quiet (fun _ => False) (closeModes (resetBeforeModes s))).trans (holdTimers_quiet _ _)
  have hclose := (closeModes_quiet (fun _ => False) (resetBeforeModes s)).trans hlast
  obtain ⟨hsession, hphase⟩ := resetBeforeModes_frame s
  rw [gameReset_eq]
  exact { toLoyal := (resetBeforeModes_loyal s).trans (hclose.lawful _).toLoyal
          session := fun hs => hlast.sound.play (closeModes_sessionSafe hs (by rw [hsession]) (by rw [hsession])
            (by rw [hsession]) (.inl hphase)) }

end Sys2Proof.Machine

/-! Every command is lawful; the invariants of the step and the records a command leaves alone follow. -/

namespace Sys2Proof.Machine

/-- The part of the state that a command may write besides the records of play. -/
def partOf : Instr → Option Part
  | .scanFrame _ _ => some .frame
  | .setSwitch _ => some .switches
  | .setDevice _ => some .devices
  | .setCoil _ => some .coils
  | .setWindow _ => some .windows
  | .setAward _ => some .awards
  | .addPoints _ => some .scores
  | .setTemplate _ => some .templates
  | .advanceMode _ => some .free
  | .openSession _ => some .scores
  | .addPlayer _ => some .scores
  | .gameReset _ => some .scores
  | .clearNotices _ => some .pending
  | .setNoticeEnable _ => some .enable
  | .setNoticeRoute _ => some .route
  | .setGameOptions _ => some .options
  | _ => none

/-! ### Requests that read -/

theorem readSwitch_state (body : List Byte) (s : State) : (readSwitch body s).1 = s := by
  unfold readSwitch
  split
  · split <;> rfl
  · rfl

theorem readDevice_state (body : List Byte) (s : State) : (readDevice body s).1 = s := by
  unfold readDevice
  split
  · split <;> rfl
  · rfl

theorem readSlot_state (body : List Byte) (s : State) : (readSlot body s).1 = s := by
  unfold readSlot
  split
  · split <;> rfl
  · rfl

theorem readCoil_state (body : List Byte) (s : State) : (readCoil body s).1 = s := by
  unfold readCoil
  split
  · split <;> rfl
  · rfl

theorem readPlayer_state (body : List Byte) (s : State) : (readPlayer body s).1 = s := by
  unfold readPlayer
  split
  · split <;> rfl
  · rfl

theorem readWindow_state (body : List Byte) (s : State) : (readWindow body s).1 = s := by
  unfold readWindow
  split
  · split <;> rfl
  · rfl

theorem readTemplate_state (body : List Byte) (s : State) : (readTemplate body s).1 = s := by
  unfold readTemplate
  split
  · split <;> rfl
  · rfl

theorem readFlights_state (body : List Byte) (s : State) : (readFlights body s).1 = s := by
  unfold readFlights
  split
  · split <;> rfl
  · rfl

theorem readMultiplier_state (body : List Byte) (s : State) : (readMultiplier body s).1 = s := by
  unfold readMultiplier
  split
  · split <;> rfl
  · rfl

theorem readAward_state (body : List Byte) (s : State) : (readAward body s).1 = s := by
  unfold readAward
  split <;> rfl

theorem readMode_state (body : List Byte) (s : State) : (readMode body s).1 = s := by
  unfold readMode
  split
  · split
    · rfl
    · split <;> rfl
  · rfl

/-- A request whose owner changes nothing is lawful. -/
theorem Lawful.of_same {w : Option Part} {s : State} {r : State × Reply} (h : r.1 = s) : Lawful w s r.1 := by
  rw [h]
  exact .refl w s

theorem clearActivity_lawful (w : Option Part) (s : State) : Lawful w s { s with activity := 0 } := {}

theorem clearAwardHits_lawful (w : Option Part) (s : State) : Lawful w s { s with awardHits := 0 } := {}

/-- A request that has no refusal and changes nothing. -/
theorem read_lawful {w : Option Part} {body : List Byte} {out : State → List Byte} {s t : State}
    (h : request 0 body (fun _ s => ok s (out s)) s = .next t) : Lawful w s t :=
  request_lawful (run := fun _ s => ok s (out s)) (fun s => .refl w s) h

/-! ### Every command -/

theorem next_eq {s t : State} (h : (.next s : Host.Outcome State Fault Refusal) = .next t) : s = t :=
  Host.Outcome.next.inj h

/-- An event taken as a command of its own. -/
theorem take_lawful {w : Option Part} (e : Event) {s t : State}
    (h : (.next (take e s) : Host.Outcome State Fault Refusal) = .next t) : Lawful w s t :=
  next_eq h ▸ (take_sound e s).lawful w

theorem fetch_lawful (w : Option Part) (n : Nat) (s : State) : Lawful w s (fetch n s) := by
  simp only [fetch]
  exact .modLink w s _

theorem execBadFrame_lawful {w : Option Part} {bytes : List Byte} {s t : State} (h : execBadFrame bytes s = .next t) :
    Lawful w s t := by
  unfold execBadFrame at h
  split at h
  · exact next_eq h ▸ frame_lawful (badFrame_lawful w _ _ s)
  · exact next_eq h ▸ .refl w s

theorem execOverrun_lawful {w : Option Part} {n : Nat} {s t : State} (h : execOverrun n s = .next t) :
    Lawful w s t := by
  unfold execOverrun at h
  split at h
  · exact next_eq h ▸ .refl w s
  · exact next_eq h ▸ overrunFrame_lawful w n s

theorem execUnknownRequest_lawful {w : Option Part} {code : Byte} {body : List Byte} {s t : State}
    (h : execUnknownRequest code body s = .next t) : Lawful w s t := by
  unfold execUnknownRequest at h
  split at h
  · refine next_eq h ▸ frame_lawful ?_
    split
    · exact badFrame_lawful w _ _ s
    · exact (beginExecution_lawful w _ s).then_modLink _
  · exact next_eq h ▸ .refl w s

theorem execExecutionEnd_lawful {w : Option Part} {s t : State} (h : execExecutionEnd s = .next t) : Lawful w s t := by
  unfold execExecutionEnd at h
  split at h
  · exact next_eq h ▸ .modLink w s _
  · exact next_eq h ▸ .refl w s

/-- Every command but POWER_ON_RESET keeps the invariants and every record that is not its own. -/
theorem exec_lawful {c : Instr} {s t : State} (h : exec c s = .next t) (hc : c ≠ .powerOnReset) :
    Lawful (partOf c) s t := by
  cases c with
  | powerOnReset => exact (hc rfl).elim
  | scanFrame raw early => exact next_eq h ▸ scanFrame_lawful raw early s
  | evaluation d => exact take_lawful (.evaluation d) h
  | confirmTimerExpiry d => exact take_lawful (.confirmTimer d) h
  | saucerHoldExpiry d => exact take_lawful (.saucerHold d) h
  | grant g => exact take_lawful (.grant g) h
  | priorityAging c => exact take_lawful (.priorityAging c) h
  | pulseEnd c => exact take_lawful (.pulseEnd c) h
  | holdWindowExpiry c => exact take_lawful (.holdWindow c) h
  | intervalExpiry c => exact take_lawful (.interval c) h
  | recoveryExpiry c => exact take_lawful (.recovery c) h
  | gapExpiry g => exact take_lawful (.gap g) h
  | flightExpiry i => exact take_lawful (.flight i) h
  | saveTimerExpiry => exact take_lawful .saveTimer h
  | idleTimerExpiry => exact take_lawful .idleTimer h
  | searchTimerExpiry => exact take_lawful .searchTimer h
  | pfMultTimerExpiry => exact take_lawful .pfMultTimer h
  | modeTimerExpiry id => exact take_lawful (.modeTimer id) h
  | hurryPeriodExpiry id => exact take_lawful (.hurryPeriod id) h
  | swingTimerExpiry => exact take_lawful .swingTimer h
  | fetch n => exact next_eq h ▸ frame_lawful (fetch_lawful _ n s)
  | badFrame bytes => exact execBadFrame_lawful h
  | overrun n => exact execOverrun_lawful h
  | unknownRequest code body => exact execUnknownRequest_lawful h
  | executionEnd => exact execExecutionEnd_lawful h
  | setSwitch body => exact request_lawful (fun s => setSwitch_lawful body s) h
  | setDevice body => exact request_lawful (fun s => setDevice_lawful body s) h
  | enableDevices body => exact request_lawful (fun s => enableDevices_lawful _ body s) h
  | disableDevices body => exact request_lawful (fun s => disableDevices_lawful _ body s) h
  | eject body => exact request_lawful (fun s => eject_lawful _ body s) h
  | cancelEjects body => exact request_lawful (fun s => cancel_lawful _ body s) h
  | clearJam body => exact request_lawful (fun s => clearJamRequest_lawful _ body s) h
  | setCoil body => exact request_lawful (fun s => setCoil_lawful body s) h
  | pulseCoil body => exact request_lawful (fun s => pulseCoil_lawful _ body s) h
  | recount body => exact request_lawful (fun s => recount_lawful _ body s) h
  | serve body => exact request_lawful (fun s => serve_lawful _ body s) h
  | setBallSave body => exact request_lawful (fun s => setBallSave_lawful _ body s) h
  | startSearch body => exact request_lawful (fun s => startSearchRequest_lawful _ body s) h
  | lightLock body => exact request_lawful (fun s => lightLockRequest_lawful _ body s) h
  | startMultiball body => exact request_lawful (fun s => startMultiballRequest_lawful _ body s) h
  | setWindow body => exact request_lawful (fun s => setWindow_lawful body s) h
  | setAward body => exact request_lawful (fun s => setAward_lawful body s) h
  | addPoints body => exact request_lawful (fun s => addPoints_lawful body s) h
  | setPfMult body => exact request_lawful (fun s => setPfMultRequest_lawful _ body s) h
  | setTemplate body => exact request_lawful (fun s => setTemplate_lawful body s) h
  | pushMode body => exact request_lawful (fun s => pushMode_lawful _ body s) h
  | retireMode body => exact request_lawful (fun s => retireMode_lawful _ body s) h
  | pauseMode body => exact request_lawful (fun s => pauseRequest_lawful _ true body s) h
  | resumeMode body => exact request_lawful (fun s => pauseRequest_lawful _ false body s) h
  | addModeTime body => exact request_lawful (fun s => addModeTime_lawful _ body s) h
  | advanceMode body => exact request_lawful (fun s => advanceMode_lawful body s) h
  | openSession body => exact request_lawful (fun s => openSession_lawful body s) h
  | addPlayer body => exact request_lawful (fun s => addPlayer_lawful body s) h
  | setPlayer body => exact request_lawful (fun s => setPlayer_lawful _ body s) h
  | closeSession body => exact request_lawful (fun s => closeSession_lawful _ body s) h
  | gameReset body =>
    exact request_lawful (run := fun _ s => ok (gameReset s) []) (fun s => gameReset_lawful s) h
  | clearNotices body => exact request_lawful (fun s => clearNotices_lawful body s) h
  | setNoticeEnable body => exact request_lawful (fun s => setNoticeEnable_lawful body s) h
  | setNoticeRoute body => exact request_lawful (fun s => setNoticeRoute_lawful body s) h
  | setGameOptions body => exact request_lawful (fun s => setGameOptions_lawful body s) h
  | readSwitch body => exact request_lawful (fun s => .of_same (readSwitch_state body s)) h
  | readSwitches body => exact read_lawful (out := State.levelsBody) h
  | readActivity body =>
    exact request_lawful (run := fun _ s => ok { s with activity := 0 } s.activityBody)
      (fun s => clearActivity_lawful _ s) h
  | readDevice body => exact request_lawful (fun s => .of_same (readDevice_state body s)) h
  | readSlot body => exact request_lawful (fun s => .of_same (readSlot_state body s)) h
  | readCoil body => exact request_lawful (fun s => .of_same (readCoil_state body s)) h
  | readGroups body => exact read_lawful (out := State.groupsBody) h
  | readAccounting body => exact read_lawful (out := State.accountingBody) h
  | readFlights body => exact request_lawful (fun s => .of_same (readFlights_state body s)) h
  | readPlayer body => exact request_lawful (fun s => .of_same (readPlayer_state body s)) h
  | readLocks body => exact read_lawful (out := State.locksBody) h
  | readWindow body => exact request_lawful (fun s => .of_same (readWindow_state body s)) h
  | readAward body => exact request_lawful (fun s => .of_same (readAward_state body s)) h
  | readAwardHits body =>
    exact request_lawful (run := fun _ s => ok { s with awardHits := 0 } (setBytes 32 s.awardHits.toNat))
      (fun s => clearAwardHits_lawful _ s) h
  | readMultiplier body => exact request_lawful (fun s => .of_same (readMultiplier_state body s)) h
  | readTemplate body => exact request_lawful (fun s => .of_same (readTemplate_state body s)) h
  | readMode body => exact request_lawful (fun s => .of_same (readMode_state body s)) h
  | readSession body => exact read_lawful (out := State.sessionBody) h
  | readNotices body => exact read_lawful (out := State.noticesBody) h
  | readGameOptions body => exact read_lawful (out := fun s => s.options.bytes) h
  | readCapability body => exact read_lawful (out := fun _ => capabilityBody) h

end Sys2Proof.Machine

/-! The invariants of reset and of the step, and the records of each command: the obligations themselves. -/

namespace Sys2Proof.Machine

/-! ### Reset -/

theorem reset_conserved : State.reset.Conserved := by decide

theorem reset_devicesSafe : State.reset.DevicesSafe := by
  refine ⟨by decide, by decide, by decide, fun _ => ⟨rfl, rfl, rfl, rfl⟩, fun r hr => nomatch hr⟩

theorem reset_slotsSafe : State.reset.SlotsSafe := by
  refine ⟨by decide, by decide, by decide⟩

theorem reset_coilsSafe : State.reset.CoilsSafe := by
  refine ⟨by decide, by decide, by decide⟩

theorem reset_gameSafe : State.reset.GameSafe := by
  refine ⟨by decide, fun k t ht => ?_, fun i => ?_, by decide, by decide⟩
  · simp [State.reset] at ht
  · simp [State.reset, AwardEntry.powerOn]

theorem reset_sessionSafe : State.reset.SessionSafe := by
  refine ⟨by decide, by decide, by decide, fun _ => .inl rfl, fun _ => by decide, fun h => nomatch h⟩

theorem reset_locksSafe : State.reset.LocksSafe := by
  unfold State.LocksSafe
  decide

theorem reset_switchesSafe : State.reset.SwitchesSafe := fun n => by
  have h : (State.reset.switches[n]'n.isLt) = SwitchRec.powerOn := by simp [State.reset]
  rw [h]
  decide

/-- Settles O52: reset, block by block. -/
theorem resetIsSafe : Obligations.ResetIsSafe := by
  unfold Obligations.ResetIsSafe
  exact ⟨reset_conserved, reset_devicesSafe, reset_slotsSafe, reset_coilsSafe, reset_gameSafe, reset_sessionSafe,
    reset_locksSafe, reset_switchesSafe⟩

/-- Settles O1: by the equations of `step`. -/
theorem stepTakesTheFrontCommand : Obligations.StepTakesTheFrontCommand := by
  unfold Obligations.StepTakesTheFrontCommand
  refine ⟨fun c rest s => rfl, fun s hs => ?_⟩
  unfold step
  rw [hs]

/-! ### The step -/

/-- A step idles, resets, or does one lawful command on the rest of the queue. -/
theorem step_cases {s t : State} (h : step s = .next t) : t = s ∨
    (∃ p n, t = { State.reset with pending := p, freeIndex := n }) ∨
    ∃ (rest : List Instr) (c : Instr), Lawful (partOf c) { s with pending := rest } t := by
  unfold step at h
  split at h
  · exact .inl (next_eq h).symm
  · next c rest _ =>
    by_cases hc : c = .powerOnReset
    · subst hc
      exact .inr (.inl ⟨rest, s.freeIndex, (next_eq h).symm⟩)
    · exact .inr (.inr ⟨rest, c, exec_lawful h hc⟩)

/-- What holds after reset, does not look at the queue and is kept by every lawful command is kept by the step. -/
theorem step_keeps {P : State → Prop} (hreset : ∀ p n, P { State.reset with pending := p, freeIndex := n })
    (hqueue : ∀ (s : State) (rest : List Instr), P s → P { s with pending := rest })
    (hlawful : ∀ {w : Option Part} {s t : State}, Lawful w s t → P s → P t) {s t : State} (hs : P s)
    (h : step s = .next t) : P t := by
  obtain rfl | ⟨p, n, rfl⟩ | ⟨rest, c, hc⟩ := step_cases h
  · exact hs
  · exact hreset p n
  · exact hlawful hc (hqueue s rest hs)

/-- Settles O54. -/
theorem stepConservesTheBalls : Obligations.StepConservesTheBalls := by
  unfold Obligations.StepConservesTheBalls
  exact fun s t hs h => step_keeps (P := State.Conserved) (fun _ _ => reset_conserved) (fun _ _ h => h)
    (fun h => h.balls) hs h

/-- Settles O55. -/
theorem stepKeepsTheDevicesSafe : Obligations.StepKeepsTheDevicesSafe := by
  unfold Obligations.StepKeepsTheDevicesSafe
  exact fun s t hs h => step_keeps (P := State.DevicesSafe) (fun _ _ => reset_devicesSafe) (fun _ _ h => h)
    (fun h => h.devices) hs h

/-- Settles O56. -/
theorem stepKeepsTheSlotQueues : Obligations.StepKeepsTheSlotQueues := by
  unfold Obligations.StepKeepsTheSlotQueues
  exact fun s t hs h => step_keeps (P := State.SlotsSafe) (fun _ _ => reset_slotsSafe) (fun _ _ h => h)
    (fun h => h.slots) hs h

/-- Settles O57. -/
theorem stepFiresOneCoilPerGroup : Obligations.StepFiresOneCoilPerGroup := by
  unfold Obligations.StepFiresOneCoilPerGroup
  exact fun s t hs h => step_keeps (P := State.CoilsSafe) (fun _ _ => reset_coilsSafe) (fun _ _ h => h)
    (fun h => h.coils) hs h

/-- Settles O58. -/
theorem stepKeepsTheGameSafe : Obligations.StepKeepsTheGameSafe := by
  unfold Obligations.StepKeepsTheGameSafe
  exact fun s t hs h => step_keeps (P := State.GameSafe) (fun _ _ => reset_gameSafe) (fun _ _ h => h)
    (fun h => h.game) hs h

/-- Settles O59. -/
theorem stepKeepsTheSessionSafe : Obligations.StepKeepsTheSessionSafe := by
  unfold Obligations.StepKeepsTheSessionSafe
  exact fun s t hs h => step_keeps (P := State.SessionSafe) (fun _ _ => reset_sessionSafe) (fun _ _ h => h)
    (fun h => h.session) hs h

/-- Settles O60. -/
theorem stepKeepsLocksAndSwitchesSafe : Obligations.StepKeepsLocksAndSwitchesSafe := by
  unfold Obligations.StepKeepsLocksAndSwitchesSafe
  exact ⟨fun s t hs h => step_keeps (P := State.LocksSafe) (fun _ _ => reset_locksSafe) (fun _ _ h => h)
      (fun h => h.locks) hs h,
    fun s t hs h => step_keeps (P := State.SwitchesSafe) (fun _ _ => reset_switchesSafe) (fun _ _ h => h)
      (fun h => h.switches) hs h⟩

/-! ### Each record and its commands -/

/-- The commands that own a part. -/
def Part.OwnedBy (c : Instr) : Part → Prop
  | .switches => ∃ b, c = .setSwitch b
  | .frame => ∃ raw early, c = .scanFrame raw early
  | .devices => ∃ b, c = .setDevice b
  | .coils => ∃ b, c = .setCoil b
  | .windows => ∃ b, c = .setWindow b
  | .awards => ∃ b, c = .setAward b
  | .templates => ∃ b, c = .setTemplate b
  | .options => ∃ b, c = .setGameOptions b
  | .enable => ∃ b, c = .setNoticeEnable b
  | .route => ∃ b, c = .setNoticeRoute b
  | .pending => ∃ b, c = .clearNotices b
  | .scores => ∃ b, c = .openSession b ∨ c = .addPlayer b ∨ c = .addPoints b ∨ c = .gameReset b
  | .free => ∃ b, c = .advanceMode b

theorem ownedBy_of_partOf {c : Instr} {w : Part} (h : partOf c = some w) : w.OwnedBy c := by
  unfold partOf at h
  split at h
  case h_1 raw early => exact Option.some.inj h ▸ ⟨raw, early, rfl⟩
  case h_7 b => exact Option.some.inj h ▸ ⟨b, .inr (.inr (.inl rfl))⟩
  case h_10 b => exact Option.some.inj h ▸ ⟨b, .inl rfl⟩
  case h_11 b => exact Option.some.inj h ▸ ⟨b, .inr (.inl rfl)⟩
  case h_12 b => exact Option.some.inj h ▸ ⟨b, .inr (.inr (.inr rfl))⟩
  case h_17 => exact nomatch h
  all_goals exact Option.some.inj h ▸ ⟨_, rfl⟩

/-- A part that is none of the command's own. -/
theorem partOf_ne {c : Instr} {w : Part} (h : ¬ w.OwnedBy c) : partOf c ≠ some w := fun hw => h (ownedBy_of_partOf hw)

/-- Settles O53: every command is lawful for its own part. -/
theorem recordsChangeOnlyByTheirCommands : Obligations.RecordsChangeOnlyByTheirCommands := by
  unfold Obligations.RecordsChangeOnlyByTheirCommands
  intro c s t hexec hc
  have h := exec_lawful hexec hc
  refine ⟨h.queue, fun hw => h.switchCfg (partOf_ne ?_), fun hw => h.frame (partOf_ne ?_),
    fun hw => h.deviceCfg (partOf_ne ?_), fun hw => h.coilCfg (partOf_ne ?_), fun hw => h.windows (partOf_ne ?_),
    fun hw => h.awards (partOf_ne ?_), fun hw => h.templates (partOf_ne ?_), fun hw => h.options (partOf_ne ?_),
    fun hw => h.enable (partOf_ne ?_), fun hw => h.route (partOf_ne ?_), fun hw => h.pending (partOf_ne ?_),
    fun hw => h.scores (partOf_ne ?_), fun hw => h.free (partOf_ne ?_)⟩
  case refine_2 => exact fun ⟨raw, early, he⟩ => hw raw early he
  case refine_12 =>
    rintro ⟨b, h | h | h | h⟩
    · exact (hw b).1 h
    · exact (hw b).2.1 h
    · exact (hw b).2.2.1 h
    · exact (hw b).2.2.2 h
  all_goals exact fun ⟨b, he⟩ => hw b he

/-- Settles O2: every record of `State.reset` is a power-on value. -/
theorem powerOnResetRestoresEveryRecord : Obligations.PowerOnResetRestoresEveryRecord := by
  unfold Obligations.PowerOnResetRestoresEveryRecord
  refine ⟨fun s => rfl, rfl, rfl, fun n => ?_, fun d => ?_, fun d => ?_, fun n => ?_, fun c => ?_, fun g => ?_,
    ⟨rfl, rfl, rfl, rfl, rfl, rfl, rfl⟩, fun p => ?_, fun i => ?_, fun i => ?_, rfl, rfl, rfl, fun k => ?_, rfl, rfl, rfl,
    rfl, rfl, rfl, rfl, rfl⟩
  · simp [State.reset, SwitchRec.powerOn]
  · simp [State.reset, Device.powerOn, DeviceConfig.powerOn]
  · simp [State.reset, Device.powerOn, DeviceLive.powerOn]
  · simp [State.reset, Slot.powerOn]
  · simp [State.reset, State.coilEnable, Coil.powerOn, CoilConfig.powerOn, CoilLive.powerOn]
  · cases g <;> exact ⟨rfl, rfl⟩
  · simp [State.reset, Page.clear, LastEnded.none]
  · simp [State.reset, Window.powerOn]
  · simp [State.reset, AwardEntry.powerOn]
  · simp [State.reset]

end Sys2Proof.Machine

/-! Requests taken while none executes (R178): what the owner of a request answers settles the whole step. And the bytes
of R189 read back: each reading undoes the writing of a value in range. -/

namespace Sys2Proof.Machine

/-! ### A request from its owner's answer -/

/-- The state on which the owner of a request with a body of `n` bytes runs: its link has begun the execution. -/
def State.begun (s : State) (n : Nat) : State := beginExecution (n + 3) s

@[simp] theorem State.begun_switches (s : State) (n : Nat) : (s.begun n).switches = s.switches := rfl
@[simp] theorem State.begun_devices (s : State) (n : Nat) : (s.begun n).devices = s.devices := rfl
@[simp] theorem State.begun_slots (s : State) (n : Nat) : (s.begun n).slots = s.slots := rfl
@[simp] theorem State.begun_coils (s : State) (n : Nat) : (s.begun n).coils = s.coils := rfl
@[simp] theorem State.begun_acct (s : State) (n : Nat) : (s.begun n).acct = s.acct := rfl
@[simp] theorem State.begun_pages (s : State) (n : Nat) : (s.begun n).pages = s.pages := rfl
@[simp] theorem State.begun_windows (s : State) (n : Nat) : (s.begun n).windows = s.windows := rfl
@[simp] theorem State.begun_awards (s : State) (n : Nat) : (s.begun n).awards = s.awards := rfl
@[simp] theorem State.begun_templates (s : State) (n : Nat) : (s.begun n).templates = s.templates := rfl
@[simp] theorem State.begun_session (s : State) (n : Nat) : (s.begun n).session = s.session := rfl
@[simp] theorem State.begun_notices (s : State) (n : Nat) : (s.begun n).notices = s.notices := rfl
@[simp] theorem State.begun_options (s : State) (n : Nat) : (s.begun n).options = s.options := rfl
@[simp] theorem State.begun_isOpen (s : State) (n : Nat) : (s.begun n).isOpen = s.isOpen := rfl
@[simp] theorem State.begun_isTilted (s : State) (n : Nat) : (s.begun n).isTilted = s.isTilted := rfl
@[simp] theorem State.begun_devicesEnabled (s : State) (n : Nat) : (s.begun n).devicesEnabled = s.devicesEnabled := rfl
@[simp] theorem State.begun_page (s : State) (n : Nat) : (s.begun n).page = s.page := rfl
@[simp] theorem State.begun_closedCount (s : State) (n : Nat) (d : DevNo) : (s.begun n).closedCount d = s.closedCount d := rfl

section
variable {len : Nat} {body : List Byte} {run : List Byte → State → State × Reply} {s : State}

/-- A request taken: its owner's state with the reply in preparation. -/
theorem request_taken (h : s.link.executing = none) (right : body.length = len) (fits : len ≤ 60 := by decide) :
    request len body run s = .next (prepare (run body (s.begun len)).2 (run body (s.begun len)).1) := by
  subst right
  exact request_of_length h fits rfl

/-- A request that its owner refuses. -/
theorem request_refused {st : Status} (h : s.link.executing = none) (right : body.length = len)
    (hr : run body (s.begun len) = refuse (s.begun len) st) (fits : len ≤ 60 := by decide) :
    request len body run s = .next (s.refused len st) := by
  rw [request_taken h right fits, hr]
  exact congrArg _ (prepare_refuse len st s)

/-- A request that its owner carries out. -/
theorem request_ok {t : State} {out : List Byte} (h : s.link.executing = none) (right : body.length = len)
    (hr : run body (s.begun len) = ok t out) (fits : len ≤ 60 := by decide) :
    request len body run s = .next (prepare { status := .ok, body := out } t) := by
  rw [request_taken h right fits, hr]
  rfl

/-- The same, with the state that results. -/
theorem request_done {t u : State} {out : List Byte} (h : s.link.executing = none) (right : body.length = len)
    (hr : run body (s.begun len) = ok t out) (hu : prepare { status := .ok, body := out } t = u)
    (fits : len ≤ 60 := by decide) : request len body run s = .next u :=
  (request_ok h right hr fits).trans (congrArg _ hu)

/-- A request that its owner answers without an effect. -/
theorem request_answered {out : List Byte} (h : s.link.executing = none) (right : body.length = len)
    (hr : run body (s.begun len) = ok (s.begun len) out) (fits : len ≤ 60 := by decide) :
    request len body run s = .next (s.answered len out) := request_ok h right hr fits

end

/-- The check of an encoding that holds leaves the owner's status. -/
@[simp] theorem withEncodingCheck_true (st : Status) : withEncodingCheck true st = st := rfl

/-! ### Indices, names and flags read back (R189) -/

theorem byte_toNat_of_lt {n : Nat} (h : n < 256) : (byte n).toNat = n := by
  simpa [byte] using h

/-- The byte of an index is read back as the index. -/
theorem indexOf_byte {n : Nat} (i : Fin n) (hn : n ≤ 256 := by decide) : indexOf n (byte i.val) = some i := by
  have hi : (byte i.val).toNat = i.val := byte_toNat_of_lt (Nat.lt_of_lt_of_le i.isLt hn)
  simp [indexOf, hi]

theorem indexOf_none {n : Nat} {b : Byte} (h : n ≤ b.toNat) : indexOf n b = none :=
  dif_neg (Nat.not_lt.mpr h)

/-- A name is read back from its byte. -/
theorem nameOf_nameByte {α : Type} [DecidableEq α] {names : List α} {x : α} (hx : x ∈ names)
    (hl : names.length ≤ 256 := by decide) : nameOf names (nameByte names x) = some x := by
  have hi : names.idxOf x < names.length := List.idxOf_lt_length_of_mem hx
  rw [nameOf, nameByte, byte_toNat_of_lt (Nat.lt_of_lt_of_le hi hl), List.getElem?_eq_getElem hi,
    List.getElem_idxOf hi]

/-- A byte names nothing exactly beyond the last name. -/
theorem nameOf_eq_none {α : Type} {names : List α} {b : Byte} : nameOf names b = none ↔ names.length ≤ b.toNat :=
  List.getElem?_eq_none_iff

@[simp] theorem flagOf_flagByte (b : Bool) : flagOf (flagByte b) = some b := by
  cases b <;> rfl

theorem flagOf_eq_none {b : Byte} : flagOf b = none ↔ 1 < b.toNat := by
  unfold flagOf
  split
  · next h => simp [h]
  · split
    · next h => simp [h]
    · next h0 h1 =>
      simp only [true_iff]
      bv_omega

/-- A flag byte in range is read as its bit. -/
theorem flagOf_of_le {b : Byte} (h : b.toNat ≤ 1) : flagOf b = some (b == 1) := by
  obtain rfl | rfl : b = 0 ∨ b = 1 := by bv_omega
  · rfl
  · rfl

/-! ### SET_COIL and PULSE_COIL (R46, R56) -/

/-- A coil is at work when some device that ejects through it does. -/
theorem State.coilAtWork_iff (s : State) (c : CoilNo) : s.coilAtWork c = true ↔
    ∃ d : DevNo, (s.devices[d]'d.isLt).cfg.coil = c ∧
      ((s.devices[d]'d.isLt).live.state = .ejecting ∨ (s.devices[d]'d.isLt).live.state = .confirming) := by
  simp [State.coilAtWork, indices]

/-- The values SET_COIL refuses. -/
abbrev coilValuesBad (g pw pr rp rl : Byte) : Prop :=
  1 < g.toNat ∨ 2 < pr.toNat ∨ pw = 0 ∨ (pr = 1 ∧ rp.toNat ≤ pw.toNat) ∨ rl = 0 ∨ 15 < rl.toNat

theorem nameOf_profile_repeating {pr : Byte} : nameOf Profile.names pr = some .repeating ↔ pr = 1 := by
  constructor
  · intro h
    have hle : pr.toNat ≤ 2 := by
      by_contra hn
      rw [nameOf_eq_none.mpr (by simp [Profile.names]; omega)] at h
      exact absurd h (by simp)
    obtain rfl | rfl | rfl : pr = 0 ∨ pr = 1 ∨ pr = 2 := by bv_omega
    · exact absurd h (by decide)
    · rfl
    · exact absurd h (by decide)
  · rintro rfl
    rfl

/-- Whether SET_COIL finds the coil at work. -/
abbrev State.coilBusy (s : State) (c : CoilNo) : Prop :=
  (s.coils[c]'c.isLt).live.state ≠ .idle ∨ (s.coils[c]'c.isLt).live.held ≠ none ∨ s.coilAtWork c = true

/-- SET_COIL's checks: a coil at work first, then the values, whichever is bad (R46). -/
theorem State.coilCheck_eq (s : State) (c : CoilNo) (g pw pr rp rl : Byte) :
    s.coilCheck c g pw pr rp rl =
      if s.coilBusy c then .refusedBusy else if coilValuesBad g pw pr rp rl then .badValue else .ok := by
  have hnames : ((nameOf groupNames g).isNone = true ∨ (nameOf Profile.names pr).isNone = true) ↔
      1 < g.toNat ∨ 2 < pr.toNat := by
    simp only [Option.isNone_iff_eq_none, nameOf_eq_none]
    simp [groupNames, Profile.names, Nat.lt_iff_add_one_le]
  simp only [State.coilCheck, hnames, nameOf_profile_repeating, ← ite_or]
  exact if_congr or_assoc rfl (if_congr (by simp only [coilValuesBad, or_assoc]) rfl rfl)

/-- SET_COIL on a coil in range, with a flag that is one. -/
theorem setCoil_eq (c : CoilNo) (g pw rec pr rp rl hw : Byte) (sf : Bool) (s : State) :
    setCoil [byte c.val, g, pw, rec, pr, rp, rl, hw, flagByte sf] s =
      match s.coilCheck c g pw pr rp rl with
      | .ok => ok (s.modCoil c fun v => { v with cfg :=
          { group := (nameOf groupNames g).getD .a, pulseWidth := pw.toNat, recovery := rec.toNat,
            profile := (nameOf Profile.names pr).getD .pulse, repeatPeriod := rp.toNat, repeatLimit := rl.toNat,
            holdWindow := hw.toNat, searchFlag := sf } }) []
      | st => refuse s st := by
  simp only [setCoil, indexOf_byte c, flagOf_flagByte, Option.isSome_some, withEncodingCheck_true, Option.getD_some]
  cases s.coilCheck c g pw pr rp rl <;> rfl

theorem nameOf_group {g : Byte} (h : g.toNat ≤ 1) :
    (nameOf groupNames g).getD .a = if g = 0 then .a else .b := by
  obtain rfl | rfl : g = 0 ∨ g = 1 := by bv_omega
  · rfl
  · rfl

theorem nameOf_profile {pr : Byte} (h : pr.toNat ≤ 2) :
    (nameOf Profile.names pr).getD .pulse =
      if pr = 0 then .pulse else if pr = 1 then .repeating else .holdRelease := by
  obtain rfl | rfl | rfl : pr = 0 ∨ pr = 1 ∨ pr = 2 := by bv_omega
  · rfl
  · rfl
  · rfl

/-- SET_COIL with nothing to refuse stores its nine fields. -/
theorem setCoil_accepted {c : CoilNo} {g pw pr rp rl : Byte} (rec hw : Byte) (sf : Bool) {s : State}
    (hb : ¬ s.coilBusy c) (hv : ¬ coilValuesBad g pw pr rp rl) :
    setCoil [byte c.val, g, pw, rec, pr, rp, rl, hw, flagByte sf] s =
      ok (s.modCoil c fun v => { v with cfg :=
        { group := if g = 0 then .a else .b, pulseWidth := pw.toNat, recovery := rec.toNat,
          profile := if pr = 0 then .pulse else if pr = 1 then .repeating else .holdRelease,
          repeatPeriod := rp.toNat, repeatLimit := rl.toNat, holdWindow := hw.toNat, searchFlag := sf } }) [] := by
  have hg : g.toNat ≤ 1 := Nat.le_of_not_lt fun hn => hv (.inl hn)
  have hp : pr.toNat ≤ 2 := Nat.le_of_not_lt fun hn => hv (.inr (.inl hn))
  rw [setCoil_eq, State.coilCheck_eq, if_neg hb, if_neg hv, nameOf_group hg, nameOf_profile hp]

/-- PULSE_COIL on a coil in range. -/
theorem pulseCoil_eq (c : CoilNo) (w : Byte) (s : State) :
    pulseCoil [byte c.val, w] s =
      if w = 0 then refuse s .badValue
      else if (s.coils[c]'c.isLt).live.state ≠ .idle then refuse s .refusedBusy
      else if s.coilAtWork c then refuse s .refusedBusy
      else ok ((enterWaiting c .host .direct s).modCoilLive c fun l => { l with grantWidth := w.toNat }) [] := by
  simp only [pulseCoil, indexOf_byte c]

/-- The coil that PULSE_COIL leaves: a request of the host, waiting at the DIRECT priority, with the width given. -/
theorem pulseRequest_eq (c : CoilNo) (w : Nat) (s : State) :
    ((enterWaiting c .host .direct s).modCoilLive c fun l => { l with grantWidth := w }) =
      { s with coils := s.coils.set c
                  { (s.coils[c]'c.isLt) with
                    live := { (s.coils[c]'c.isLt).live with
                                state := .waiting, owner := some .host, cls := some .direct,
                                priority := min 15 s.options.directPriority, age := 0, ageDue := false,
                                pulses := 0, interval := false, ending := false, grantWidth := w,
                                timer := ⟨0, false, false⟩ } } } := by
  simp [enterWaiting, State.modCoilLive, State.modCoil, Options.initialPriority, Timer.stopped]

/-- Settles O17: each table is decided by `coilCheck_cases` or the chain of `pulseCoil_eq`; what is stored is read off the
one write of the coil record. -/
theorem coilRequestsOutcome : Obligations.CoilRequestsOutcome := by
  unfold Obligations.CoilRequestsOutcome
  refine ⟨fun s g pw rec pr rp rl hw sf h => ?_, fun s w h => ?_⟩
  · intro busy bad
    have hbusy (c : CoilNo) : busy c ↔ (s.begun 9).coilBusy c := by
      rw [State.coilBusy, State.coilAtWork_iff]
      rfl
    refine ⟨fun c hc => ?_, fun c hb => ?_, fun c hb hbad => ?_, fun c hb hbad => ?_⟩
    · refine request_refused (run := setCoil) h rfl ?_
      simp [setCoil, indexOf_none (show 24 ≤ c.toNat from hc)]
    · refine request_refused (run := setCoil) h rfl ?_
      rw [setCoil_eq, State.coilCheck_eq, if_pos ((hbusy c).mp hb)]
    · refine request_refused (run := setCoil) h rfl ?_
      rw [setCoil_eq, State.coilCheck_eq, if_neg (fun g => hb ((hbusy c).mpr g)), if_pos hbad]
    · exact request_done (run := setCoil) h rfl
        (setCoil_accepted rec hw sf (fun g => hb ((hbusy c).mpr g)) hbad) rfl
  · refine ⟨fun c hc => ?_, fun c hw => ?_, fun c hw hb => ?_, fun c hw hi hd => ?_⟩
    · refine request_refused (run := pulseCoil) h rfl ?_
      simp [pulseCoil, indexOf_none (show 24 ≤ c.toNat from hc)]
    · refine request_refused (run := pulseCoil) h rfl ?_
      rw [pulseCoil_eq, if_pos hw]
    · refine request_refused (run := pulseCoil) h rfl ?_
      rw [pulseCoil_eq, if_neg hw]
      by_cases hi : (s.coils[c]'c.isLt).live.state = .idle
      · have hwork : (s.begun 2).coilAtWork c = true :=
          (s.coilAtWork_iff c).mpr (hb.resolve_left (fun g => g hi))
        rw [if_neg (fun g => g hi), if_pos hwork]
      · exact if_pos hi
    · have hwork : ¬ (s.begun 2).coilAtWork c = true := fun hwork => by
        obtain ⟨d, hc, he | he⟩ := (s.coilAtWork_iff c).mp hwork
        · exact (hd d hc).1 he
        · exact (hd d hc).2 he
      refine request_done (run := pulseCoil) h rfl ?_ (congrArg (prepare _) (pulseRequest_eq c w.toNat (s.begun 2)))
      rw [pulseCoil_eq, if_neg hw, if_neg (fun g => g hi), if_neg hwork]

end Sys2Proof.Machine

/-! The requests of the scanner and of the router (R11, R119, R120), and packed BCD read back (R189). -/

namespace Sys2Proof.Machine

/-! ### Packed BCD -/

@[simp] theorem bcdBytes_length (k n : Nat) : (bcdBytes k n).length = k := by
  induction k generalizing n with
  | zero => rfl
  | succ k ih => simp [bcdBytes, ih]

/-- The two digits that one BCD byte carries. -/
theorem bcdByte_digits (n : Nat) : (byte (n % 100 / 10 * 16 + n % 10)).toNat / 16 = n % 100 / 10 ∧
    (byte (n % 100 / 10 * 16 + n % 10)).toNat % 16 = n % 10 := by
  rw [byte_toNat_of_lt (by omega)]
  omega

theorem bcdValid_bcdBytes (k n : Nat) : bcdValid (bcdBytes k n) = true := by
  induction k generalizing n with
  | zero => rfl
  | succ k ih =>
    obtain ⟨hi, lo⟩ := bcdByte_digits n
    have hlast : bcdValid [byte (n % 100 / 10 * 16 + n % 10)] = true := by
      simp only [bcdValid, List.all_cons, List.all_nil, hi, lo, Bool.and_true, Bool.and_eq_true, decide_eq_true_eq]
      omega
    unfold bcdValid at ih hlast ⊢
    rw [bcdBytes, List.all_append, ih, hlast]
    rfl

/-- Packed BCD is read back as the number, as far as its digits go. -/
theorem bcdValue_bcdBytes (k n : Nat) : bcdValue (bcdBytes k n) = n % 100 ^ k := by
  induction k generalizing n with
  | zero => simp [bcdBytes, bcdValue, Nat.mod_one]
  | succ k ih =>
    obtain ⟨hi, lo⟩ := bcdByte_digits n
    have hstep : bcdValue (bcdBytes (k + 1) n) = bcdValue (bcdBytes k (n / 100)) * 100 +
        ((byte (n % 100 / 10 * 16 + n % 10)).toNat / 16 * 10 + (byte (n % 100 / 10 * 16 + n % 10)).toNat % 16) :=
      List.foldl_concat ..
    rw [hstep, ih, hi, lo, Nat.pow_succ, Nat.mul_comm (100 ^ k) 100, Nat.mod_mul]
    omega

/-- A value in four bytes of BCD: the bytes are digits and carry the value (R110, R140). -/
theorem bcdBytes_four {v : Nat} (h : v ≤ Config.maxValue) : ∃ b3 b2 b1 b0 : Byte,
    bcdBytes 4 v = [b3, b2, b1, b0] ∧ bcdValid [b3, b2, b1, b0] = true ∧ bcdValue [b3, b2, b1, b0] = v := by
  refine ⟨_, _, _, _, rfl, bcdValid_bcdBytes 4 v, (bcdValue_bcdBytes 4 v).trans (Nat.mod_eq_of_lt ?_)⟩
  exact Nat.lt_succ_of_le h

/-! ### SET_SWITCH (R11) -/

theorem SwitchClass.mem_names (c : SwitchClass) : c ∈ SwitchClass.names := by cases c <;> decide
theorem EdgeSelection.mem_names (e : EdgeSelection) : e ∈ EdgeSelection.names := by cases e <;> decide
theorem AwardKind.mem_names (k : AwardKind) : k ∈ AwardKind.names := by cases k <;> decide

theorem Device.names_iff (v : Device) (n : SwitchNo) :
    v.names n = true ↔ n ∈ v.cfg.positions ∨ v.cfg.entry = some n := by
  simp [Device.names]

/-- SET_SWITCH refuses a byte that names no class or no edge selection. -/
theorem setSwitch_badValue {cls sel : Byte} (n : SwitchNo) (cd od : Byte) (s : State)
    (h : 5 < cls.toNat ∨ 3 < sel.toNat) : setSwitch [byte n.val, cls, cd, od, sel] s = refuse s .badValue := by
  simp only [setSwitch, indexOf_byte n]
  obtain hc | hs := h
  · rw [nameOf_eq_none.mpr (show SwitchClass.names.length ≤ cls.toNat from hc)]
  · rw [nameOf_eq_none.mpr (show EdgeSelection.names.length ≤ sel.toNat from hs)]
    cases nameOf SwitchClass.names cls <;> rfl

/-- SET_SWITCH with names: refused only where an UNUSED switch would stay a device's. -/
theorem setSwitch_eq (n : SwitchNo) (cls : SwitchClass) (cd od : Byte) (sel : EdgeSelection) (s : State) :
    setSwitch [byte n.val, nameByte SwitchClass.names cls, cd, od, nameByte EdgeSelection.names sel] s =
      if cls = .unused ∧ s.devicesEnabled = true ∧
          ∃ d : DevNo, n ∈ s.devices[d].cfg.positions ∨ s.devices[d].cfg.entry = some n then refuse s .refusedState
      else ok { s with switches := s.switches.set n
                          { s.switches[n] with cls := cls, closeDebounce := min 15 (max 1 cd.toNat),
                                               openDebounce := min 15 (max 1 od.toNat), selection := sel,
                                               pendingFrames := 0 } } [] := by
  have hnamed : ((indices 8).any fun d => s.devices[d].names n) = true ↔
      ∃ d : DevNo, n ∈ s.devices[d].cfg.positions ∨ s.devices[d].cfg.entry = some n := by
    simp only [indices, List.any_eq_true, List.mem_finRange, true_and, Device.names_iff]
  simp only [setSwitch, indexOf_byte n, nameOf_nameByte cls.mem_names, nameOf_nameByte sel.mem_names, hnamed,
    clampDebounce]

/-! ### SET_WINDOW (R119) -/

/-- The values SET_WINDOW refuses. -/
abbrev windowValuesBad (en base mask ef tr : Byte) : Prop :=
  1 < en.toNat ∨ 1 < tr.toNat ∨ 127 < base.toNat ∨ 127 < mask.toNat ∨ 2 < ef.toNat

theorem nameOf_edgeFilter {ef : Byte} (h : ef.toNat ≤ 2) :
    nameOf EdgeFilter.names ef = some (if ef = 0 then .close else if ef = 1 then .opening else .either) := by
  obtain rfl | rfl | rfl : ef = 0 ∨ ef = 1 ∨ ef = 2 := by bv_omega
  · rfl
  · rfl
  · rfl

theorem setWindow_badValue {en base mask ef tr : Byte} (i : Fin 32) (target : Byte) (s : State)
    (h : windowValuesBad en base mask ef tr) :
    setWindow [byte i.val, en, base, mask, ef, tr, target] s = refuse s .badValue := by
  simp only [setWindow, indexOf_byte i]
  split
  · next hen htr hef =>
    refine if_pos ?_
    have hen : ¬ 1 < en.toNat := fun g => by simp [flagOf_eq_none.mpr g] at hen
    have htr : ¬ 1 < tr.toNat := fun g => by simp [flagOf_eq_none.mpr g] at htr
    have hef : ¬ 2 < ef.toNat := fun g => by
      simp [nameOf_eq_none.mpr (show EdgeFilter.names.length ≤ ef.toNat from g)] at hef
    omega
  · rfl

theorem setWindow_accepted {en base mask ef tr : Byte} (i : Fin 32) (target : Byte) (s : State)
    (h : ¬ windowValuesBad en base mask ef tr) :
    setWindow [byte i.val, en, base, mask, ef, tr, target] s =
      ok { s with windows := s.windows.set i
                    { enabled := en == 1, base := BitVec.ofNat 7 base.toNat, mask := BitVec.ofNat 7 mask.toNat,
                      filter := if ef = 0 then .close else if ef = 1 then .opening else .either,
                      translate := tr == 1, target := target } } [] := by
  have hw : ∀ b : Byte, b.setWidth 7 = BitVec.ofNat 7 b.toNat := fun b => rfl
  unfold windowValuesBad at h
  simp only [setWindow, indexOf_byte i, flagOf_of_le (show en.toNat ≤ 1 by omega),
    flagOf_of_le (show tr.toNat ≤ 1 by omega), nameOf_edgeFilter (show ef.toNat ≤ 2 by omega), hw]
  exact if_neg (by omega)

/-! ### SET_AWARD (R120) -/

/-- SET_AWARD refuses bytes that are no digits. -/
theorem setAward_badDigits {b3 b2 b1 b0 : Byte} (i kind scope rr arg nt : Byte) (s : State)
    (h : bcdValid [b3, b2, b1, b0] = false) :
    setAward [i, kind, b3, b2, b1, b0, scope, rr, arg, nt] s = refuse s .badValue := by
  simp [setAward, h]

/-- SET_AWARD refuses a byte that names no kind, a mode id above 63, and a flag that is none. -/
theorem setAward_badValue {kind scope rr nt b3 b2 b1 b0 : Byte} (i arg : Byte) (s : State)
    (h : 9 < kind.toNat ∨ 63 < scope.toNat ∨ 1 < rr.toNat ∨ 1 < nt.toNat) :
    setAward [i, kind, b3, b2, b1, b0, scope, rr, arg, nt] s = refuse s .badValue := by
  simp only [setAward]
  split
  · rfl
  · split
    · next hk hr hn =>
      refine if_pos ?_
      have hk : ¬ 9 < kind.toNat := fun g => by
        simp [nameOf_eq_none.mpr (show AwardKind.names.length ≤ kind.toNat from g)] at hk
      have hr : ¬ 1 < rr.toNat := fun g => by simp [flagOf_eq_none.mpr g] at hr
      have hn : ¬ 1 < nt.toNat := fun g => by simp [flagOf_eq_none.mpr g] at hn
      omega
    · rfl

theorem setAward_accepted {scope rr nt b3 b2 b1 b0 : Byte} (i : Fin 256) (k : AwardKind) (arg : Byte) (s : State)
    (hb : bcdValid [b3, b2, b1, b0] = true) (hscope : scope.toNat ≤ 63) (hrr : rr.toNat ≤ 1) (hnt : nt.toNat ≤ 1) :
    setAward [byte i.val, nameByte AwardKind.names k, b3, b2, b1, b0, scope, rr, arg, nt] s =
      ok { s with awards := s.awards.set i
                    { kind := k, base := bcdValue [b3, b2, b1, b0], scope := scope.toNat, requiresRunning := rr == 1,
                      argument := arg, notify := nt == 1 } } [] := by
  have hi : (byte i.val).toFin = i := Fin.ext (byte_toNat_of_lt i.isLt)
  simp only [setAward, hb, nameOf_nameByte k.mem_names, flagOf_of_le hrr, flagOf_of_le hnt, hi]
  exact if_neg (Nat.not_lt.mpr hscope)

/-- Settles O31: per request, one lemma for what its table refuses and one for what it stores. -/
theorem switchWindowAndAwardRequests : Obligations.SwitchWindowAndAwardRequests := by
  unfold Obligations.SwitchWindowAndAwardRequests
  refine ⟨fun s h => ?_, fun s en base mask ef tr target h => ?_, fun s i kind scope rr arg nt value h hv => ?_⟩
  · refine ⟨fun n cls cd od sel hn => ?_, fun n cls cd od sel hbad => ?_, fun n cls cd od sel => ?_⟩
    · refine request_refused (run := setSwitch) h rfl ?_
      simp [setSwitch, indexOf_none (show 128 ≤ n.toNat from hn)]
    · exact request_refused (run := setSwitch) h rfl (setSwitch_badValue n cd od _ hbad)
    · split
      · next hr => exact request_refused (run := setSwitch) h rfl ((setSwitch_eq n cls cd od sel _).trans (if_pos hr))
      · next hr => exact request_done (run := setSwitch) h rfl ((setSwitch_eq n cls cd od sel _).trans (if_neg hr)) rfl
  · refine ⟨fun i hi => ?_, fun i hbad => ?_, fun i hbad => ?_⟩
    · refine request_refused (run := setWindow) h rfl ?_
      simp [setWindow, indexOf_none (show 32 ≤ i.toNat from hi)]
    · exact request_refused (run := setWindow) h rfl (setWindow_badValue i target _ hbad)
    · exact request_done (run := setWindow) h rfl (setWindow_accepted i target _ hbad) rfl
  · obtain ⟨b3, b2, b1, b0, hbytes, hvalid, hvalue⟩ := bcdBytes_four hv
    rw [hbytes]
    refine ⟨fun hbad => ?_, fun v3 v2 v1 v0 hbad => ?_, fun k hscope hrr hnt => ?_⟩
    · exact request_refused (run := setAward) h rfl (setAward_badValue (byte i.val) arg _ hbad)
    · exact request_refused (run := setAward) h rfl (setAward_badDigits (byte i.val) kind scope rr arg nt _ hbad)
    · rw [← hvalue]
      exact request_done (run := setAward) h rfl (setAward_accepted i k arg _ hvalid hscope hrr hnt) rfl

/-! ### The winning window (R107 to R109) -/

/-- A window hits a switch when it is enabled, every compared position agrees and its filter admits the direction. -/
theorem Window.hits_iff (w : Window) (n : SwitchNo) (dir : Direction) : w.hits n dir = true ↔
    w.enabled = true ∧ (∀ k : Fin 7, w.mask.getLsbD k.val = true → n.val.testBit k.val = w.base.getLsbD k.val) ∧
      (w.filter = .either ∨ (w.filter = .close ∧ dir = .closing) ∨ (w.filter = .opening ∧ dir = .opening)) := by
  have hbits : (switchBits n &&& w.mask == w.base &&& w.mask) = true ↔
      ∀ k : Fin 7, w.mask.getLsbD k.val = true → n.val.testBit k.val = w.base.getLsbD k.val := by
    rw [beq_iff_eq]
    constructor
    · intro h k hk
      have := congrArg (fun b => b.getLsbD k.val) h
      simpa [switchBits, show w.mask[k.val] = true from hk] using this
    · intro h
      refine BitVec.eq_of_getLsbD_eq fun k hk => ?_
      have hkk := h ⟨k, hk⟩
      cases hm : w.mask.getLsbD k with
      | false => simp [hm]
      | true => simp [switchBits, hm, hkk hm]
  have hfilter : w.filter.admits dir = true ↔
      (w.filter = .either ∨ (w.filter = .close ∧ dir = .closing) ∨ (w.filter = .opening ∧ dir = .opening)) := by
    cases w.filter <;> cases dir <;> simp [EdgeFilter.admits]
  rw [Window.hits, Bool.and_eq_true, Bool.and_eq_true, hbits, hfilter, and_assoc]

/-- The winning window is the one of lowest index that hits. -/
theorem winningWindow_eq_some (s : State) (n : SwitchNo) (dir : Direction) (i : Fin 32) :
    s.winningWindow n dir = some i ↔
      (s.windows[i]'i.isLt).hits n dir = true ∧ ∀ j : Fin 32, j < i → ¬ (s.windows[j]'j.isLt).hits n dir = true := by
  rw [State.winningWindow, indices, ← Fin.find?_eq_find?_finRange, Fin.find?_eq_some_iff]
  simp only [Bool.not_eq_true]

theorem winningWindow_eq_none {s : State} {n : SwitchNo} {dir : Direction}
    (h : ∀ i : Fin 32, ¬ (s.windows[i]'i.isLt).hits n dir = true) : s.winningWindow n dir = none :=
  List.find?_eq_none.mpr fun i _ => h i

/-- Settles O32: `winningWindow` finds the lowest index that hits, and the award index is read off bit by bit. -/
theorem lowestWindowWins : Obligations.LowestWindowWins := by
  unfold Obligations.LowestWindowWins
  intro s n dir
  simp only [← Window.hits_iff]
  refine ⟨winningWindow_eq_some s n dir, fun hnone => ?_, fun i hi => ?_, fun w hw => ?_, fun w k hw => ?_⟩
  · rw [switchEvent, winningWindow_eq_none hnone]
  · rw [switchEvent, hi]
  · rw [Window.awardIndex, hw]
    rfl
  · rw [Window.awardIndex, if_pos hw, BitVec.getLsbD_or, BitVec.getLsbD_setWidth, BitVec.getLsbD_and, BitVec.getLsbD_not,
      switchBits, BitVec.getLsbD_ofNat]
    by_cases hk : k.val < 7 <;> simp [hk, k.isLt]

end Sys2Proof.Machine

/-! The arbiter's grant and its other expiries (R47 to R52): the winner is the waiting coil of lowest priority, and of
those the nearest by the arbitration mode. -/

namespace Sys2Proof.Machine

/-! ### The lowest priority -/

theorem foldl_min_le {α : Type} (key : α → Nat) (l : List α) (m : Nat) :
    l.foldl (fun m a => min m (key a)) m ≤ m ∧ ∀ a ∈ l, l.foldl (fun m a => min m (key a)) m ≤ key a := by
  induction l generalizing m with
  | nil => simp
  | cons a l ih =>
    obtain ⟨hm, hl⟩ := ih (min m (key a))
    refine ⟨hm.trans (Nat.min_le_left _ _), fun b hb => ?_⟩
    obtain rfl | hb := List.mem_cons.mp hb
    · exact hm.trans (Nat.min_le_right _ _)
    · exact hl b hb

theorem foldl_min_mem {α : Type} (key : α → Nat) (l : List α) (m : Nat) :
    l.foldl (fun m a => min m (key a)) m = m ∨ ∃ a ∈ l, l.foldl (fun m a => min m (key a)) m = key a := by
  induction l generalizing m with
  | nil => exact .inl rfl
  | cons a l ih =>
    obtain h | ⟨b, hb, h⟩ := ih (min m (key a))
    · rw [List.foldl_cons, h]
      obtain hm | hm := Nat.le_total m (key a)
      · exact .inl (Nat.min_eq_left hm)
      · exact .inr ⟨a, List.mem_cons_self, Nat.min_eq_right hm⟩
    · exact .inr ⟨b, List.mem_cons_of_mem a hb, h⟩

theorem State.lowestPriority_le (s : State) {l : List CoilNo} {c : CoilNo} (hc : c ∈ l) :
    s.lowestPriority l ≤ (s.coils[c]'c.isLt).live.priority := by
  cases l with
  | nil => simp at hc
  | cons a l =>
    obtain ⟨ha, hl⟩ := foldl_min_le (fun e : CoilNo => (s.coils[e]'e.isLt).live.priority) l (s.coils[a]'a.isLt).live.priority
    obtain rfl | hc := List.mem_cons.mp hc
    · exact ha
    · exact hl c hc

theorem State.lowestPriority_mem (s : State) {l : List CoilNo} (hl : l ≠ []) :
    ∃ c ∈ l, s.lowestPriority l = (s.coils[c]'c.isLt).live.priority := by
  cases l with
  | nil => exact absurd rfl hl
  | cons a l =>
    obtain h | ⟨c, hc, h⟩ := foldl_min_mem (fun e : CoilNo => (s.coils[e]'e.isLt).live.priority) l (s.coils[a]'a.isLt).live.priority
    · exact ⟨a, List.mem_cons_self, h⟩
    · exact ⟨c, List.mem_cons_of_mem a hc, h⟩

/-! ### Ties -/

/-- The better of the best so far and one more, by a key; the first met stays at a tie. -/
def nearer {α : Type} (key : α → Nat) : Option α → α → Option α
  | none, c => some c
  | some b, c => if key c < key b then some c else some b

theorem foldl_nearer_some {α : Type} (key : α → Nat) (l : List α) (b : α) :
    ∃ c, l.foldl (nearer key) (some b) = some c ∧ (c = b ∨ c ∈ l) ∧ key c ≤ key b ∧ ∀ e ∈ l, key c ≤ key e := by
  induction l generalizing b with
  | nil => exact ⟨b, rfl, .inl rfl, Nat.le_refl _, by simp⟩
  | cons a l ih =>
    rw [List.foldl_cons, nearer]
    split
    · next hlt =>
      obtain ⟨c, hc, hmem, hle, hl⟩ := ih a
      exact ⟨c, hc, .inr (List.mem_cons.mpr hmem), by omega, List.forall_mem_cons.mpr ⟨hle, hl⟩⟩
    · next hlt =>
      obtain ⟨c, hc, hmem, hle, hl⟩ := ih b
      exact ⟨c, hc, hmem.imp_right (List.mem_cons_of_mem a), hle, List.forall_mem_cons.mpr ⟨by omega, hl⟩⟩

theorem foldl_nearer {α : Type} (key : α → Nat) {l : List α} (hl : l ≠ []) :
    ∃ c, l.foldl (nearer key) none = some c ∧ c ∈ l ∧ ∀ e ∈ l, key c ≤ key e := by
  cases l with
  | nil => exact absurd rfl hl
  | cons a l =>
    obtain ⟨c, hc, hmem, hle, hl⟩ := foldl_nearer_some key l a
    exact ⟨c, hc, List.mem_cons.mpr hmem, List.forall_mem_cons.mpr ⟨hle, hl⟩⟩

/-- Counting upward meets different coils at different distances. -/
theorem rotateDistance_inj {last c e : CoilNo} (h : rotateDistance last c = rotateDistance last e) : c = e := by
  have hl := last.isLt
  have hc := c.isLt
  have he := e.isLt
  unfold rotateDistance at h
  refine Fin.ext ?_
  omega

theorem rotateDistance_eq (last c : CoilNo) : rotateDistance last c = (c.val + 23 - last.val) % 24 := by
  unfold rotateDistance
  omega

/-- The coils of a group that wait at the lowest priority, in ascending number. -/
def State.tiedSet (s : State) (g : Group) : List CoilNo :=
  (s.waitingSet g).filter fun c => (s.coils[c]'c.isLt).live.priority ≤ s.lowestPriority (s.waitingSet g)

/-- The winner among the coils tied at the lowest priority. -/
theorem State.winner_eq (s : State) (g : Group) : s.winner g =
    match s.options.arbitration with
    | .fixed => (s.tiedSet g).head?
    | .rotate => (s.tiedSet g).foldl (nearer (rotateDistance (s.group g).last)) none := by
  have hstep : (fun (best : Option CoilNo) (c : CoilNo) =>
      match best with
      | none => some c
      | some b => if rotateDistance (s.group g).last c < rotateDistance (s.group g).last b then some c else some b) =
      nearer (rotateDistance (s.group g).last) := by
    funext best c
    cases best <;> rfl
  simp only [State.winner]
  cases s.options.arbitration with
  | fixed => rfl
  | rotate => exact congrArg (fun f => (s.tiedSet g).foldl f none) hstep

theorem State.mem_tiedSet {s : State} {g : Group} {c : CoilNo} : c ∈ s.tiedSet g ↔
    c ∈ s.waitingSet g ∧ ∀ e ∈ s.waitingSet g, (s.coils[c]'c.isLt).live.priority ≤ (s.coils[e]'e.isLt).live.priority := by
  rw [State.tiedSet, List.mem_filter, decide_eq_true_eq]
  refine and_congr_right fun hc => ⟨fun h e he => h.trans (s.lowestPriority_le he), fun h => ?_⟩
  obtain ⟨e, he, hlow⟩ := s.lowestPriority_mem (List.ne_nil_of_mem hc)
  rw [hlow]
  exact h e he

theorem State.tiedSet_ne_nil {s : State} {g : Group} (h : s.waitingSet g ≠ []) : s.tiedSet g ≠ [] := by
  obtain ⟨c, hc, hlow⟩ := s.lowestPriority_mem h
  refine List.ne_nil_of_mem (State.mem_tiedSet.mpr ⟨hc, fun e he => ?_⟩)
  rw [← hlow]
  exact s.lowestPriority_le he

theorem State.tiedSet_sorted (s : State) (g : Group) : (s.tiedSet g).Pairwise (· < ·) :=
  ((List.pairwise_lt_finRange 24).filter _).filter _

/-- Whether coil `c` goes before coil `e` at a tie (R50). -/
def State.before (s : State) (g : Group) (c e : CoilNo) : Prop :=
  match s.options.arbitration with
  | .fixed => c < e
  | .rotate => (c.val + 23 - (s.group g).last.val) % 24 < (e.val + 23 - (s.group g).last.val) % 24

/-- A group with a coil that waits has a winner, which goes before every other of the tied coils. -/
theorem State.winner_spec {s : State} {g : Group} (h : s.waitingSet g ≠ []) :
    ∃ c, s.winner g = some c ∧ c ∈ s.tiedSet g ∧ ∀ e ∈ s.tiedSet g, e ≠ c → s.before g c e := by
  rw [State.winner_eq]
  unfold State.before
  cases s.options.arbitration with
  | fixed =>
    obtain ⟨c, l, hl⟩ := List.exists_cons_of_ne_nil (State.tiedSet_ne_nil h)
    have hsort := hl ▸ s.tiedSet_sorted g
    refine ⟨c, by rw [hl]; rfl, by simp [hl], fun e he hne => ?_⟩
    rw [hl] at he
    exact (List.pairwise_cons.mp hsort).1 e ((List.mem_cons.mp he).resolve_left hne)
  | rotate =>
    obtain ⟨c, hc, hmem, hmin⟩ := foldl_nearer (rotateDistance (s.group g).last) (State.tiedSet_ne_nil h)
    refine ⟨c, hc, hmem, fun e he hne => ?_⟩
    have hlt := Nat.lt_of_le_of_ne (hmin e he) fun heq => hne (rotateDistance_inj heq).symm
    rwa [rotateDistance_eq, rotateDistance_eq] at hlt

/-- Every waiting coil but the winner has a higher priority, or an equal one and a later place. -/
theorem State.before_of_waiting {s : State} {g : Group} {c e : CoilNo} (hc : c ∈ s.tiedSet g)
    (hbefore : ∀ e ∈ s.tiedSet g, e ≠ c → s.before g c e) (he : e ∈ s.waitingSet g) (hne : e ≠ c) :
    (s.coils[c]'c.isLt).live.priority < (s.coils[e]'e.isLt).live.priority ∨
      ((s.coils[c]'c.isLt).live.priority = (s.coils[e]'e.isLt).live.priority ∧ s.before g c e) := by
  have hmin := (State.mem_tiedSet.mp hc).2
  obtain hlt | heq := Nat.lt_or_eq_of_le (hmin e he)
  · exact .inl hlt
  · refine .inr ⟨heq, hbefore e (State.mem_tiedSet.mpr ⟨he, fun x hx => ?_⟩) hne⟩
    rw [← heq]
    exact hmin x hx

/-- Settles O18: the grant fires `winner`, which `winner_spec` finds; with none waiting or the group not FREE it does
nothing. -/
theorem grantFiresTheWinner : Obligations.GrantFiresTheWinner := by
  unfold Obligations.GrantFiresTheWinner
  refine fun s g => ⟨fun hfree ⟨c, hc⟩ => ?_, fun h => ?_⟩
  · have hne : s.waitingSet g ≠ [] := List.ne_nil_of_mem (State.mem_waitingSet.mpr hc)
    obtain ⟨w, hw, hmem, hbefore⟩ := State.winner_spec hne
    obtain ⟨hwait, hgroup⟩ := State.winner_waits hw
    refine ⟨w, hwait, hgroup, fun e he heg hew => ?_, ?_⟩
    · exact State.before_of_waiting hmem hbefore (State.mem_waitingSet.mpr ⟨he, heg⟩) hew
    · have hgrant : takeGrant g s = fire g w s := by
        rw [takeGrant, if_pos hfree, hw]
      refine congrArg Host.Outcome.next (hgrant.trans ?_)
      cases g <;> rfl
  · refine congrArg Host.Outcome.next ?_
    obtain heq | ⟨c, hfree, hw, -⟩ := takeGrant_cases g s
    · exact heq
    · obtain ⟨hwait, hgroup⟩ := State.winner_waits hw
      exact h.elim (fun hn => absurd hfree hn) (fun hn => absurd hwait (hn c hgroup))

/-! ### Aging, gap, interval and recovery -/

/-- A coil's live part when it is IDLE with nothing held (R45). -/
def CoilLive.idled (l : CoilLive) : CoilLive :=
  { l with state := .idle, owner := none, cls := none, priority := 0, age := 0, ageDue := false, held := none,
           interval := false, ending := false, timer := l.timer.halt }

/-- A coil that enters IDLE with nothing held. -/
theorem enterIdle_of_none {c : CoilNo} {s : State} (h : (s.coils[c]'c.isLt).live.held = none) :
    enterIdle c s = s.modCoilLive c CoilLive.idled := by
  simp only [enterIdle, h]
  rfl

/-- A coil that enters IDLE with a request held: the request waits at once. -/
theorem enterIdle_of_held {c : CoilNo} {s : State} {d : DevNo} (h : (s.coils[c]'c.isLt).live.held = some d) :
    enterIdle c s = s.modCoilLive c fun l => { waitingFor d s l with held := none } := by
  simp only [enterIdle, h]
  simp [enterWaiting, State.modCoilLive, State.modCoil, waitingFor, Options.initialPriority, Timer.stopped]

/-- Two writes of one coil are one. -/
theorem State.modCoilLive_modCoilLive (s : State) (c : CoilNo) (f g : CoilLive → CoilLive) :
    (s.modCoilLive c f).modCoilLive c g = s.modCoilLive c (g ∘ f) := by
  simp [State.modCoilLive, State.modCoil]

/-- Settles O19: each expiry taken when due writes one coil or one group; a held request enters WAITING in the write
that makes its coil IDLE. -/
theorem arbiterExpiriesMoveOn : Obligations.ArbiterExpiriesMoveOn := by
  unfold Obligations.ArbiterExpiriesMoveOn
  refine ⟨fun s c hw hdue => ?_, fun s hg hdue => ?_, fun s hg hdue => ?_, fun s c hr hi hdue hcls => ?_,
    fun s c hr hi hdue => ?_⟩
  · exact congrArg Host.Outcome.next (if_pos ⟨hw, hdue⟩)
  · exact congrArg Host.Outcome.next (if_pos ⟨hg, hdue⟩)
  · exact congrArg Host.Outcome.next (if_pos ⟨hg, hdue⟩)
  · refine congrArg Host.Outcome.next ((if_pos ⟨hr, hi, hdue⟩).trans ?_)
    simp only [State.modCoilLive, State.modCoil, hcls]
    rfl
  · refine congrArg Host.Outcome.next ((if_pos ⟨hr, fun h => Bool.false_ne_true (hi.symm.trans h), hdue⟩).trans ?_)
    have hheld : (s.modCoilLive c fun l => { l with timer := .stopped }).coils[c].live.held = (s.coils[c]'c.isLt).live.held := by
      rw [State.modCoilLive_get, if_pos rfl]
    rcases h : (s.coils[c]'c.isLt).live.held with _ | d
    · rw [enterIdle_of_none (hheld.trans h), State.modCoilLive_modCoilLive]
      simp only [State.modCoilLive, State.modCoil, Function.comp_apply, CoilLive.idled, h]
      rfl
    · rw [enterIdle_of_held (hheld.trans h), State.modCoilLive_modCoilLive]
      rfl

end Sys2Proof.Machine

/-! What the close of an event leaves alone (R71, R72, R76, R80, R83): the counts of balls, the devices and the records of
the players but their stacks; and what it does to the phase. -/

namespace Sys2Proof.Machine

/-! ### Withdrawn requests -/

theorem enterIdle_other {c e : CoilNo} (s : State) (h : e ≠ c) : (enterIdle c s).coils[e] = (s.coils[e]'e.isLt) :=
  (CoilStep.enterIdle c s).others e h

/-- A coil that does not wait for one of the classes keeps its record. -/
theorem withdrawWaiting_get {classes : List ReqClass} {s : State} {e : CoilNo}
    (h : (s.coils[e]'e.isLt).live.state ≠ .waiting ∨ ∀ k ∈ classes, (s.coils[e]'e.isLt).live.cls ≠ some k) :
    (withdrawWaiting classes s).coils[e] = (s.coils[e]'e.isLt) := by
  unfold withdrawWaiting
  generalize indices 24 = l
  induction l generalizing s with
  | nil => rfl
  | cons c l ih =>
    rw [List.foldl_cons]
    dsimp only
    split
    · next hc =>
      have hne : e ≠ c := by
        rintro rfl
        obtain ⟨hw, hk⟩ := hc
        obtain ⟨k, hk, he⟩ := List.any_eq_true.mp hk
        exact h.elim (fun hn => hn hw) (fun hn => hn k hk (beq_iff_eq.mp he))
      rw [ih (by rw [enterIdle_other s hne]; exact h), enterIdle_other s hne]
    · exact ih h

/-! ### What the close leaves alone -/

/-- The notices that the end of play and the multiball flag raise. -/
def Notice.ofPlay (k : Notice) : Bool := k ∈ [.multiballStarted, .multiballEnded, .ballEnded, .modeEnded]

/-- What the close of an event leaves alone. -/
structure Closing (s t : State) : Prop where
  kept : t.kept = s.kept := by rfl
  devices : t.devices = s.devices := by rfl
  slots : t.slots = s.slots := by rfl
  groupA : t.groupA = s.groupA := by rfl
  groupB : t.groupB = s.groupB := by rfl
  session : t.session = s.session := by rfl
  decisions : t.decisions = s.decisions := by rfl
  awardHits : t.awardHits = s.awardHits := by rfl
  pfMult : t.pfMult = s.pfMult := by rfl
  pfTimer : t.pfTimer = s.pfTimer := by rfl
  installed : t.acct.installed = s.acct.installed := by rfl
  live : t.acct.live = s.acct.live := by rfl
  missing : t.acct.missing = s.acct.missing := by rfl
  flights : t.acct.flights = s.acct.flights := by rfl
  serveLaunch : t.acct.serveLaunch = s.acct.serveLaunch := by rfl
  savesUsed : t.acct.savesUsed = s.acct.savesUsed := by rfl
  score : ∀ p : PlayerNo, (t.pages[p]'p.isLt).score = (s.pages[p]'p.isLt).score := by exact fun _ => rfl
  rollover : ∀ p : PlayerNo, (t.pages[p]'p.isLt).rollover = (s.pages[p]'p.isLt).rollover := by exact fun _ => rfl
  lit : ∀ p : PlayerNo, (t.pages[p]'p.isLt).lit = (s.pages[p]'p.isLt).lit := by exact fun _ => rfl
  credits : ∀ p : PlayerNo, (t.pages[p]'p.isLt).credits = (s.pages[p]'p.isLt).credits := by exact fun _ => rfl
  coils : ∀ c : CoilNo, (s.coils[c]'c.isLt).live.state ≠ .waiting ∨ (s.coils[c]'c.isLt).live.cls ≠ some .search →
    (t.coils[c]'c.isLt) = (s.coils[c]'c.isLt) := by exact fun _ _ => rfl
  pending : ∀ k : Notice, k.ofPlay = false → t.isPending k = s.isPending k := by exact fun _ _ => rfl

theorem Closing.refl (s : State) : Closing s s :=
  ⟨rfl, rfl, rfl, rfl, rfl, rfl, rfl, rfl, rfl, rfl, rfl, rfl, rfl, rfl, rfl, rfl, fun _ => rfl, fun _ => rfl,
    fun _ => rfl, fun _ => rfl, fun _ _ => rfl, fun _ _ => rfl⟩

theorem Closing.trans {s t u : State} (h : Closing s t) (g : Closing t u) : Closing s u where
  kept := g.kept.trans h.kept
  devices := g.devices.trans h.devices
  slots := g.slots.trans h.slots
  groupA := g.groupA.trans h.groupA
  groupB := g.groupB.trans h.groupB
  session := g.session.trans h.session
  decisions := g.decisions.trans h.decisions
  awardHits := g.awardHits.trans h.awardHits
  pfMult := g.pfMult.trans h.pfMult
  pfTimer := g.pfTimer.trans h.pfTimer
  installed := g.installed.trans h.installed
  live := g.live.trans h.live
  missing := g.missing.trans h.missing
  flights := g.flights.trans h.flights
  serveLaunch := g.serveLaunch.trans h.serveLaunch
  savesUsed := g.savesUsed.trans h.savesUsed
  score p := (g.score p).trans (h.score p)
  rollover p := (g.rollover p).trans (h.rollover p)
  lit p := (g.lit p).trans (h.lit p)
  credits p := (g.credits p).trans (h.credits p)
  coils c hc := (g.coils c (by rw [h.coils c hc]; exact hc)).trans (h.coils c hc)
  pending k hk := (g.pending k hk).trans (h.pending k hk)

theorem Closing.after_ite {s t : State} {f : State → State} (c : Prop) [Decidable c] (hf : ∀ s, Closing s (f s))
    (h : Closing s t) : Closing s (if c then f t else t) := by
  split
  · exact h.trans (hf t)
  · exact h

/-- A write of the accounting record that leaves the counts. -/
theorem Closing.modAcct (s : State) (f : Accounting → Accounting) (h1 : (f s.acct).installed = s.acct.installed)
    (h2 : (f s.acct).live = s.acct.live) (h3 : (f s.acct).missing = s.acct.missing)
    (h4 : (f s.acct).flights = s.acct.flights) (h5 : (f s.acct).serveLaunch = s.acct.serveLaunch)
    (h6 : (f s.acct).savesUsed = s.acct.savesUsed) : Closing s (s.modAcct f) :=
  { installed := h1, live := h2, missing := h3, flights := h4, serveLaunch := h5, savesUsed := h6 }

theorem Closing.raise (s : State) {k : Notice} (hk : k.ofPlay = true) : Closing s (s.raise k) where
  pending j hj := by
    rw [isPending_raise]
    have hne : j ≠ k := by
      rintro rfl
      exact absurd (hj.symm.trans hk) (by simp)
    simp [hne]

theorem endSearch_closing (s : State) : Closing s (endSearch s) := by
  simp only [endSearch]
  split
  · exact .refl s
  · obtain ⟨v, hv⟩ := withdrawWaiting_frame [.search] s
    have hw : Closing s (withdrawWaiting [.search] s) := by
      have hget : ∀ c : CoilNo, (s.coils[c]'c.isLt).live.state ≠ .waiting ∨ (s.coils[c]'c.isLt).live.cls ≠ some .search →
          (withdrawWaiting [.search] s).coils[c] = (s.coils[c]'c.isLt) := fun c hc =>
        withdrawWaiting_get (by simpa using hc)
      rw [hv] at hget ⊢
      exact { coils := hget }
    generalize withdrawWaiting [.search] s = t at hw ⊢
    exact hw.trans (.trans (.modAcct t _ rfl rfl rfl rfl rfl rfl) (.modAcct _ _ rfl rfl rfl rfl rfl rfl))

theorem holdTimers_closing (s : State) : Closing s (holdTimers s) where
  score p := by simp [holdTimers]
  rollover p := by simp [holdTimers]
  lit p := by simp [holdTimers]
  credits p := by simp [holdTimers]

/-- A page whose scores and locks stay. -/
theorem Closing.modPage (s : State) (p : PlayerNo) (f : Page → Page) (h1 : ∀ g, (f g).score = g.score)
    (h2 : ∀ g, (f g).rollover = g.rollover) (h3 : ∀ g, (f g).lit = g.lit) (h4 : ∀ g, (f g).credits = g.credits) :
    Closing s (s.modPage p f) := by
  have hget (q : PlayerNo) : (s.modPage p f).pages[q] = if q = p then f (s.pages[p]'p.isLt) else (s.pages[q]'q.isLt) :=
    State.modPage_get s p q f
  refine { score := fun q => ?_, rollover := fun q => ?_, lit := fun q => ?_, credits := fun q => ?_ }
  all_goals
    rw [hget]
    split
    · next h => subst h; simp only [h1, h2, h3, h4]
    · rfl

theorem setStack_closing (p : PlayerNo) (stack : List Context) (s : State) : Closing s (setStack p stack s) :=
  (Closing.modPage s p (fun g => { g with stack := stack }) (fun _ => rfl) (fun _ => rfl) (fun _ => rfl)
    (fun _ => rfl)).trans (holdTimers_closing _)

theorem endContext_closing (p : PlayerNo) (id : Nat) (r : EndReason) (s : State) : Closing s (endContext p id r s) := by
  unfold endContext
  split
  · exact .refl s
  · next c _ _ =>
    exact ((setStack_closing p _ s).trans (.modPage _ p (fun g => { g with last := { id := id, reason := r, total := c.total } })
      (fun _ => rfl) (fun _ => rfl) (fun _ => rfl) (fun _ => rfl))).trans (.raise _ rfl)

theorem Closing.foldl {α : Type} (f : State → α → State) (hf : ∀ s a, Closing s (f s a)) (l : List α) (s : State) :
    Closing s (l.foldl f s) := by
  induction l generalizing s with
  | nil => exact .refl s
  | cons a l ih => exact (hf s a).trans (ih _)

theorem endMarked_closing (test : Context → Bool) (r : EndReason) (s : State) : Closing s (endMarked test r s) :=
  .foldl _ (fun s id => endContext_closing _ id r s) _ s

theorem endPlay_closing (s : State) : Closing s (endPlay s) :=
  (((((Closing.modAcct s (fun a => { a with phase := .ended }) rfl rfl rfl rfl rfl rfl).trans (.raise _ rfl)).trans
    (.modAcct _ (fun a => { a with saveState := .off, saveTimer := .stopped }) rfl rfl rfl rfl rfl rfl)).trans
    (endSearch_closing _)).trans (.modAcct _ (fun a => { a with idleTimer := a.idleTimer.halt }) rfl rfl rfl rfl rfl rfl)).trans
    (endMarked_closing _ _ _)

theorem setPhase_closing (p : PlayPhase) (s : State) : Closing s (setPhase p s) := .modAcct s _ rfl rfl rfl rfl rfl rfl

theorem formPlay_closing (s : State) : Closing s (formPlay s) := by
  have hform : Closing s (s.modAcct fun a => { a with inPlay := s.ballsInPlay }) := .modAcct s _ rfl rfl rfl rfl rfl rfl
  simp only [formPlay]
  split
  · refine .after_ite _ endPlay_closing ?_
    split
    · split
      · exact hform
      · exact (hform.trans (.modAcct _ _ rfl rfl rfl rfl rfl rfl)).trans (.raise _ rfl)
    · split
      · exact (hform.trans (.modAcct _ _ rfl rfl rfl rfl rfl rfl)).trans (.raise _ rfl)
      · exact hform
  · exact .after_ite _ (setPhase_closing .noPlay) hform
  · exact .after_ite _ (setPhase_closing .noPlay) hform
  · exact hform

theorem loadIdle_closing (s : State) : Closing s (loadIdle s) := .modAcct s _ rfl rfl rfl rfl rfl rfl

theorem closeEvent_closing (before s : State) : Closing s (closeEvent before s) := by
  simp only [closeEvent]
  exact ((Closing.after_ite _ loadIdle_closing (.after_ite _ endSearch_closing (.refl s))).trans
    (formPlay_closing _)).trans (holdTimers_closing _)

/-! ### Balls in play (R71) -/

theorem Closing.ballsInPlay {s t : State} (h : Closing s t) : t.ballsInPlay = s.ballsInPlay := by
  simp only [State.ballsInPlay, h.devices, h.live, h.missing, h.flights]

theorem Closing.balls {s t : State} (h : Closing s t) : t.balls = s.balls := by
  simp only [State.balls, State.occupancies, h.devices, h.live, h.missing, h.flights]

theorem Closing.conserved {s t : State} (h : Closing s t) : t.Conserved ↔ s.Conserved := by
  rw [State.Conserved, State.Conserved, h.balls, h.installed]

end Sys2Proof.Machine

/-! Balls in flight (R63 to R67) and ball save (R77 to R79). -/

namespace Sys2Proof.Machine

/-! ### The oldest record a test names -/

theorem oldestAt_append {test : FlightRec → Bool} {older younger : List FlightRec} {r : FlightRec}
    (hr : test r = true) (ho : ∀ x ∈ older, test x = false) :
    oldestAt test (older ++ r :: younger) = some older.length := by
  rw [oldestAt, List.findIdx?_append, List.findIdx?_eq_none_iff.mpr ho, List.findIdx?_cons, if_pos hr]
  simp

theorem oldestAt_none {test : FlightRec → Bool} {fs : List FlightRec} (h : ∀ x ∈ fs, test x = false) :
    oldestAt test fs = none := List.findIdx?_eq_none_iff.mpr h

/-- The list without the record between its older and its younger ones. -/
theorem removeFlight_append {older younger : List FlightRec} {r : FlightRec} {s : State}
    (h : s.acct.flights = older ++ r :: younger) :
    removeFlight older.length s = { s with acct := { s.acct with flights := older ++ younger } } := by
  simp [removeFlight, State.modAcct, h, List.eraseIdx_append_of_length_le]

theorem targets_iff (d : DevNo) (x : FlightRec) : (x.target == .device d) = false ↔ x.target ≠ .device d := by simp

theorem toPlayfield_iff (x : FlightRec) : x.toPlayfield = false ↔ x.target ≠ .playfield := by
  simp [FlightRec.toPlayfield]

/-! ### Attribution, place by place (R66, R67) -/

/-- An entry that is no fallback is supplied from place `x`, which leaves the state `t`. -/
def SuppliedFrom (s : State) (d : DevNo) (own : Nat) (x : Supply) (t : State) : Prop :=
  ∃ left : Nat, supplyEntry d false own s = (t, left, x)

section
variable {s : State} {d : DevNo} {own : Nat} {older younger : List FlightRec} {r : FlightRec}

theorem suppliedFrom_targeted (hf : s.acct.flights = older ++ r :: younger) (hr : r.target = .device d)
    (ho : ∀ x ∈ older, x.target ≠ .device d) :
    SuppliedFrom s d own .targeted { s with acct := { s.acct with flights := older ++ younger } } := by
  have hold := oldestAt_append (test := fun x => x.target == .device d) (younger := younger) (by simpa using hr)
    (fun x hx => (targets_iff d x).mpr (ho x hx))
  rw [← hf] at hold
  refine ⟨if s.acct.flights.length ≤ older.length + own then own - 1 else own, ?_⟩
  simp only [supplyEntry, Bool.false_eq_true, if_false, hold, takeFlight, removeFlight_append hf]

/-- No record is bound for the device. -/
theorem oldestAt_device_none (h : ∀ x ∈ s.acct.flights, x.target ≠ .device d) :
    oldestAt (fun x => x.target == .device d) s.acct.flights = none :=
  oldestAt_none fun x hx => (targets_iff d x).mpr (h x hx)

theorem suppliedFrom_live (h : ∀ x ∈ s.acct.flights, x.target ≠ .device d) (hl : 1 ≤ s.acct.live) :
    SuppliedFrom s d own .live { s with acct := { s.acct with live := s.acct.live - 1 } } := by
  refine ⟨own, ?_⟩
  simp only [supplyEntry, Bool.false_eq_true, if_false, oldestAt_device_none h, if_pos hl]
  rfl

theorem suppliedFrom_playfield (h : ∀ x ∈ s.acct.flights, x.target ≠ .device d) (hl : s.acct.live = 0)
    (hf : s.acct.flights = older ++ r :: younger) (hr : r.target = .playfield)
    (ho : ∀ x ∈ older, x.target ≠ .playfield) :
    SuppliedFrom s d own .playfield { s with acct := { s.acct with flights := older ++ younger } } := by
  have hold := oldestAt_append (test := FlightRec.toPlayfield) (younger := younger)
    (by simpa [FlightRec.toPlayfield] using hr) (fun x hx => (toPlayfield_iff x).mpr (ho x hx))
  rw [← hf] at hold
  refine ⟨if s.acct.flights.length ≤ older.length + own then own - 1 else own, ?_⟩
  simp only [supplyEntry, Bool.false_eq_true, if_false, oldestAt_device_none h, if_neg (show ¬ 1 ≤ s.acct.live by omega),
    hold, takeFlight, removeFlight_append hf]

/-- No record is bound for the playfield. -/
theorem oldestAt_playfield_none (h : ∀ x ∈ s.acct.flights, x.target ≠ .playfield) :
    oldestAt FlightRec.toPlayfield s.acct.flights = none :=
  oldestAt_none fun x hx => (toPlayfield_iff x).mpr (h x hx)

variable (h : ∀ x ∈ s.acct.flights, x.target ≠ .device d) (hl : s.acct.live = 0)
  (hp : ∀ x ∈ s.acct.flights, x.target ≠ .playfield)
include h hl hp

/-- With no record to take and no ball live, the missing count, the evaluation's own records and a new ball are left. -/
theorem supplyEntry_last : supplyEntry d false own s =
    if 1 ≤ s.acct.missing then
      ((s.modAcct fun a => { a with missing := a.missing - 1 }).raise .ballFound, own, .missing)
    else if 1 ≤ own then (removeFlight (s.acct.flights.length - 1) s, own - 1, .ownExit)
    else if s.acct.installed < Config.maxInstalled then
      ((s.modAcct fun a => { a with installed := a.installed + 1 }).raise .extraBall, own, .newBall)
    else (s, own, .unattributed) := by
  simp only [supplyEntry, Bool.false_eq_true, if_false, oldestAt_device_none h, if_neg (show ¬ 1 ≤ s.acct.live by omega),
    oldestAt_playfield_none hp]

theorem suppliedFrom_missing (hm : 1 ≤ s.acct.missing) : SuppliedFrom s d own .missing
    ({ s with acct := { s.acct with missing := s.acct.missing - 1 } }.raise .ballFound) :=
  ⟨own, (supplyEntry_last h hl hp).trans (if_pos hm)⟩

theorem suppliedFrom_ownExit (hm : s.acct.missing = 0) (ho : 1 ≤ own) : SuppliedFrom s d own .ownExit
    { s with acct := { s.acct with flights := s.acct.flights.dropLast } } := by
  refine ⟨own - 1, ?_⟩
  rw [supplyEntry_last h hl hp, if_neg (by omega), if_pos ho, removeFlight, State.modAcct,
    List.eraseIdx_length_sub_one]

theorem suppliedFrom_newBall (hm : s.acct.missing = 0) (ho : own = 0) (hi : s.acct.installed < 16) :
    SuppliedFrom s d own .newBall
      ({ s with acct := { s.acct with installed := s.acct.installed + 1 } }.raise .extraBall) := by
  refine ⟨own, ?_⟩
  rw [supplyEntry_last h hl hp, if_neg (by omega), if_neg (by omega), if_pos (show s.acct.installed < Config.maxInstalled from hi)]
  rfl

theorem suppliedFrom_nowhere (hm : s.acct.missing = 0) (ho : own = 0) (hi : 16 ≤ s.acct.installed) :
    SuppliedFrom s d own .unattributed s := by
  refine ⟨own, ?_⟩
  rw [supplyEntry_last h hl hp, if_neg (by omega), if_neg (by omega),
    if_neg (show ¬ s.acct.installed < Config.maxInstalled from Nat.not_lt.mpr hi)]

end

/-- Settles O22: each place has its lemma, under the condition that no place before it can supply the entry. -/
theorem attributionFollowsTheOrder : Obligations.AttributionFollowsTheOrder := by
  unfold Obligations.AttributionFollowsTheOrder
  intro s d own
  rcases hx : supplyEntry d false own s with ⟨t, left, supply⟩
  have hread {x : Supply} {u : State} : SuppliedFrom s d own x u → supply = x ∧ t = u := by
    rintro ⟨left', he⟩
    obtain ⟨ht, -, hs⟩ : t = u ∧ left = left' ∧ supply = x := by simpa using hx.symm.trans he
    exact ⟨hs, ht⟩
  refine ⟨fun older younger r hf hr ho => hread (suppliedFrom_targeted hf hr ho), fun h => ⟨fun hl =>
    hread (suppliedFrom_live h hl), fun hl => ⟨fun older younger r hf hr ho =>
      hread (suppliedFrom_playfield h hl hf hr ho), fun hp => ⟨fun hm => hread (suppliedFrom_missing h hl hp hm),
        fun hm ho => hread (suppliedFrom_ownExit h hl hp hm ho),
        fun hm ho hi => hread (suppliedFrom_newBall h hl hp hm ho hi),
        fun hm ho hi => hread (suppliedFrom_nowhere h hl hp hm ho hi)⟩⟩⟩⟩

/-! ### Flights that expire, and playfield activity (R64, R65) -/

theorem takeFlightExpiry_of_due {older younger : List FlightRec} {r : FlightRec} {s : State}
    (hf : s.acct.flights = older ++ r :: younger) (hr : r.due = true) :
    takeFlightExpiry older.length s = event (expireFlight older.length r) s := by
  have hget : s.acct.flights[older.length]? = some r := by simp [hf]
  simp only [takeFlightExpiry, hget, if_pos hr]

/-- An edge of a switch that no device names reaches no device. -/
theorem deviceEdges_of_unnamed {n : SwitchNo} (dir : Direction) {s : State}
    (h : ∀ d : DevNo, n ∉ (s.devices[d]'d.isLt).cfg.positions ∧ (s.devices[d]'d.isLt).cfg.entry ≠ some n) :
    deviceEdges n dir s = s := by
  unfold deviceEdges
  have hstep : ∀ d : DevNo, deviceEdge n dir d s = s := fun d => by
    have he : decide ((s.devices[d]'d.isLt).cfg.entry = some n ∧ dir = .closing) = false :=
      decide_eq_false fun g => (h d).2 g.1
    have hp : (s.devices[d]'d.isLt).cfg.positions.contains n = false := by simpa using (h d).1
    simp only [deviceEdge, he, hp, Bool.or_false, Bool.false_eq_true, if_false, ite_self]
  generalize indices 8 = l
  induction l with
  | nil => rfl
  | cons d l ih => rw [List.foldl_cons, hstep, ih]

theorem endSearch_idle (s : State) : (endSearch s).acct.search = .idle := by
  obtain ⟨v, a, h, hi, -⟩ := endSearch_frame s
  rw [h]
  exact hi

theorem endMarked_acct_search (test : Context → Bool) (r : EndReason) (s : State) :
    (endMarked test r s).acct.search = s.acct.search := by
  unfold endMarked
  refine List.foldlRecOn _ _ (motive := fun t : State => t.acct.search = s.acct.search) rfl fun t ht id _ => ?_
  rw [← ht]
  unfold endContext
  split <;> rfl

/-- The close of an event starts no search. -/
theorem closeEvent_search_idle (before : State) {s : State} (h : s.acct.search = .idle) :
    (closeEvent before s).acct.search = .idle := by
  have hform : ∀ u : State, u.acct.search = .idle → (formPlay u).acct.search = .idle := fun u hu => by
    have hend : ∀ v : State, (endPlay v).acct.search = .idle := fun v => by
      rw [endPlay, endOnDrain, endMarked_acct_search]
      exact endSearch_idle _
    simp only [formPlay]
    split
    · split
      · exact hend _
      · split <;> split <;> exact hu
    all_goals first | exact hu | (split <;> exact hu)
  simp only [closeEvent]
  refine hform _ ?_
  have hload : ∀ (c : Prop) [Decidable c] (u : State), u.acct.search = .idle →
      (if c then loadIdle u else u).acct.search = .idle := fun c _ u hu => by split <;> exact hu
  refine hload _ _ ?_
  split
  · exact endSearch_idle s
  · exact h

/-- An edge of a PLAYFIELD switch that no device names and whose selection passes nothing is playfield activity alone. -/
theorem deliverEdge_playfield {n : SwitchNo} (dir : Direction) {s : State} (hc : (s.switches[n]'n.isLt).cls = .playfield)
    (hs : (s.switches[n]'n.isLt).selection = .none)
    (h : ∀ d : DevNo, n ∉ (s.devices[d]'d.isLt).cfg.positions ∧ (s.devices[d]'d.isLt).cfg.entry ≠ some n) :
    deliverEdge (n, dir) s = playfieldActivity s := by
  simp only [deliverEdge, hc, hs, deviceEdges_of_unnamed dir h, EdgeSelection.passes, reduceCtorEq, false_and, if_false,
    if_true, Bool.false_eq_true]

/-- What a playfield activity does to the counts, besides its close: `confirmBall`. -/
theorem playfieldActivity_closing (s : State) : Closing (confirmBall s) (playfieldActivity s) :=
  ((endSearch_closing _).trans (loadIdle_closing _)).trans (closeEvent_closing s _)

theorem confirmBall_devices (s : State) : (confirmBall s).devices = s.devices ∧
    (confirmBall s).acct.installed = s.acct.installed := by
  unfold confirmBall
  split
  · exact ⟨rfl, rfl⟩
  · split <;> exact ⟨rfl, rfl⟩

theorem confirmBall_of_flight {older younger : List FlightRec} {r : FlightRec} {s : State}
    (hf : s.acct.flights = older ++ r :: younger) (hr : r.target = .playfield)
    (ho : ∀ x ∈ older, x.target ≠ .playfield) :
    confirmBall s = { s with acct := { s.acct with flights := older ++ younger, live := s.acct.live + 1 } } := by
  have hold := oldestAt_append (test := FlightRec.toPlayfield) (younger := younger)
    (by simpa [FlightRec.toPlayfield] using hr) (fun x hx => (toPlayfield_iff x).mpr (ho x hx))
  rw [← hf] at hold
  simp only [confirmBall, hold, removeFlight_append hf]
  rfl

theorem confirmBall_of_none {s : State} (h : ∀ x ∈ s.acct.flights, x.target ≠ .playfield) :
    confirmBall s = if 1 ≤ s.acct.missing then
      (s.modAcct fun a => { a with missing := a.missing - 1, live := a.live + 1 }).raise .ballFound else s := by
  simp only [confirmBall, oldestAt_playfield_none h]

/-- Settles O21: the change of either event, and `Closing` for what its close leaves of it. -/
theorem ballsInFlightSettle : Obligations.BallsInFlightSettle := by
  unfold Obligations.BallsInFlightSettle
  refine ⟨fun s older younger r hf hr => ?_, fun s n dir hc hs hn => ?_⟩
  · refine ⟨_, congrArg Host.Outcome.next (takeFlightExpiry_of_due hf hr), ?_⟩
    have hclose := closeEvent_closing s (expireFlight older.length r s)
    change Closing _ (event (expireFlight older.length r) s) at hclose
    have hremoved := removeFlight_append hf
    have hexpire : expireFlight older.length r s = match r.target with
        | .playfield => (removeFlight older.length s).modAcct fun a => { a with live := a.live + 1 }
        | .device _ =>
          ((removeFlight older.length s).modAcct fun a => { a with missing := a.missing + 1 }).raise .ballMissing := rfl
    rw [hremoved] at hexpire
    refine ⟨hclose.flights.trans ?_, hclose.installed.trans ?_, hclose.devices.trans ?_, fun ht => ?_, fun d ht => ?_⟩
    · rw [hexpire]; cases r.target <;> rfl
    · rw [hexpire]; cases r.target <;> rfl
    · rw [hexpire]; cases r.target <;> rfl
    · rw [hclose.live, hclose.missing, hclose.pending .ballMissing rfl, hexpire, ht]
      exact ⟨rfl, rfl, rfl⟩
    · rw [hclose.live, hclose.missing, hclose.pending .ballMissing rfl, hexpire, ht]
      exact ⟨rfl, rfl, by simp [isPending_raise]⟩
  · rw [deliverEdge_playfield dir hc hs hn]
    have hclose := playfieldActivity_closing s
    have hframe := confirmBall_devices s
    refine ⟨hclose.devices.trans hframe.1, hclose.installed.trans hframe.2, closeEvent_search_idle s (endSearch_idle _),
      fun older younger r hf hr ho => ?_, fun hp hm => ?_, fun hp hm => ?_⟩
    · rw [hclose.flights, hclose.live, hclose.missing, confirmBall_of_flight hf hr ho]
      exact ⟨rfl, rfl, rfl⟩
    · rw [hclose.flights, hclose.live, hclose.missing, hclose.pending .ballFound rfl, confirmBall_of_none hp, if_pos hm]
      exact ⟨rfl, rfl, rfl, by simp [isPending_raise]⟩
    · rw [hclose.flights, hclose.live, hclose.missing, confirmBall_of_none hp, if_neg (by omega)]
      exact ⟨rfl, rfl, hm⟩

/-! ### Ball save (R77 to R79) -/

theorem addOwedCount_eq {d : DevNo} {s : State} (h : (s.devices[d]'d.isLt).live.state ≠ .disabled) :
    addOwedCount d s = s.modLive d fun l => { l with owed := min 8 (l.owed + 1) } := by
  rw [addOwedCount, State.modLive, State.modDevice, if_neg h]
  rfl

theorem State.savesDrain_iff (s : State) : s.savesDrain = true ↔
    s.acct.phase = .play ∧ s.acct.saveState ≠ .off ∧ s.session.tilt ≠ .tilted ∧
      (s.options.saveLimit = 0 ∨ s.acct.savesUsed < s.options.saveLimit) := by
  simp [State.savesDrain, State.isTilted, and_assoc]

/-- Settles O24. -/
theorem ballSaveOutcome : Obligations.BallSaveOutcome := by
  unfold Obligations.BallSaveOutcome
  refine ⟨fun s hr hd => ⟨fun ha hg => ?_, fun h => ?_⟩, fun s t1 t0 h => ⟨fun hp => ?_, fun hp => ?_⟩,
    fun s => ⟨fun hsave hdis => ?_, fun hsave => ?_⟩⟩
  · refine congrArg Host.Outcome.next ((if_pos ⟨hr, hd⟩).trans ?_)
    simp only [ha, if_neg hg]
    rfl
  · refine congrArg Host.Outcome.next ((if_pos ⟨hr, hd⟩).trans ?_)
    obtain ha | ⟨ha, hg⟩ := h
    · simp only [ha]
      rfl
    · simp only [ha, if_pos hg]
      rfl
  · exact request_refused (run := setBallSave) h rfl (if_pos hp)
  · by_cases hw : word16 t1 t0 = 0
    · refine request_done (run := setBallSave) h rfl
        ((if_neg (not_not_intro hp)).trans (if_pos hw)) ?_
      have hz : t1.toNat * 256 + t0.toNat = 0 := hw
      simp only [if_pos hz]
      rfl
    · refine request_done (run := setBallSave) h rfl
        ((if_neg (not_not_intro hp)).trans (if_neg hw)) ?_
      have hz : ¬ t1.toNat * 256 + t0.toNat = 0 := hw
      simp only [if_neg hz]
      rfl
  · rw [drain, if_pos (s.savesDrain_iff.mpr hsave), addOwedCount_eq hdis]
    rfl
  · rw [drain, if_neg fun g => hsave (s.savesDrain_iff.mp g)]

end Sys2Proof.Machine

/-! The requests of the score arithmetic unit and the template requests (R135 to R138, R141). -/

namespace Sys2Proof.Machine

/-! ### Changes that do not see the link -/

/-- The state at an execution's start with the reply in preparation: the link after the request. -/
theorem prepare_begun {t : State} {s : State} (n : Nat) (r : Reply) (h : t.link = s.link) :
    prepare r (t.begun n) = { t with link := s.link.after n r } := by
  rw [← h]
  rfl

theorem State.isOpen_of_opened {s : State} (h : s.session.state = .opened) : s.isOpen = true := by
  simp [State.isOpen, h]

theorem State.isOpen_of_closed {s : State} (h : s.session.state = .closed) : s.isOpen = false := by
  simp [State.isOpen, h]

/-! ### ADD_POINTS (R136, R137) -/

theorem addScore_begun (p : PlayerNo) (v : Nat) (s : State) (n : Nat) :
    addScore p v (s.begun n) = ((addScore p v s).1.begun n, (addScore p v s).2) := by
  obtain ⟨hle, he⟩ | ⟨hlt, hsat, he⟩ | ⟨hlt, hroll, hr, he⟩ := addScore_cases p v s
  · rw [he, addScore_of_fits (s := s.begun n) hle]
    rfl
  · rw [he, addScore_of_saturates (s := s.begun n) hlt hsat]
    rfl
  · rw [he, addScore_of_rolls (s := s.begun n) hlt hroll hr]
    rfl

@[simp] theorem addScore_link (p : PlayerNo) (v : Nat) (s : State) : (addScore p v s).1.link = s.link :=
  congrArg Kept.link (addScore_kept p v s)

theorem exactProduct_eq (f : Nat) (gs : List Context) (h : Nat) :
    exactProduct f gs h = f * (gs.map fun c => c.tpl.multiplier).prod * h := by
  rw [exactProduct, List.prod_eq_foldl]

/-- ADD_POINTS with digits: the player, the flag, the session and the player count are checked in this order. -/
theorem addPoints_accepted {p : PlayerNo} {v3 v2 v1 v0 : Byte} {multiplied : Bool} {s : State}
    (hv : bcdValid [v3, v2, v1, v0] = true) (ho : s.session.state = .opened) (hp : p.val < s.session.players) :
    addPoints [byte p.val, v3, v2, v1, v0, flagByte multiplied] s =
      ok (addScore p (bcdValue [v3, v2, v1, v0] * if multiplied then s.product none else 1) s).1
        ([nameByte ScoreResult.names
            (addScore p (bcdValue [v3, v2, v1, v0] * if multiplied then s.product none else 1) s).2,
          byte (if multiplied then s.product none else 1)] ++
          bcdBytes 5 (bcdValue [v3, v2, v1, v0] * if multiplied then s.product none else 1) ++
          bcdBytes 6 (addScore p (bcdValue [v3, v2, v1, v0] * if multiplied then s.product none else 1) s).1.pages[p].score ++
          [byte (addScore p (bcdValue [v3, v2, v1, v0] * if multiplied then s.product none else 1) s).1.pages[p].rollover]) := by
  simp only [addPoints, hv, indexOf_byte p, flagOf_flagByte, State.isOpen_of_opened ho, Nat.not_le.mpr hp, Bool.not_true,
    Bool.false_eq_true, if_false]

/-- ADD_POINTS refused while the session is CLOSED or for a player not in the game. -/
theorem addPoints_refusedState {p : PlayerNo} {v3 v2 v1 v0 : Byte} (multiplied : Bool) {s : State}
    (hv : bcdValid [v3, v2, v1, v0] = true) (hp : s.session.state = .closed ∨ s.session.players ≤ p.val) :
    addPoints [byte p.val, v3, v2, v1, v0, flagByte multiplied] s = refuse s .refusedState := by
  simp only [addPoints, hv, indexOf_byte p, flagOf_flagByte, Bool.not_true, Bool.false_eq_true, if_false]
  obtain hc | hp := hp
  · rw [State.isOpen_of_closed hc]
    rfl
  · rw [if_pos hp, ite_self]

/-- Settles O36. -/
theorem addPointsOutcome : Obligations.AddPointsOutcome := by
  unfold Obligations.AddPointsOutcome
  intro s value multiplied h hvalue
  obtain ⟨b3, b2, b1, b0, hbytes, hvalid, hval⟩ := bcdBytes_four hvalue
  rw [hbytes]
  refine ⟨fun p hp => ?_, fun p mu hmu => ?_, fun p mu v3 v2 v1 v0 hbad => ?_, fun p hp => ?_, fun p ho hp => ?_⟩
  · refine request_refused (run := addPoints) (body := [p, b3, b2, b1, b0, flagByte multiplied]) h rfl ?_
    simp [addPoints, hvalid, indexOf_none (show 4 ≤ p.toNat from hp)]
  · refine request_refused (run := addPoints) (body := [byte p.val, b3, b2, b1, b0, mu]) h rfl ?_
    simp [addPoints, hvalid, indexOf_byte p, flagOf_eq_none.mpr hmu]
  · refine request_refused (run := addPoints) h rfl ?_
    simp [addPoints, hbad]
  · exact request_refused (run := addPoints) (body := [byte p.val, b3, b2, b1, b0, flagByte multiplied]) h rfl
      (addPoints_refusedState multiplied hvalid hp)
  · intro gs m v t reply
    have hm : (if multiplied then (s.begun 6).product none else 1) = m := by
      refine if_congr Iff.rfl ?_ rfl
      rw [State.product, exactProduct_eq, scopedFactor, Nat.mul_one]
      rfl
    have hrun := addPoints_accepted (p := p) (multiplied := multiplied) (s := s.begun 6) hvalid ho hp
    rw [hm, hval, addScore_begun] at hrun
    exact request_done (run := addPoints) (body := [byte p.val, b3, b2, b1, b0, flagByte multiplied]) h rfl hrun
      (prepare_begun 6 _ (addScore_link p v s))

/-! ### SET_PF_MULT and READ_MULTIPLIER (R135, R138) -/

theorem eightPairs_map {α : Type} (f g : α → Byte) (l : List α) :
    eightPairs (l.map fun a => (f a, g a)) =
      l.flatMap (fun a => [f a, g a]) ++ List.replicate (2 * (8 - l.length)) 0 := by
  rw [eightPairs, List.length_map, List.flatMap_map]

theorem nameByte_multTimerState (s : State) : nameByte MultTimerState.names s.multTimerState =
    if s.pfTimer = 0 then 2 else if 1 ≤ s.acct.live ∧ s.session.tilt ≠ .tilted then 0 else 1 := by
  have hcounts : s.pfCounts = true ↔ 1 ≤ s.acct.live ∧ s.session.tilt ≠ .tilted := by
    simp [State.pfCounts, State.isTilted]
  unfold State.multTimerState
  by_cases h0 : s.pfTimer = 0
  · simp only [if_pos h0]
    rfl
  · by_cases hc : s.pfCounts = true
    · simp only [if_neg h0, if_pos hc, if_pos (hcounts.mp hc)]
      rfl
    · simp only [if_neg h0, if_neg hc, if_neg fun g => hc (hcounts.mpr g)]
      rfl

/-- Settles O37: the factor of a scope is `scopedFactor` of the RUNNING context of its id. -/
theorem playfieldMultiplierOutcome : Obligations.PlayfieldMultiplierOutcome := by
  unfold Obligations.PlayfieldMultiplierOutcome
  intro s v t1 t0 h
  refine ⟨fun hc => ?_, fun ho => ?_, fun hdue => ?_, fun scope hs => ?_, ?_⟩
  · refine request_refused (run := setPfMultRequest) h rfl ?_
    simp [setPfMultRequest, State.isOpen_of_closed hc]
  · refine request_done (run := setPfMultRequest) h rfl ?_ (prepare_begun (t := setPfMult _ (word16 t1 t0) s) 3 _ rfl)
    simp only [setPfMultRequest, State.begun_isOpen, State.isOpen_of_opened ho]
    rfl
  · exact congrArg Host.Outcome.next (if_pos hdue)
  · exact request_refused (run := readMultiplier) h rfl (if_pos hs)
  · intro gs scope hs hlen
    refine ⟨scopedFactor (if scope.toNat = 0 then none else runningContext s.page.stack scope.toNat), ?_, ?_, ?_⟩
    · intro c h0 hc hl
      have h0' : scope.toNat ≠ 0 := fun g => h0 (BitVec.eq_of_toNat_eq g)
      rw [if_neg h0', show runningContext s.page.stack scope.toNat = some c from hc, scopedFactor, if_pos hl]
    · intro hor
      split
      · rfl
      · next h0 =>
        have hno := hor.resolve_left fun g => h0 (by rw [g]; rfl)
        cases hc : runningContext s.page.stack scope.toNat with
        | none => rfl
        | some c => rw [scopedFactor, if_neg (hno c hc)]
    · refine request_answered (run := readMultiplier) h rfl ?_
      refine (if_neg (Nat.not_lt.mpr hs)).trans ?_
      simp only [ok, State.multiplierBody, eightPairs_map, nameByte_multTimerState, exactProduct_eq, State.product,
        List.append_assoc]
      rfl

/-! ### SET_TEMPLATE and READ_TEMPLATE (R141) -/

theorem bcdValid_append (a b : List Byte) : bcdValid (a ++ b) = (bcdValid a && bcdValid b) := List.all_append

/-- The fields of a body with 24 bytes of numbers. -/
theorem templateFields_eq (id st sc mult goal t1 t0 p1 p0 pct dr ti next : Byte) {digits : List Byte}
    (h : digits.length = 24) :
    templateFields ([id, st, sc, mult, goal, t1, t0] ++ digits ++ [p1, p0, pct, dr, ti, next]) =
      some { id := id, stacking := st, scope := sc, mult := mult, goal := goal, timer := word16 t1 t0,
             jackpots := digits.take 12, hurries := digits.drop 12, period := word16 p1 p0, pct := pct, onDrain := dr,
             onTilt := ti, next := next } := by
  have hdrop : (digits ++ [p1, p0, pct, dr, ti, next]).drop 24 = [p1, p0, pct, dr, ti, next] := by
    rw [← h, List.drop_left]
  have hhur : ((digits ++ [p1, p0, pct, dr, ti, next]).drop 12).take 12 = digits.drop 12 := by
    rw [List.drop_append_of_le_length (by omega), List.take_append_of_le_length (by simp [h]),
      List.take_of_length_le (by simp [h])]
  simp only [List.cons_append, List.nil_append, templateFields, hdrop, hhur]
  rw [List.take_append_of_le_length (by omega)]

theorem value4_append {a b c : List Byte} (ha : a.length = 4) (hb : b.length = 4) (hc : c.length = 4) :
    value4 (a ++ b ++ c) 0 = bcdValue a ∧ value4 (a ++ b ++ c) 1 = bcdValue b ∧ value4 (a ++ b ++ c) 2 = bcdValue c := by
  have ha8 : a.drop 8 = [] := List.drop_eq_nil_of_le (by omega)
  have hc4 : c.take 4 = c := List.take_of_length_le (by omega)
  simp [value4, List.drop_append, ha, hb, ha8, hc4]

theorem Stacking.mem_names (x : Stacking) : x ∈ Stacking.names := by cases x <;> decide
theorem Scope.mem_names (x : Scope) : x ∈ Scope.names := by cases x <;> decide

/-- SET_TEMPLATE with 24 bytes of numbers goes by the check of its fields. -/
theorem setTemplate_eq {body : List Byte} {f : TemplateFields} (h : templateFields body = some f) (s : State) :
    setTemplate body s = match f.check with
      | .ok => ok (putTemplate f.id.toNat f.template s) []
      | st => refuse s st := by
  cases hc : f.check <;> simp only [setTemplate, h, hc]

theorem setTemplate_refused {body : List Byte} {f : TemplateFields} {st : Status} (h : templateFields body = some f)
    (hst : st ≠ .ok) (hc : f.check = st) (s : State) : setTemplate body s = refuse s st := by
  rw [setTemplate_eq h, hc]
  cases st <;> first | rfl | exact absurd rfl hst

theorem setTemplate_accepted {body : List Byte} {f : TemplateFields} (h : templateFields body = some f)
    (hc : f.check = .ok) (s : State) : setTemplate body s = ok (putTemplate f.id.toNat f.template s) [] := by
  rw [setTemplate_eq h, hc]

theorem putTemplate_eq (k : Fin 63) (t : Template) (s : State) :
    putTemplate (byte (k.val + 1)).toNat t s = { s with templates := s.templates.set k (some t) } := by
  have hk : (byte (k.val + 1)).toNat = k.val + 1 := byte_toNat_of_lt (by omega)
  simp only [putTemplate, hk]
  exact dif_pos (by omega)

/-- The template of an id, by its place among the 63. -/
theorem State.template_byte (s : State) (k : Fin 63) : s.template (byte (k.val + 1)).toNat = (s.templates[k]'k.isLt) := by
  have hk : (byte (k.val + 1)).toNat = k.val + 1 := byte_toNat_of_lt (by omega)
  simp only [State.template, hk]
  exact dif_pos (by omega)

theorem State.template_none {s : State} {id : Byte} (h : id = 0 ∨ 63 < id.toNat) : s.template id.toNat = none := by
  refine dif_neg fun hid => ?_
  obtain rfl | h := h
  · exact absurd hid.1 (by decide)
  · omega

@[simp] theorem flagByte_beq_one (b : Bool) : (flagByte b == 1) = b := by cases b <;> decide

section
variable {f : TemplateFields}

theorem TemplateFields.check_badDigits (h : bcdValid (f.jackpots ++ f.hurries) = false) : f.check = .badValue := by
  rw [bcdValid_append] at h
  simp [TemplateFields.check, h]

variable (hd : bcdValid (f.jackpots ++ f.hurries) = true)
include hd

theorem TemplateFields.check_of_digits : f.check =
    if f.id = 0 ∨ 63 < f.id.toNat then .notFound
    else if 1 < f.stacking.toNat ∨ 1 < f.scope.toNat ∨ 1 < f.onDrain.toNat ∨ 1 < f.onTilt.toNat then .badValue
    else if 63 < f.next.toNat ∨ value4 f.jackpots 2 < value4 f.jackpots 0 ∨
        (0 < value4 f.hurries 0 ∧ value4 f.hurries 0 < value4 f.hurries 2) ∨ (0 < value4 f.hurries 0 ∧ f.period = 0) then
      .badValue
    else .ok := by
  rw [bcdValid_append] at hd
  have hnames : ((nameOf Stacking.names f.stacking).isNone = true ∨ (nameOf Scope.names f.scope).isNone = true) ↔
      1 < f.stacking.toNat ∨ 1 < f.scope.toNat := by
    simp only [Option.isNone_iff_eq_none, nameOf_eq_none]
    rfl
  have hflags : ((flagOf f.onDrain).isNone = true ∨ (flagOf f.onTilt).isNone = true) ↔
      1 < f.onDrain.toNat ∨ 1 < f.onTilt.toNat := by
    simp only [Option.isNone_iff_eq_none, flagOf_eq_none]
  simp only [TemplateFields.check, hd, Bool.not_true, Bool.false_eq_true, if_false, hnames, hflags, ← ite_or, or_assoc]

end

/-- Settles O38: `check_of_digits` gives the table in its order, `TemplateFields.template` what is stored. -/
theorem templateRequestsOutcome : Obligations.TemplateRequestsOutcome := by
  unfold Obligations.TemplateRequestsOutcome
  intro s stk scope mult goal t1 t0 p1 p0 pct next drain tilt base step top start fall floor h hbase hstep htop hstart
    hfall hfloor numbers send refusal st sc bad
  have hlen : numbers.length = 24 := by simp [numbers]
  have hvalid : bcdValid numbers = true := by simp [numbers, bcdValid_append, bcdValid_bcdBytes]
  have hval {v : Nat} (hv : v ≤ 99999999) : bcdValue (bcdBytes 4 v) = v :=
    (bcdValue_bcdBytes 4 v).trans (Nat.mod_eq_of_lt (Nat.lt_succ_of_le hv))
  have hsplit : numbers = (bcdBytes 4 base ++ bcdBytes 4 step ++ bcdBytes 4 top) ++
      (bcdBytes 4 start ++ bcdBytes 4 fall ++ bcdBytes 4 floor) := by
    simp only [numbers, List.append_assoc]
  have hjack : numbers.take 12 = bcdBytes 4 base ++ bcdBytes 4 step ++ bcdBytes 4 top := by
    rw [hsplit]
    exact List.take_left' (by simp)
  have hhur : numbers.drop 12 = bcdBytes 4 start ++ bcdBytes 4 fall ++ bcdBytes 4 floor := by
    rw [hsplit]
    exact List.drop_left' (by simp)
  obtain ⟨hj0, hj1, hj2⟩ := value4_append (bcdBytes_length 4 base) (bcdBytes_length 4 step) (bcdBytes_length 4 top)
  obtain ⟨hh0, hh1, hh2⟩ := value4_append (bcdBytes_length 4 start) (bcdBytes_length 4 fall) (bcdBytes_length 4 floor)
  rw [← hjack, hval] at hj0 hj1 hj2
  · rw [← hhur, hval] at hh0 hh1 hh2
    · have hfields (id x y dr ti : Byte) := templateFields_eq id x y mult goal t1 t0 p1 p0 pct dr ti next hlen
      have hdigits : bcdValid (numbers.take 12 ++ numbers.drop 12) = true := by rwa [List.take_append_drop]
      have hid (k : Fin 63) : (byte (k.val + 1)).toNat = k.val + 1 := byte_toNat_of_lt (by omega)
      have hidok (k : Fin 63) : ¬ (byte (k.val + 1) = 0 ∨ 63 < (byte (k.val + 1)).toNat) := by
        rw [hid, ← BitVec.toNat_inj, hid]
        simp only [BitVec.ofNat_eq_ofNat, BitVec.toNat_ofNat, Nat.zero_mod]
        omega
      have hname : ¬ (1 < st.toNat ∨ 1 < sc.toNat ∨ 1 < (flagByte drain).toNat ∨ 1 < (flagByte tilt).toNat) := by
        simp only [st, sc]
        cases stk <;> cases scope <;> cases drain <;> cases tilt <;> decide
      refine ⟨fun id x y hi => ?_, fun id x y dr ti digits hl hb => ?_, fun k x y dr ti hn => ?_, fun k hb => ?_,
        fun k hb => ?_, fun k t ht => ?_, fun id hi => ?_, fun k ht => ?_⟩
      · refine request_refused (run := setTemplate) h (by simp [hlen])
          (setTemplate_refused (hfields id x y _ _) (by simp) ?_ _)
        rw [TemplateFields.check_of_digits hdigits, if_pos hi]
      · refine request_refused (run := setTemplate) h (by simp [hl]) (setTemplate_refused
          (templateFields_eq id x y mult goal t1 t0 p1 p0 pct dr ti next hl) (by simp)
          (TemplateFields.check_badDigits ?_) _)
        rwa [List.take_append_drop]
      · refine request_refused (run := setTemplate) h (by simp [hlen])
          (setTemplate_refused (hfields _ x y dr ti) (by simp) ?_ _)
        rw [TemplateFields.check_of_digits hdigits, if_neg (hidok k), if_pos hn]
      · refine request_refused (run := setTemplate) h (by simp [hlen])
          (setTemplate_refused (hfields _ st sc _ _) (by simp) ?_ _)
        rw [TemplateFields.check_of_digits hdigits, if_neg (hidok k), if_neg hname]
        simp only [hj0, hj2, hh0, hh2]
        exact if_pos hb
      · have hname' := nameOf_nameByte (Stacking.mem_names stk)
        have hscope' := nameOf_nameByte (Scope.mem_names scope)
        refine request_done (run := setTemplate) h (by simp [hlen])
          (setTemplate_accepted (hfields _ st sc _ _) ?_ _) ?_
        · rw [TemplateFields.check_of_digits hdigits, if_neg (hidok k), if_neg hname]
          simp only [hj0, hj2, hh0, hh2]
          exact if_neg hb
        · rw [putTemplate_eq]
          simp only [TemplateFields.template, hj0, hj1, hj2, hh0, hh1, hh2, st, sc, hname', hscope', flagByte_beq_one,
            Option.getD_some]
          rfl
      · refine request_answered (run := readTemplate) h rfl ?_
        have hrun : (s.begun 1).template (byte (k.val + 1)).toNat = some t := ((s.begun 1).template_byte k).trans ht
        simp only [readTemplate, hrun]
        rw [hid]
        rfl
      · refine request_refused (run := readTemplate) h rfl ?_
        simp only [readTemplate, State.template_none hi]
      · refine request_refused (run := readTemplate) h rfl ?_
        have hrun : (s.begun 1).template (byte (k.val + 1)).toNat = none := ((s.begun 1).template_byte k).trans ht
        simp only [readTemplate, hrun]
    all_goals assumption
  all_goals assumption

end Sys2Proof.Machine

/-! Notices, the attention lines and the game options (R181 to R186), and sets of members as bytes (R189). -/

namespace Sys2Proof.Machine

/-! ### Sets as bytes -/

theorem byte_getLsbD (n : Nat) {j : Nat} (hj : j < 8) : (byte n).getLsbD j = n.testBit j := by
  rw [byte, BitVec.getLsbD_ofNat]
  simp [hj]

theorem setBytes_length (m n : Nat) : (setBytes m n).length = m := by simp [setBytes]

/-- Member `k` of a set stands at byte k / 8, bit k % 8. -/
theorem setBytes_bit {m k : Nat} (n : Nat) (hk : k < 8 * m) :
    ((setBytes m n).getD (k / 8) 0).getLsbD (k % 8) = n.testBit k := by
  have hi : k / 8 < m := by omega
  have hbyte : (setBytes m n).getD (k / 8) 0 = byte (n / 256 ^ (k / 8)) := by
    rw [setBytes, List.getD_eq_getElem _ _ (by simpa using hi)]
    simp
  rw [hbyte, byte_getLsbD _ (Nat.mod_lt k (by decide)), show 256 = 2 ^ 8 from rfl, ← Nat.pow_mul,
    Nat.testBit_div_two_pow]
  congr 1
  omega

/-- The bit that bytes carry for member `k`. -/
theorem setValue_testBit (bs : List Byte) (k : Nat) :
    (setValue bs).testBit k = (bs.getD (k / 8) 0).getLsbD (k % 8) := by
  induction bs generalizing k with
  | nil => simp [setValue]
  | cons b bs ih =>
    have hstep : setValue (b :: bs) = 2 ^ 8 * setValue bs + b.toNat := rfl
    rw [hstep, Nat.testBit_two_pow_mul_add _ b.isLt]
    split
    · next h =>
      rw [Nat.div_eq_of_lt h, Nat.mod_eq_of_lt h]
      rfl
    · next h =>
      obtain ⟨j, rfl⟩ : ∃ j, k = j + 8 := ⟨k - 8, by omega⟩
      rw [Nat.add_sub_cancel, ih, Nat.add_div_right _ (by decide), Nat.add_mod_right, List.getD_cons_succ]

theorem noticeSet_getElem (bs : List Byte) (k : Fin 22) :
    (noticeSet bs)[k] = (bs.getD (k.val / 8) 0).getLsbD (k.val % 8) := by
  rw [← setValue_testBit]
  exact (BitVec.getLsbD_ofNat ..).trans (by simp [k.isLt])

/-- The three bytes of a notice set show each member. -/
theorem noticeBytes_bit (b : BitVec 22) (k : Fin 22) :
    ((setBytes 3 b.toNat).getD (k.val / 8) 0).getLsbD (k.val % 8) = b[k] := by
  rw [setBytes_bit b.toNat (by omega)]
  rfl

/-! ### The attention lines (R181) -/

theorem ne_zero_iff_bit {w : Nat} (b : BitVec w) : (b != 0) = true ↔ ∃ k : Fin w, b[k] = true := by
  rw [bne_iff_ne]
  constructor
  · intro h
    by_contra hn
    refine h (BitVec.eq_of_getElem_eq fun k hk => ?_)
    refine Eq.trans ?_ (BitVec.getLsbD_zero (i := k)).symm
    exact Bool.eq_false_iff.mpr fun g => hn ⟨⟨k, hk⟩, g⟩
  · rintro ⟨k, hk⟩ rfl
    simp at hk

theorem attnA_iff (n : Notices) :
    n.attnA = true ↔ ∃ k : Fin 22, n.pending[k] = true ∧ n.enable[k] = true ∧ n.route[k] = false := by
  rw [Notices.attnA, ne_zero_iff_bit]
  simp [and_assoc]

theorem attnB_iff (n : Notices) :
    n.attnB = true ↔ ∃ k : Fin 22, n.pending[k] = true ∧ n.enable[k] = true ∧ n.route[k] = true := by
  rw [Notices.attnB, ne_zero_iff_bit]
  simp [and_assoc]

theorem setOfFlags_pair (a b : Bool) : setOfFlags [a, b] = (if a then 1 else 0) + if b then 2 else 0 := by
  cases a <;> cases b <;> rfl

/-! ### The game options (R186) -/

theorem nameOf_arbitration {b : Byte} (h : b.toNat ≤ 1) :
    nameOf Arbitration.names b = some (if b = 0 then .fixed else .rotate) := by
  obtain rfl | rfl : b = 0 ∨ b = 1 := by bv_omega
  · rfl
  · rfl

theorem nameOf_scorePolicy {b : Byte} (h : b.toNat ≤ 1) :
    nameOf ScorePolicy.names b = some (if b = 0 then .saturate else .roll) := by
  obtain rfl | rfl : b = 0 ∨ b = 1 := by bv_omega
  · rfl
  · rfl

/-- The record an accepted SET_GAME_OPTIONS stores, with the mode and the policy its bytes name (R186). -/
def storedOptions (a : Arbitration) (p : ScorePolicy) (ep sp dp gg p1 p0 m1 m0 gt sl sd ss rl si tl sw : Byte) :
    Options :=
  { arbitration := a, ejectPriority := min 15 ep.toNat, searchPriority := min 15 sp.toNat,
    directPriority := min 15 dp.toNat, groupGap := gg.toNat, pfMultTime := word16 p1 p0,
    multiballSave := word16 m1 m0, graceTime := gt.toNat, saveLimit := sl.toNat, searchDelay := max 10 sd.toNat,
    searchSpacing := max 1 ss.toNat, roundLimit := min 8 (max 1 rl.toNat), slowInterval := max 1 si.toNat,
    tiltLimit := min 9 (max 1 tl.toNat), swingWindow := sw.toNat, policy := p }

section
variable {ar po sl : Byte} (ep sp dp gg p1 p0 m1 m0 gt sd ss rl si tl sw : Byte)

theorem optionsOf_eq :
    optionsOf [ar, ep, sp, dp, gg, p1, p0, m1, m0, gt, sl, sd, ss, rl, si, tl, sw, po] =
      match nameOf Arbitration.names ar, nameOf ScorePolicy.names po with
      | some a, some p =>
        if 15 < sl.toNat then none else some (storedOptions a p ep sp dp gg p1 p0 m1 m0 gt sl sd ss rl si tl sw)
      | _, _ => none := rfl

/-- R186 refuses a byte that names no mode or no policy, and a save limit above 15. -/
theorem optionsOf_none (h : 1 < ar.toNat ∨ 1 < po.toNat ∨ 15 < sl.toNat) :
    optionsOf [ar, ep, sp, dp, gg, p1, p0, m1, m0, gt, sl, sd, ss, rl, si, tl, sw, po] = none := by
  rw [optionsOf_eq]
  obtain h | h | h := h
  · rw [nameOf_eq_none.mpr (show Arbitration.names.length ≤ ar.toNat from h)]
  · rw [nameOf_eq_none.mpr (show ScorePolicy.names.length ≤ po.toNat from h)]
    cases nameOf Arbitration.names ar with
    | none => rfl
    | some _ => rfl
  · split
    · exact if_pos h
    · rfl

theorem optionsOf_some (h : ¬ (1 < ar.toNat ∨ 1 < po.toNat ∨ 15 < sl.toNat)) :
    optionsOf [ar, ep, sp, dp, gg, p1, p0, m1, m0, gt, sl, sd, ss, rl, si, tl, sw, po] =
      some (storedOptions (if ar = 0 then .fixed else .rotate) (if po = 0 then .saturate else .roll)
        ep sp dp gg p1 p0 m1 m0 gt sl sd ss rl si tl sw) := by
  rw [optionsOf_eq, nameOf_arbitration (show ar.toNat ≤ 1 by omega), nameOf_scorePolicy (show po.toNat ≤ 1 by omega)]
  exact if_neg (by omega)

end

theorem setGameOptions_eq {s : State} (h : s.session.state = .closed) (body : List Byte) :
    setGameOptions body s = match optionsOf body with
      | none => refuse s .badValue
      | some o => ok { s with options := o } o.bytes := by
  rw [setGameOptions, State.isOpen_of_closed h]
  rfl

theorem setGameOptions_accepted {s : State} {body : List Byte} {o : Options} (h : s.session.state = .closed)
    (ho : optionsOf body = some o) : setGameOptions body s = ok { s with options := o } o.bytes := by
  rw [setGameOptions_eq h, ho]

/-- Settles O47. -/
theorem noticesAndOptionsOutcome : Obligations.NoticesAndOptionsOutcome := by
  unfold Obligations.NoticesAndOptionsOutcome
  refine ⟨⟨fun s k => ⟨?_, fun j hj => ?_, rfl⟩, attnA_iff, attnB_iff, fun s h => ?_⟩, fun s b0 b1 b2 h => ?_,
    fun s ar ep sp dp gg p1 p0 m1 m0 gt sl sd ss rl si tl sw po h => ?_⟩
  · simp [isPending_raise]
  · simp [isPending_raise, hj]
  · refine ⟨setBytes 3 s.notices.pending.toNat, setBytes 3 s.notices.enable.toNat, setBytes 3 s.notices.route.toNat,
      setBytes_length _ _, setBytes_length _ _, setBytes_length _ _,
      fun k => ⟨noticeBytes_bit _ k, noticeBytes_bit _ k, noticeBytes_bit _ k⟩, ?_⟩
    refine request_answered (run := fun _ s => ok s s.noticesBody) h rfl ?_
    rw [← setOfFlags_pair]
    rfl
  · intro named
    have hnamed : ∀ k : Fin 22, named k = (noticeSet [b0, b1, b2])[k] := fun k => (noticeSet_getElem _ k).symm
    refine ⟨⟨s.notices.pending &&& ~~~noticeSet [b0, b1, b2], setBytes 3 s.notices.pending.toNat, setBytes_length _ _,
      fun k => ⟨noticeBytes_bit _ k, ?_⟩, request_done (run := clearNotices) h rfl rfl ?_⟩,
      noticeSet [b0, b1, b2], noticeSet_getElem _, request_done (run := setNoticeEnable) h rfl rfl rfl,
      request_done (run := setNoticeRoute) h rfl rfl rfl⟩
    · rw [hnamed]
      simp
    · rw [hnamed]
      by_cases hset : (noticeSet [b0, b1, b2]).getLsbD Notice.linkError.position = true
      · rw [if_pos hset, if_pos (show (noticeSet [b0, b1, b2])[(21 : Fin 22)] = true from hset)]
        rfl
      · rw [if_neg hset, if_neg (show ¬ (noticeSet [b0, b1, b2])[(21 : Fin 22)] = true from hset)]
        rfl
  · refine ⟨fun ho => ?_, fun hc hbad => ?_, fun hc hbad => ?_, ?_⟩
    · refine request_refused (run := setGameOptions) h rfl (if_pos ?_)
      exact State.isOpen_of_opened ho
    · refine request_refused (run := setGameOptions) h rfl ?_
      rw [setGameOptions_eq (s := s.begun 18) hc, optionsOf_none _ _ _ _ _ _ _ _ _ _ _ _ _ _ _ hbad]
    · have hstored := optionsOf_some ep sp dp gg p1 p0 m1 m0 gt sd ss rl si tl sw hbad
      exact request_done (run := setGameOptions) h rfl (setGameOptions_accepted (s := s.begun 18) hc hstored) rfl
    · exact request_answered (run := fun _ s => ok s s.options.bytes) h rfl rfl

end Sys2Proof.Machine

/-! The link (R174 to R180): what the checks of R176 make of a frame, the code table of R188 read in both directions, and
the frames that are no request. -/

namespace Sys2Proof.Machine

/-! ### The checks of R176 -/

theorem frameCause_badLength {code len : Byte} (rest : List Byte) (h : 60 < len.toNat) :
    frameCause (code :: len :: rest) = some .badLength := if_pos h

theorem frameCause_shortFrame {code len : Byte} {rest : List Byte} (h : len.toNat ≤ 60) (hs : rest.length ≤ len.toNat) :
    frameCause (code :: len :: rest) = some .shortFrame := by
  simp only [frameCause]
  rw [if_neg (show ¬ Config.maxBody < len.toNat from Nat.not_lt.mpr h), List.getElem?_eq_none hs]

theorem frameCause_complete {code len crc : Byte} {body : List Byte} (extra : List Byte) (h : len.toNat ≤ 60)
    (hl : body.length = len.toNat) : frameCause (code :: len :: (body ++ crc :: extra)) =
      if crc = crc8 (code :: len :: body) then none else some .badCrc := by
  have hcrc : (body ++ crc :: extra)[len.toNat]? = some crc := by simp [← hl]
  simp only [frameCause]
  rw [if_neg (show ¬ Config.maxBody < len.toNat from Nat.not_lt.mpr h), hcrc, ← hl, List.take_left]

/-- A frame without a cause carries at most 60 bytes. -/
theorem length_le_of_good {code len : Byte} {rest : List Byte} (h : frameCause (code :: len :: rest) = none) :
    (rest.take len.toNat).length ≤ 60 := by
  have hlen : ¬ 60 < len.toNat := fun g => by simp [frameCause_badLength rest g] at h
  rw [List.length_take]
  omega

/-! ### The code table (R188) -/

theorem requestOf_of_codeOf {i : Instr} {code : Byte} {body : List Byte} (h : codeOf i = some (code, body)) :
    requestOf code body = some i := by
  revert h
  cases i <;> rintro ⟨⟩ <;> rfl

theorem exists_row_of_codeOf {i : Instr} {code : Byte} {body : List Byte} (h : codeOf i = some (code, body)) :
    ∃ r ∈ requestTable, r.1 = code ∧ r.2 body = i := by
  obtain ⟨r, hr, rfl⟩ := Option.map_eq_some_iff.mp (requestOf_of_codeOf h)
  exact ⟨r, List.mem_of_find?_eq_some hr, by simpa using List.find?_some hr, rfl⟩

theorem wellFormed_of_codeOf {i : Instr} {code : Byte} {body : List Byte} (h : codeOf i = some (code, body)) :
    i.wellFormed = bodyFits body := by
  have htable : requestTable.map (fun r => (r.2 body).wellFormed) = requestTable.map fun _ => bodyFits body := rfl
  obtain ⟨r, hr, -, rfl⟩ := exists_row_of_codeOf h
  exact List.map_inj_left.mp htable r hr

theorem requestCodes_eq : requestCodes = requestTable.map (·.1) := rfl

theorem fetchCode_not_mem : fetchCode ∉ requestCodes := by decide

theorem codeOf_requestTable (body : List Byte) : ∀ r ∈ requestTable, codeOf (r.2 body) = some (r.1, body) :=
  have htable : requestTable.map (fun r => codeOf (r.2 body)) = requestTable.map fun r => some (r.1, body) := rfl
  List.map_inj_left.mp htable

/-- What a code and a body name has that code and that body. -/
theorem codeOf_of_requestOf {i : Instr} {code : Byte} {body : List Byte} (h : requestOf code body = some i) :
    codeOf i = some (code, body) := by
  obtain ⟨r, hr, rfl⟩ := Option.map_eq_some_iff.mp h
  have hcode : r.1 = code := by simpa using List.find?_some hr
  rw [codeOf_requestTable body r (List.mem_of_find?_eq_some hr), hcode]

theorem requestOf_eq_none {code : Byte} {body : List Byte} : requestOf code body = none ↔ code ∉ requestCodes := by
  simp only [requestOf, Option.map_eq_none_iff, List.find?_eq_none, beq_iff_eq, requestCodes_eq, List.mem_map,
    not_exists, not_and]

theorem mem_requestCodes {i : Instr} {code : Byte} {body : List Byte} (h : codeOf i = some (code, body)) :
    code ∈ requestCodes := by
  by_contra hn
  exact absurd (requestOf_of_codeOf h) (by simp [requestOf_eq_none.mpr hn])

theorem ne_fetchCode {i : Instr} {code : Byte} {body : List Byte} (h : codeOf i = some (code, body)) :
    code ≠ fetchCode := fun he => fetchCode_not_mem (he ▸ mem_requestCodes h)

/-! ### Frames read back (R174 to R178) -/

/-- The frame of a request, byte by byte. -/
theorem requestFrame_eq (code : Byte) (body : List Byte) : requestFrame code body =
    code :: byte body.length :: (body ++ [crc8 (code :: byte body.length :: body)]) := rfl

section
variable {i : Instr} {code : Byte} {body : List Byte}

/-- A whole frame of a request, whatever follows it, is read as the request. -/
theorem readFrame_requestFrame (h : codeOf i = some (code, body)) (hfit : body.length ≤ 60) (extra : List Byte) :
    readFrame (requestFrame code body ++ extra) = some i := by
  have hlen : (byte body.length).toNat = body.length := byte_toNat_of_lt (by omega)
  have hgood : frameCause (code :: byte body.length ::
      (body ++ crc8 (code :: byte body.length :: body) :: extra)) = none :=
    (frameCause_complete extra (hlen.symm ▸ hfit) hlen.symm).trans (if_pos rfl)
  have hname : ¬ (code = fetchCode ∧ body = []) := fun g => ne_fetchCode h g.1
  have hsplit : requestFrame code body ++ extra =
      code :: byte body.length :: (body ++ crc8 (code :: byte body.length :: body) :: extra) := by
    simp [requestFrame_eq]
  rw [hsplit, readFrame, hgood]
  simp only [hlen, List.take_left, goodFrame, if_neg hname, requestOf_of_codeOf h, Option.getD_some]

/-- A frame that ends before its CRC byte is short. -/
theorem frameCause_take (hfit : body.length ≤ 60) {k : Nat} (h1 : 1 ≤ k) (hk : k < body.length + 3) :
    frameCause ((requestFrame code body).take k) = some .shortFrame := by
  have hlen : (byte body.length).toNat = body.length := byte_toNat_of_lt (by omega)
  obtain _ | _ | k := k
  · omega
  · rfl
  · rw [requestFrame_eq, List.take_succ_cons, List.take_succ_cons]
    refine frameCause_shortFrame (hlen.symm ▸ hfit) ?_
    rw [hlen, List.length_take]
    omega

theorem readFrame_of_cause {bytes : List Byte} {c : LinkCause} (h : frameCause bytes = some c) :
    readFrame bytes = some (.badFrame bytes) := by
  match bytes with
  | [] => exact absurd h (by simp [frameCause])
  | [_] => rfl
  | code :: len :: rest => rw [readFrame, h]

/-- Another CRC byte makes the frame bad. -/
theorem frameCause_other_crc (hfit : body.length ≤ 60) {crc : Byte} (extra : List Byte)
    (hcrc : some crc ≠ (requestFrame code body).getLast?) :
    frameCause ((requestFrame code body).dropLast ++ crc :: extra) = some .badCrc := by
  have hlen : (byte body.length).toNat = body.length := byte_toNat_of_lt (by omega)
  have hlast : (requestFrame code body).getLast? = some (crc8 (code :: byte body.length :: body)) :=
    List.getLast?_concat
  have hdrop : (requestFrame code body).dropLast ++ crc :: extra =
      code :: byte body.length :: (body ++ crc :: extra) := by
    rw [show (requestFrame code body).dropLast = code :: byte body.length :: body from List.dropLast_concat]
    rfl
  rw [hdrop, frameCause_complete extra (hlen.symm ▸ hfit) hlen.symm]
  exact if_neg fun he => hcrc (by rw [hlast, he])

end

/-- The fetch is a frame of the fetch code without a body (R177). -/
theorem readFrame_fetch : readFrame [0x00, 0x00, 0x00] = some (.fetch 0) := by
  have hone : crc8 [0x00] = 0x00 := crc8_append_own_crc []
  have htwo : crc8 ([0x00] ++ [crc8 [0x00]]) = 0x00 := crc8_append_own_crc [0x00]
  rw [hone] at htwo
  have hgood : frameCause [0x00, 0x00, 0x00] = none :=
    (frameCause_complete (body := []) [] (by decide) rfl).trans (if_pos htwo.symm)
  rw [readFrame, hgood]
  rfl

/-- What a good frame is read as can reach the part. -/
theorem goodFrame_wellFormed (code : Byte) {body : List Byte} (extra : Nat) (hfit : body.length ≤ 60) :
    WellFormed (goodFrame code body extra) := by
  have hfits : bodyFits body = true := decide_eq_true hfit
  unfold goodFrame
  split
  · rfl
  · next hfetch =>
    cases hreq : requestOf code body with
    | some i => exact (wellFormed_of_codeOf (codeOf_of_requestOf hreq)).trans hfits
    | none =>
      have hunknown : isUnknown code body = true := by
        unfold isUnknown
        split
        · next hc => simpa using fun hb => hfetch ⟨hc, hb⟩
        · simpa using requestOf_eq_none.mp hreq
      exact (Bool.and_eq_true _ _).mpr ⟨hfits, hunknown⟩

/-- Settles O49. -/
theorem framesRoundTrip : Obligations.FramesRoundTrip := by
  unfold Obligations.FramesRoundTrip
  refine ⟨fun i code body h hwf => ?_, readFrame_fetch, rfl, fun bytes hne => ?_⟩
  · have hfit : body.length ≤ 60 := by
      have := (wellFormed_of_codeOf h).symm.trans hwf
      exact of_decide_eq_true this
    have hlen : (requestFrame code body).length = body.length + 3 := by simp [requestFrame_eq]
    refine ⟨requestFrame code body, by rw [writeFrame, h]; rfl, hlen, readFrame_requestFrame h hfit, fun k h1 hk => ?_,
      fun crc hcrc extra => frameCause_other_crc hfit extra hcrc⟩
    have hshort := frameCause_take (code := code) hfit h1 (hlen ▸ hk)
    exact ⟨readFrame_of_cause hshort, hshort⟩
  · cases hcause : frameCause bytes with
    | some c => exact ⟨_, readFrame_of_cause hcause, Option.isSome_iff_exists.mpr ⟨c, hcause⟩⟩
    | none =>
      match bytes with
      | [] => exact absurd rfl hne
      | [_] => exact absurd hcause (by simp [frameCause])
      | code :: len :: rest =>
        refine ⟨_, by rw [readFrame, hcause], goodFrame_wellFormed code _ (length_le_of_good hcause)⟩

/-! ### Requests of a wrong length, and the end of an execution (R178) -/

/-- The body length of each request (R190). -/
def requestLengths : List (Byte × Nat) :=
  [(0x10, 5), (0x11, 1), (0x12, 0), (0x13, 0), (0x20, 22), (0x21, 1), (0x22, 0), (0x23, 2), (0x24, 2), (0x25, 1),
   (0x26, 1), (0x27, 1), (0x30, 9), (0x31, 2), (0x32, 1), (0x33, 0), (0x40, 1), (0x41, 3), (0x42, 2), (0x43, 0),
   (0x44, 0), (0x45, 1), (0x50, 2), (0x51, 4), (0x52, 1), (0x53, 0), (0x60, 7), (0x61, 10), (0x62, 1), (0x63, 1),
   (0x64, 0), (0x70, 6), (0x71, 3), (0x72, 1), (0x80, 37), (0x81, 1), (0x82, 1), (0x83, 1), (0x84, 1), (0x85, 1),
   (0x86, 3), (0x87, 2), (0x88, 2), (0x90, 1), (0x91, 0), (0x92, 1), (0x93, 0), (0x94, 0), (0x95, 0), (0xA0, 0),
   (0xA1, 3), (0xA2, 3), (0xA3, 3), (0xA4, 18), (0xA5, 0), (0xA6, 0)]

theorem requestLengths_codes : requestLengths.map (·.1) = requestCodes := rfl

/-- The codes of the requests stand in ascending order. -/
theorem requestLengths_ascending : requestLengths.Pairwise fun r q => r.1.toNat < q.1.toNat := by
  have : IsTrans (Byte × Nat) fun r q => r.1.toNat < q.1.toNat := ⟨fun _ _ _ h g => h.trans g⟩
  exact List.isChain_iff_pairwise.mp (by decide)

theorem requestLengths_inj : ∀ r ∈ requestLengths, ∀ q ∈ requestLengths, r.1 = q.1 → r.2 = q.2 := by
  have hcodes : (requestLengths.map (·.1)).Nodup :=
    List.pairwise_map.mpr (requestLengths_ascending.imp fun h he => Nat.ne_of_lt h (congrArg BitVec.toNat he))
  exact fun r hr q hq h => congrArg Prod.snd (List.inj_on_of_nodup_map hcodes hr hq h)

/-- Every request goes through the link, with the body length of its row of R190. -/
theorem exec_requestTable : ∀ r ∈ requestTable.zip requestLengths,
    ∃ run, ∀ body s, exec (r.1.2 body) s = request r.2.2 body run s := by
  simp only [requestTable, requestLengths, List.zip_cons_cons, List.zip_nil_left, List.forall_mem_cons,
    List.not_mem_nil, false_implies, implies_true, and_true]
  and_intros
  all_goals
    delta exec
    exact ⟨_, fun _ _ => rfl⟩

theorem exec_request {i : Instr} {code : Byte} {body : List Byte} (h : codeOf i = some (code, body)) (s : State) :
    ∃ (len : Nat) (run : List Byte → State → State × Reply),
      exec i s = request len body run s ∧ (code, len) ∈ requestLengths := by
  obtain ⟨q, hq, hcode, rfl⟩ := exists_row_of_codeOf h
  have hrows : (requestTable.zip requestLengths).map (·.1) = requestTable := rfl
  have hcodes : (requestTable.zip requestLengths).map (·.1.1) = (requestTable.zip requestLengths).map (·.2.1) := rfl
  obtain ⟨r, hr, hrq⟩ := List.mem_map.mp (hrows ▸ hq)
  obtain ⟨run, hrun⟩ := exec_requestTable r hr
  have hkey : code = r.2.1 := by rw [← List.map_inj_left.mp hcodes r hr, hrq, hcode]
  exact ⟨r.2.2, run, hrq ▸ hrun body s, hkey ▸ (List.of_mem_zip hr).2⟩

theorem exec_executionEnd (s : State) : exec .executionEnd s = execExecutionEnd s := rfl

theorem exec_badFrame (bytes : List Byte) (s : State) : exec (.badFrame bytes) s = execBadFrame bytes s := rfl

theorem exec_unknownRequest (code : Byte) (body : List Byte) (s : State) :
    exec (.unknownRequest code body) s = execUnknownRequest code body s := rfl

theorem isUnknown_of_unnamed {code : Byte} {body : List Byte}
    (h : ((∀ r ∈ requestLengths, r.1 ≠ code) ∧ code ≠ 0) ∨ (code = 0 ∧ body ≠ [])) : isUnknown code body = true := by
  obtain ⟨hno, h0⟩ | ⟨rfl, hb⟩ := h
  · have hmem : code ∉ requestCodes := by
      rw [← requestLengths_codes, List.mem_map]
      rintro ⟨r, hr, he⟩
      exact hno r hr he
    rw [isUnknown, if_neg (show code ≠ fetchCode from h0)]
    simpa using hmem
  · rw [isUnknown, if_pos (show (0 : Byte) = fetchCode from rfl)]
    simpa using hb

/-- Settles O50. -/
theorem executionsAnswerEveryRequest : Obligations.ExecutionsAnswerEveryRequest := by
  unfold Obligations.ExecutionsAnswerEveryRequest
  intro lengths s
  refine ⟨fun h r hr body i hi hfit hne => ?_, fun h code body hfit hun => ?_, fun r h => ?_, fun h => ?_⟩
  · obtain ⟨len, run, hrun, hlen⟩ := exec_request hi s
    have hr2 : r.2 = len := requestLengths_inj r hr _ hlen rfl
    rw [hrun, request_of_wrong_length h hfit (hr2 ▸ hne)]
  · refine (if_pos (isUnknown_of_unnamed hun)).trans (congrArg Host.Outcome.next ?_)
    have hexec : ¬ s.link.executing.isSome = true := by simp [h]
    refine (if_neg hexec).trans ((if_neg ?_).trans rfl)
    exact Nat.not_lt.mpr hfit
  · refine ⟨_, ?_, rfl, rfl⟩
    simp only [exec_executionEnd, execExecutionEnd, h]
    rfl
  · simp only [exec_executionEnd, execExecutionEnd, h]

/-! ### Overruns, fetches and bad frames (R176, R177, R179) -/

theorem frame_of_executing {n : Nat} {f : State → State} {s : State} {r : Reply} (h : s.link.executing = some r) :
    frame n f s = overrunFrame n s := by
  rw [frame, h]
  rfl

theorem frame_of_idle {n : Nat} {f : State → State} {s : State} (h : s.link.executing = none) : frame n f s = f s := by
  rw [frame, h]
  rfl

/-- The bytes a fetch shifts out: three of filler, then the reply, then filler. -/
theorem fetch_shifted_get (out : List Byte) {clocked k : Nat} (hk : k < clocked) :
    (List.replicate 3 Config.filler ++ out.take clocked ++ List.replicate (clocked - out.length) Config.filler)[3 + k]? =
      some (out.getD k 0xFF) := by
  rw [List.append_assoc, List.getElem?_append_right (by simp), List.length_replicate, Nat.add_sub_cancel_left]
  by_cases ho : k < out.length
  · rw [List.getElem?_append_left (by simp; omega), List.getElem?_take_of_lt hk, List.getD_eq_getElem _ _ ho,
      List.getElem?_eq_getElem ho]
  · rw [List.getElem?_append_right (by simp; omega), List.getElem?_replicate, if_pos (by simp; omega),
      List.getD_eq_default _ _ (by omega)]
    rfl

/-- Settles O51. -/
theorem framesThatAreNoRequest : Obligations.FramesThatAreNoRequest := by
  unfold Obligations.FramesThatAreNoRequest
  refine ⟨fun s => ?_, fun s h => ⟨fun clocked => ?_, fun bytes cause hc => ?_, fun code len rest =>
    ⟨frameCause_badLength rest, frameCause_shortFrame, ?_⟩⟩⟩
  · intro overrun
    have hover (n : Nat) : Host.Outcome.next (overrunFrame n s) = overrun n := rfl
    refine ⟨fun r h => ⟨fun i code body hi => ?_, fun clocked => ?_, fun bytes hwf => ?_, fun code body hwf => ?_⟩,
      fun n hn => ?_⟩
    · obtain ⟨len, run, hrun, -⟩ := exec_request hi s
      rw [hrun, request_of_executing h, hover]
    · rw [← hover]
      exact congrArg Host.Outcome.next (frame_of_executing h)
    · obtain ⟨c, hc⟩ := Option.isSome_iff_exists.mp hwf
      simp only [exec_badFrame, execBadFrame, hc, frame_of_executing h, hover]
    · have hun : isUnknown code body = true := ((Bool.and_eq_true _ _).mp hwf).2
      simp only [exec_unknownRequest, execUnknownRequest, hun, frame_of_executing h, hover, if_true]
    · exact if_neg (by omega)
  · intro out
    refine ⟨_, congrArg Host.Outcome.next (frame_of_idle h), rfl, ?_, rfl, fun k hk => fetch_shifted_get out hk, rfl⟩
    change (List.replicate 3 Config.filler ++ out.take clocked ++
      List.replicate (clocked - out.length) Config.filler).length = clocked + 3
    simp only [List.length_append, List.length_replicate, List.length_take]
    omega
  · simp only [exec_badFrame, execBadFrame, hc, frame_of_idle h]
    rfl
  · rintro body extra crc rfl hlen hle
    exact frameCause_complete extra hle hlen

end Sys2Proof.Machine

/-! The reading requests (R12 to R14, R42, R57, R85, R86, R105, R106, R122, R160, R187): each answers with the body its
layout gives. The lemmas here read those bodies back. -/

namespace Sys2Proof.Machine

/-! ### Lists of flags, vectors and blocks of one length -/

theorem setOfFlags_testBit (l : List Bool) (k : Nat) : (setOfFlags l).testBit k = l.getD k false := by
  induction l generalizing k with
  | nil => simp [setOfFlags]
  | cons b l ih =>
    have hstep : setOfFlags (b :: l) = 2 ^ 1 * setOfFlags l + b.toNat := rfl
    rw [hstep, Nat.testBit_two_pow_mul_add _ (by cases b <;> decide)]
    cases k with
    | zero => cases b <;> rfl
    | succ k => simpa using ih k

theorem setOfFlags_three (a b c : Bool) :
    setOfFlags [a, b, c] = (if a then 1 else 0) + (if b then 2 else 0) + if c then 4 else 0 := by
  cases a <;> cases b <;> cases c <;> rfl

theorem vector_toList_map {α β : Type} {n : Nat} (v : Vector α n) (f : α → β) :
    v.toList.map f = (indices n).map fun k => f v[k] := by
  refine List.ext_getElem (by simp [indices]) fun k h1 h2 => ?_
  simp [indices]

/-- Blocks of `n` bytes, one after another: the k-th of them. -/
theorem flatMap_block {α : Type} {f : α → List Byte} {n : Nat} (hf : ∀ a, (f a).length = n) {l : List α} {k : Nat}
    {a : α} (h : l[k]? = some a) : ((l.flatMap f).drop (n * k)).take n = f a := by
  induction l generalizing k with
  | nil => simp at h
  | cons b l ih =>
    rw [List.flatMap_cons]
    cases k with
    | zero =>
      obtain rfl : b = a := by simpa using h
      rw [Nat.mul_zero, List.drop_zero, List.take_left' (hf b)]
    | succ k =>
      have hstep : n * (k + 1) = (f b).length + n * k := by rw [hf, Nat.mul_succ, Nat.add_comm]
      rw [hstep, List.drop_append, List.drop_eq_nil_of_le (by omega), List.nil_append, Nat.add_sub_cancel_left]
      exact ih (by simpa using h)

theorem flatMap_block_length {α : Type} {f : α → List Byte} {n : Nat} (hf : ∀ a, (f a).length = n) (l : List α) :
    (l.flatMap f).length = n * l.length := by
  induction l with
  | nil => rfl
  | cons a l ih => rw [List.flatMap_cons, List.length_append, hf, ih, List.length_cons, Nat.mul_succ, Nat.add_comm]

/-! ### Scanner, devices and arbiter -/

theorem levelsSet_bit (s : State) (n : SwitchNo) :
    ((setBytes 16 (setOfFlags (s.switches.toList.map fun r => r.level == .closed))).getD (n.val / 8) 0).getLsbD
      (n.val % 8) = ((s.switches[n]'n.isLt).level == .closed) := by
  rw [setBytes_bit _ (by omega), setOfFlags_testBit, List.getD_eq_getElem _ _ (by simp)]
  simp

theorem activitySet_bit (s : State) (n : SwitchNo) :
    ((setBytes 16 s.activity.toNat).getD (n.val / 8) 0).getLsbD (n.val % 8) = s.activity.getLsbD n.val := by
  rw [setBytes_bit _ (by omega)]
  rfl

theorem deviceBody_length (s : State) (d : DevNo) (h : (s.devices[d]'d.isLt).cfg.positions.length ≤ 8) :
    (s.deviceBody d).length = 38 := by
  have hp : (positionBytes (s.devices[d]'d.isLt).cfg.positions).length = 8 := by
    rw [positionBytes, List.length_append, List.length_map, List.length_replicate]
    omega
  simp only [State.deviceBody, List.length_append, hp]
  rfl

theorem State.waitingSet_sorted (s : State) (g : Group) : (s.waitingSet g).Pairwise (· < ·) :=
  (List.pairwise_lt_finRange 24).filter _

theorem groupBody_length (s : State) (g : Group) : (s.groupBody g).length = 53 := by
  have hlen : (s.waitingSet g).length ≤ 24 := (List.length_filter_le _ _).trans (by simp [indices])
  have hpairs := flatMap_block_length (n := 2) (f := fun c : CoilNo => [byte c.val, byte (s.coils[c]'c.isLt).live.priority])
    (fun _ => rfl) (s.waitingSet g)
  simp only [State.groupBody, Timer.bytes, List.length_append, hpairs, List.length_replicate, List.length_cons,
    List.length_nil]
  omega

/-- Settles O7. -/
theorem hardwareReadsAnswer : Obligations.HardwareReadsAnswer := by
  unfold Obligations.HardwareReadsAnswer
  refine ⟨fun s h => ⟨fun n => ?_, fun n hn => ?_, ?_, ?_⟩, fun s h => ⟨fun d => ?_, fun n => ?_, fun x hx => ⟨?_, ?_⟩⟩,
    fun s h => ⟨fun c => ?_, fun c hc => ?_, ?_⟩⟩
  · refine request_answered (run := readSwitch) h rfl ?_
    simp only [readSwitch, indexOf_byte n]
    rfl
  · refine request_refused (run := readSwitch) h rfl ?_
    simp only [readSwitch, indexOf_none (show 128 ≤ n.toNat from hn)]
  · exact ⟨_, setBytes_length _ _, levelsSet_bit s, request_answered (run := fun _ s => ok s s.levelsBody) h rfl rfl⟩
  · exact ⟨_, setBytes_length _ _, activitySet_bit s,
      request_done (run := fun _ s => ok { s with activity := 0 } s.activityBody) h rfl rfl rfl⟩
  · intro c l out
    have hout : out = s.deviceBody d := by
      simp only [out, State.deviceBody, positionBytes, setOfFlags_three, List.append_assoc]
      rfl
    rw [hout]
    refine ⟨request_answered (run := readDevice) h rfl ?_, deviceBody_length s d⟩
    simp only [readDevice, indexOf_byte d]
    rfl
  · refine request_answered (run := readSlot) h rfl ?_
    simp only [readSlot, indexOf_byte n]
    rfl
  · refine request_refused (run := readDevice) h rfl ?_
    simp only [readDevice, indexOf_none (show 8 ≤ x.toNat from hx)]
  · refine request_refused (run := readSlot) h rfl ?_
    simp only [readSlot, indexOf_none (show 8 ≤ x.toNat from hx)]
  · refine request_answered (run := readCoil) h rfl ?_
    simp only [readCoil, indexOf_byte c]
    simp only [State.coilBody, Timer.bytes, List.cons_append, List.nil_append]
    rfl
  · refine request_refused (run := readCoil) h rfl ?_
    simp only [readCoil, indexOf_none (show 24 ≤ c.toNat from hc)]
  · refine ⟨s.waitingSet .a, s.waitingSet .b, s.waitingSet_sorted .a, s.waitingSet_sorted .b,
      fun c => State.mem_waitingSet, fun c => State.mem_waitingSet, ?_⟩
    intro block
    have ha : block s.groupA (s.waitingSet .a) = s.groupBody .a := rfl
    have hb : block s.groupB (s.waitingSet .b) = s.groupBody .b := rfl
    rw [ha, hb]
    exact ⟨groupBody_length s .a, groupBody_length s .b,
      request_answered (run := fun _ s => ok s s.groupsBody) h rfl rfl⟩

/-! ### Accounting, pages and locks -/

theorem derived_append (beneath above : List Context) (c : Context) :
    (derived (beneath ++ c :: above))[beneath.length]? = some (c, runState c above) := by
  induction beneath with
  | nil => rfl
  | cons b beneath ih => simpa [derived] using ih

/-- A context is SUSPENDED under an EXCLUSIVE one, unless PAUSED (R145). -/
theorem runState_eq (c : Context) (above : List Context) : runState c above =
    if c.paused then .paused else if ∃ x ∈ above, x.tpl.stacking = .exclusive then .suspended else .running := by
  have hany : (above.any fun x => x.tpl.stacking == .exclusive) = true ↔
      ∃ x ∈ above, x.tpl.stacking = .exclusive := by simp
  unfold runState
  exact if_congr Iff.rfl rfl (if_congr hany rfl rfl)

theorem FlightRec.bytes_length (r : FlightRec) : r.bytes.length = 8 := rfl

theorem LastEnded.bytes_length (r : LastEnded) : r.bytes.length = 8 := by simp [LastEnded.bytes]

/-- A stack with its derived states, as the pairs of ids and states. -/
theorem derived_eq_zip (l : List Context) : derived l = l.zip ((derived l).map (·.2)) := by
  conv_lhs => rw [← List.zip_unzip (derived l)]
  rw [List.unzip_eq_map, derived_map_fst]

theorem lockBody_length (s : State) (k : LockNo) : (s.lockBody k).length = 16 := by
  simp only [State.lockBody, List.length_append]
  split <;> rfl

/-- Settles O28. -/
theorem gameReadsAnswer : Obligations.GameReadsAnswer := by
  unfold Obligations.GameReadsAnswer
  refine ⟨fun s h => ⟨?_, fun start hs => ?_, fun start hs => ?_⟩, fun s h => ⟨fun p hp => ?_, fun p hp => ?_, ?_⟩,
    fun s h => ⟨fun i => ?_, fun i hi => ?_, fun i => ?_, ?_⟩,
    fun s h => ⟨fun p beneath above c hstack hlen => ?_, fun p i hp => ?_, fun p i hi => ?_, ?_⟩⟩
  · exact request_answered (run := fun _ s => ok s s.accountingBody) h rfl rfl
  · exact request_refused (run := readFlights) h rfl (if_pos hs)
  · have hlen : ((s.acct.flights.drop start.toNat).take 8).length = min 8 (s.acct.flights.length - start.toNat) := by
      simp
    refine ⟨((s.acct.flights.drop start.toNat).take 8).flatMap FlightRec.bytes, ?_, ?_, fun k r hk hr => ?_⟩
    · refine request_answered (run := readFlights) h rfl ((if_neg (Nat.not_lt.mpr hs)).trans ?_)
      rw [← hlen]
      rfl
    · rw [flatMap_block_length FlightRec.bytes_length, hlen]
    · refine flatMap_block FlightRec.bytes_length ?_
      rw [List.getElem?_take_of_lt hk, List.getElem?_drop, hr]
  · refine ⟨(derived (s.pages[p]'p.isLt).stack).map (·.2), by simp, fun beneath above c hstack => ?_, ?_⟩
    · rw [hstack, List.getElem?_map, derived_append, Option.map_some, runState_eq]
    · intro out
      have hruns : ((derived (s.pages[p]'p.isLt).stack).map (·.2)).length = (s.pages[p]'p.isLt).stack.length := by simp
      have hout : out = s.playerBody p := by
        simp only [out, State.playerBody, eightPairs_map, vector_toList_map, derived_length, List.append_assoc]
        rw [← derived_eq_zip]
        rfl
      refine ⟨?_, ?_⟩
      · have hpairs := flatMap_block_length (n := 2)
          (f := fun x : Context × RunState => [byte x.1.id, nameByte RunState.names x.2]) (fun _ => rfl)
          (derived (s.pages[p]'p.isLt).stack)
        rw [hout]
        simp only [State.playerBody, eightPairs_map, List.length_append, hpairs, derived_length, List.length_replicate,
          bcdBytes_length, List.length_map, Vector.length_toList, List.length_cons, List.length_nil,
          LastEnded.bytes_length]
        omega
      · rw [hout]
        refine request_answered (run := readPlayer) h rfl ?_
        simp only [readPlayer, indexOf_byte p]
        rfl
  · refine request_refused (run := readPlayer) h rfl ?_
    simp only [readPlayer, indexOf_none (show 4 ≤ p.toNat from hp)]
  · intro block
    have hblock : block = s.lockBody := by
      funext k
      simp only [block, State.lockBody, LockDecision.bytes, List.append_assoc]
      rfl
    rw [hblock]
    exact ⟨by rw [flatMap_block_length (lockBody_length s)]; simp [indices],
      request_answered (run := fun _ s => ok s s.locksBody) h rfl rfl⟩
  · refine request_answered (run := readWindow) h rfl ?_
    simp only [readWindow, indexOf_byte i, State.windowBody, byte_toNat]
    rfl
  · refine request_refused (run := readWindow) h rfl ?_
    simp only [readWindow, indexOf_none (show 32 ≤ i.toNat from hi)]
  · refine request_answered (run := readAward) h rfl ?_
    have hi : (byte i.val).toFin = i := Fin.ext (byte_toNat_of_lt i.isLt)
    simp only [readAward, hi]
    rfl
  · refine ⟨setBytes 32 s.awardHits.toNat, setBytes_length _ _, fun i => ?_,
      request_done (run := fun _ s => ok { s with awardHits := 0 } (setBytes 32 s.awardHits.toNat)) h rfl rfl rfl⟩
    rw [setBytes_bit _ (by omega)]
    rfl
  · intro r
    have hi : (byte beneath.length).toNat = beneath.length := by
      rw [hstack] at hlen
      exact byte_toNat_of_lt (by simp at hlen; omega)
    have hget : (derived (s.pages[p]'p.isLt).stack)[(byte beneath.length).toNat]? = some (c, r) := by
      rw [hi, hstack, derived_append, runState_eq]
    refine request_answered (run := readMode) h rfl ?_
    simp only [readMode, indexOf_byte p, State.begun_pages, hget]
    rw [hi]
    rfl
  · refine request_refused (run := readMode) h rfl ?_
    simp only [readMode, indexOf_none (show 4 ≤ p.toNat from hp)]
  · refine request_refused (run := readMode) h rfl ?_
    have hget : (derived (s.pages[p]'p.isLt).stack)[i.toNat]? = none := List.getElem?_eq_none (by simpa using hi)
    simp only [readMode, indexOf_byte p, State.begun_pages, hget]
  · exact request_answered (run := fun _ s => ok s capabilityBody) h rfl rfl

end Sys2Proof.Machine

/-! The activity set of a scan frame (R5), and the requests that start a game (R163, R164, R172). -/

namespace Sys2Proof.Machine

/-! ### Edges that pass -/

/-- Whether an accepted edge passes the selection of its switch (R5). -/
def passes (switches : Vector SwitchRec 128) (e : SwitchNo × Direction) : Bool :=
  switches[e.1].cls != .unused && switches[e.1].selection.passes e.2

/-- An edge that passes sets its flag and raises SWITCH_ACTIVITY; any other leaves both. -/
theorem deliverEdge_activity (e : SwitchNo × Direction) (s : State) :
    (deliverEdge e s).activity = (if passes s.switches e then s.activity ||| (1#128 <<< e.1.val) else s.activity) ∧
      (deliverEdge e s).isPending .switchActivity = (s.isPending .switchActivity || passes s.switches e) := by
  have hearly := deliverEarly_sound e s
  rw [deliverEdge_eq]
  by_cases hc : (s.switches[e.1]'e.1.isLt).cls = .unused
  · have hp : passes s.switches e = false := by rw [passes, hc]; rfl
    rw [if_pos hc, hp, Bool.or_false]
    exact ⟨rfl, rfl⟩
  · have hp : passes s.switches e = (s.switches[e.1]'e.1.isLt).selection.passes e.2 := by
      rw [passes, bne_iff_ne.mpr hc]
      rfl
    rw [if_neg hc, hp]
    by_cases hs : (s.switches[e.1]'e.1.isLt).selection.passes e.2 = true
    · rw [if_pos hs, hs, if_pos rfl, Bool.or_true]
      have hevent := switchEvent_quiet (fun _ => False) e.1 e.2
        ({ deliverEarly e s with activity := (deliverEarly e s).activity ||| (1#128 <<< e.1.val) }.raise .switchActivity)
      refine ⟨?_, ?_⟩
      · rw [passEdge, hevent.activity, ← hearly.activity]
        rfl
      · rw [passEdge, hevent.noActivity, isPending_raise, decide_eq_true rfl, Bool.or_true]
    · rw [if_neg hs, hearly.activity, hearly.noActivity, Bool.eq_false_iff.mpr hs, Bool.or_false]
      exact ⟨rfl, rfl⟩

theorem getLsbD_setFlag (a : BitVec 128) (m n : SwitchNo) :
    (a ||| (1#128 <<< m.val)).getLsbD n.val = true ↔ a.getLsbD n.val = true ∨ n = m := by
  rw [BitVec.getLsbD_or, Bool.or_eq_true]
  refine or_congr_right ?_
  have hbit : (1#128 <<< m.val).getLsbD n.val = Nat.testBit (2 ^ m.val) n.val := by
    rw [← BitVec.twoPow_eq, BitVec.getLsbD_twoPow, Nat.testBit_two_pow]
    simp [m.isLt]
  rw [hbit, Nat.testBit_two_pow, decide_eq_true_iff, Fin.ext_iff, eq_comm]

/-- Edges delivered one after another: the activity set gains those that pass. -/
theorem deliverEdges_activity (l : List (SwitchNo × Direction)) (s : State) :
    (∀ n : SwitchNo, (l.foldl (fun s e => deliverEdge e s) s).activity.getLsbD n.val = true ↔
      s.activity.getLsbD n.val = true ∨ ∃ e ∈ l, e.1 = n ∧ passes s.switches e = true) ∧
    ((l.foldl (fun s e => deliverEdge e s) s).isPending .switchActivity = true ↔
      s.isPending .switchActivity = true ∨ ∃ e ∈ l, passes s.switches e = true) := by
  induction l generalizing s with
  | nil => simp
  | cons e l ih =>
    obtain ⟨hact, hpend⟩ := ih (deliverEdge e s)
    obtain ⟨hact1, hpend1⟩ := deliverEdge_activity e s
    have hsw : (deliverEdge e s).switches = s.switches := State.switches_of_kept (deliverEdge_kept e s)
    rw [hsw] at hact hpend
    refine ⟨fun n => (hact n).trans ?_, hpend.trans ?_⟩
    · rw [hact1, List.exists_mem_cons_iff]
      cases hp : passes s.switches e with
      | true => rw [if_pos rfl, getLsbD_setFlag, or_assoc, and_iff_left rfl, eq_comm (a := n)]
      | false => simp
    · rw [hpend1, List.exists_mem_cons_iff, Bool.or_eq_true, or_assoc]

theorem mem_acceptedEdges {raw : BitVec 128} {s : State} {e : SwitchNo × Direction} : e ∈ acceptedEdges raw s ↔
    ((s.switches[e.1]'e.1.isLt).debounce (raw.getLsbD e.1.val) s.frameCount).2 = some e.2 := by
  obtain ⟨n, d⟩ := e
  simp only [acceptedEdges, List.mem_filterMap, indices, List.mem_finRange, true_and, Option.map_eq_some_iff,
    Prod.mk.injEq]
  constructor
  · rintro ⟨m, x, hx, rfl, rfl⟩
    exact hx
  · exact fun h => ⟨n, d, h, rfl, rfl⟩

theorem debounceAll_activity (raw : BitVec 128) (s : State) : (debounceAll raw s).activity = s.activity := by
  simp only [debounceAll]

theorem debounceAll_isPending (raw : BitVec 128) (k : Notice) (s : State) :
    (debounceAll raw s).isPending k = s.isPending k := by
  simp only [debounceAll, State.isPending]

/-- The edge a switch gives in a frame is its change of level. -/
theorem debounce_edge (r : SwitchRec) (closed : Bool) (stamp : Stamp) :
    (∃ d, (r.debounce closed stamp).2 = some d ∧ r.selection.passes d = true) ↔
      r.level ≠ (r.debounce closed stamp).1.level ∧ (r.selection = .both ∨
        (r.selection = .close ∧ (r.debounce closed stamp).1.level = .closed) ∨
        (r.selection = .opening ∧ (r.debounce closed stamp).1.level = .opened)) := by
  obtain ⟨-, h⟩ | ⟨-, -, h⟩ | ⟨hne, -, h⟩ := debounce_cases r closed stamp
  · simp [h]
  · simp [h]
  · rw [h]
    have hlevel : r.level ≠ levelOf closed := fun g => hne g.symm
    cases closed
    · cases hs : r.selection <;> simp [EdgeSelection.passes] <;> exact hlevel
    · cases hs : r.selection <;> simp [EdgeSelection.passes] <;> exact hlevel

/-- Some accepted edge of a switch passes exactly when its edge in the frame does. -/
theorem exists_passed_iff {raw : BitVec 128} {s u t : State} {n : SwitchNo} (hu : u.switches = s.switches)
    (ht : (t.switches[n]'n.isLt) = ((s.switches[n]'n.isLt).debounce (raw.getLsbD n.val) u.frameCount).1) :
    (∃ e ∈ acceptedEdges raw u, e.1 = n ∧ passes (debounceAll raw u).switches e = true) ↔ passedEdge s t n := by
  have hcfg : (debounceAll raw u).switches[n].cls = (s.switches[n]'n.isLt).cls ∧
      (debounceAll raw u).switches[n].selection = (s.switches[n]'n.isLt).selection := by
    rw [debounceAll_get, hu]
    obtain ⟨hcls, -, -, hsel⟩ := debounce_cfg (s.switches[n]'n.isLt) (raw.getLsbD n.val) u.frameCount
    exact ⟨hcls, hsel⟩
  have hpasses (d : Direction) : passes (debounceAll raw u).switches (n, d) = true ↔
      (s.switches[n]'n.isLt).cls ≠ .unused ∧ (s.switches[n]'n.isLt).selection.passes d = true := by
    simp only [passes, hcfg.1, hcfg.2, Bool.and_eq_true, bne_iff_ne]
  have hedge := debounce_edge (s.switches[n]'n.isLt) (raw.getLsbD n.val) u.frameCount
  rw [passedEdge, ht]
  constructor
  · rintro ⟨⟨m, d⟩, hmem, rfl, hp⟩
    rw [mem_acceptedEdges, hu] at hmem
    obtain ⟨hc, hs⟩ := (hpasses d).mp hp
    obtain ⟨hl, hsel⟩ := hedge.mp ⟨d, hmem, hs⟩
    exact ⟨hl, hc, hsel⟩
  · rintro ⟨hl, hc, hsel⟩
    obtain ⟨d, hd, hs⟩ := hedge.mpr ⟨hl, hsel⟩
    refine ⟨(n, d), ?_, rfl, (hpasses d).mpr ⟨hc, hs⟩⟩
    rw [mem_acceptedEdges, hu]
    exact hd

/-- Settles O5: the events of a frame keep the activity set, and its edges are delivered one after another. -/
theorem activitySetGainsPassedEdges : Obligations.ActivitySetGainsPassedEdges := by
  unfold Obligations.ActivitySetGainsPassedEdges
  intro s raw early
  refine ⟨scanFrame raw early s, rfl, ?_⟩
  have hkept := earlyEvents_kept early (startFrame s)
  have hearly : Sound (startFrame s) (early.foldl (fun s e => take e s) (startFrame s)) :=
    Sound.foldl _ (fun s e => take_sound e s) early _
  have hget := scanFrame_get raw early s
  have hstart : (startFrame s).activity = s.activity ∧
      (startFrame s).isPending .switchActivity = s.isPending .switchActivity := by
    simp only [startFrame, tick100, tick10]
    split <;> split <;> exact ⟨rfl, rfl⟩
  rw [scanFrame] at hget ⊢
  generalize early.foldl (fun s e => take e s) (startFrame s) = u at hkept hearly hget ⊢
  have hsw : u.switches = s.switches := (State.switches_of_kept hkept).trans (startFrame_switches s)
  have hfc : u.frameCount = s.frameCount + 1 := (State.frameCount_of_kept hkept).trans (startFrame_frameCount s)
  rw [← hfc] at hget
  obtain ⟨hact, hpend⟩ := deliverEdges_activity (acceptedEdges raw u) (debounceAll raw u)
  change ∀ n : SwitchNo, (readSwitches raw u).activity.getLsbD n.val = true ↔ _ at hact
  change (readSwitches raw u).isPending .switchActivity = true ↔ _ at hpend
  have hpassed (n : SwitchNo) := exists_passed_iff hsw (hget n)
  refine ⟨fun n => (hact n).trans (or_congr ?_ (hpassed n)), hpend.trans (or_congr ?_ ?_)⟩
  · rw [debounceAll_activity, hearly.activity, hstart.1]
  · rw [debounceAll_isPending, hearly.noActivity, hstart.2]
  · constructor
    · rintro ⟨e, he, hp⟩
      exact ⟨e.1, (hpassed e.1).mp ⟨e, he, rfl, hp⟩⟩
    · rintro ⟨n, hn⟩
      obtain ⟨e, he, -, hp⟩ := (hpassed n).mpr hn
      exact ⟨e, he, hp⟩

/-! ### OPEN_SESSION and ADD_PLAYER (R163, R164) -/

/-- The pages below a player count, cleared. -/
theorem clearPages_frame (n : Nat) (l : List PlayerNo) (s : State) : ∃ pages : Vector Page 4,
    l.foldl (fun s p => if p.val < n then clearPage p s else s) s = { s with pages := pages } ∧
    ∀ q : PlayerNo, pages[q] = if q ∈ l ∧ q.val < n then .clear else (s.pages[q]'q.isLt) := by
  induction l generalizing s with
  | nil => exact ⟨s.pages, rfl, fun q => by simp⟩
  | cons p l ih =>
    rw [List.foldl_cons]
    obtain ⟨pages, hframe, hget⟩ := ih (if p.val < n then clearPage p s else s)
    have hstep : (if p.val < n then clearPage p s else s) =
        { s with pages := if p.val < n then s.pages.set p .clear else s.pages } := by
      split <;> rfl
    refine ⟨pages, by rw [hframe, hstep], fun q => ?_⟩
    rw [hget, hstep]
    by_cases hq : q ∈ l ∧ q.val < n
    · rw [if_pos hq, if_pos ⟨List.mem_cons_of_mem p hq.1, hq.2⟩]
    · rw [if_neg hq]
      by_cases hqp : q = p ∧ q.val < n
      · obtain ⟨rfl, hn⟩ := hqp
        simp only [if_pos hn]
        rw [vector_set_get, if_pos rfl, if_pos (⟨List.mem_cons_self, hn⟩ : q ∈ q :: l ∧ q.val < n)]
      · have hno : ¬ (q ∈ p :: l ∧ q.val < n) := fun ⟨hm, hn⟩ =>
          (List.mem_cons.mp hm).elim (fun he => hqp ⟨he, hn⟩) (fun hm => hq ⟨hm, hn⟩)
        rw [if_neg hno]
        by_cases hp : p.val < n
        · simp only [if_pos hp]
          rw [vector_set_get, if_neg fun he => hqp ⟨he, he ▸ hp⟩]
        · simp only [if_neg hp]

theorem holdTimers_keeps (s : State) (p : PlayerNo) : (holdTimers s).pages[p].score = (s.pages[p]'p.isLt).score ∧
    (holdTimers s).pages[p].lit = (s.pages[p]'p.isLt).lit ∧ (holdTimers s).pages[p].credits = (s.pages[p]'p.isLt).credits ∧
    (holdTimers s).pages[p].last = (s.pages[p]'p.isLt).last := by
  rw [holdTimers_get]
  exact ⟨rfl, rfl, rfl, rfl⟩

/-- A session opened for a number of players. -/
def State.openedFor (s : State) (players : Nat) : State :=
  (indices 4).foldl (fun s p => if p.val < players then clearPage p s else s) (s.modSession fun r =>
    { r with state := .opened, players := players, current := 0, tilt := .normal, warnings := 0, swing := .stopped })

theorem openedFor_frame (s : State) (players : Nat) : ∃ pages : Vector Page 4,
    s.openedFor players = { s with
      session := { s.session with state := .opened, players := players, current := 0, tilt := .normal, warnings := 0,
                                  swing := .stopped },
      pages := pages } ∧
    ∀ q : PlayerNo, pages[q] = if q.val < players then .clear else (s.pages[q]'q.isLt) := by
  obtain ⟨pages, hframe, hget⟩ := clearPages_frame players (indices 4) (s.modSession fun r =>
    { r with state := .opened, players := players, current := 0, tilt := .normal, warnings := 0, swing := .stopped })
  exact ⟨pages, hframe, fun q => (hget q).trans (if_congr (and_iff_right (mem_indices q)) rfl rfl)⟩

/-- The session opened, its play at rest and every timer held that does not count. -/
def State.sessionOpened (s : State) (players : Nat) : State :=
  holdTimers (setPfMult 1 0 (setPhase .noPlay (s.openedFor players)))

theorem openSession_accepted {s : State} (hc : s.isOpen = false) (hd : s.devicesEnabled = true) (n : Byte) :
    openSession [n] s = ok (s.sessionOpened (min 4 (max 1 n.toNat))) [byte (min 4 (max 1 n.toNat))] := by
  simp only [openSession, hc, hd]
  rfl

theorem sessionOpened_frame (s : State) (players : Nat) : ∃ (pages : Vector Page 4) (acct : Accounting),
    s.sessionOpened players = { s with
      session := { state := .opened, players := players, current := 0, tilt := .normal, warnings := 0,
                   swing := .stopped },
      pages := pages, acct := acct, pfMult := 1, pfTimer := 0, pfDue := false } ∧
    acct.phase = .noPlay ∧ acct.live = s.acct.live ∧ acct.flights = s.acct.flights := by
  obtain ⟨pages, hframe, -⟩ := openedFor_frame s players
  rw [State.sessionOpened, hframe]
  exact ⟨_, _, rfl, rfl, rfl, rfl⟩

theorem sessionOpened_cleared (s : State) {players : Nat} {p : PlayerNo} (hp : p.val < players) :
    (s.sessionOpened players).pages[p] = .clear := by
  obtain ⟨pages, hframe, hget⟩ := openedFor_frame s players
  refine (holdTimers_get _ p).trans ?_
  have hpage : (setPfMult 1 0 (setPhase .noPlay (s.openedFor players))).pages[p] = .clear := by
    rw [hframe]
    exact (hget p).trans (if_pos hp)
  rw [hpage]
  rfl

theorem sessionOpened_kept (s : State) {players : Nat} {p : PlayerNo} (hp : players ≤ p.val) :
    (s.sessionOpened players).pages[p].score = (s.pages[p]'p.isLt).score ∧
      (s.sessionOpened players).pages[p].lit = (s.pages[p]'p.isLt).lit ∧
      (s.sessionOpened players).pages[p].credits = (s.pages[p]'p.isLt).credits ∧
      (s.sessionOpened players).pages[p].last = (s.pages[p]'p.isLt).last := by
  obtain ⟨pages, hframe, hget⟩ := openedFor_frame s players
  have hpage : (setPfMult 1 0 (setPhase .noPlay (s.openedFor players))).pages[p] = (s.pages[p]'p.isLt) := by
    rw [hframe]
    exact (hget p).trans (if_neg (Nat.not_lt.mpr hp))
  rw [← hpage]
  exact holdTimers_keeps _ p

theorem addPlayer_accepted {s : State} (p : PlayerNo) (ho : s.isOpen = true) (hp : s.session.players = p.val)
    (body : List Byte) : addPlayer body s =
      ok ((clearPage p s).modSession fun r => { r with players := p.val + 1 }) [byte (p.val + 1), byte p.val] := by
  have hroom : s.session.players < 4 := lt_of_eq_of_lt hp p.isLt
  have hnew : (⟨s.session.players, hroom⟩ : PlayerNo) = p := Fin.ext hp
  simp only [addPlayer, ho, dif_pos hroom, hnew, ← hp]
  rfl

/-- Settles O43. -/
theorem sessionStartsForItsPlayers : Obligations.SessionStartsForItsPlayers := by
  unfold Obligations.SessionStartsForItsPlayers
  intro s n h players empty
  refine ⟨fun hr => ?_, fun hc hd => ?_, fun hc => ?_, fun ho hp => ?_, fun p ho hp => ?_, ?_⟩
  · refine request_refused (run := openSession) h rfl ?_
    obtain ho | hd := hr
    · exact if_pos (State.isOpen_of_opened ho)
    · have hno : (s.begun 1).devicesEnabled = false := State.devicesEnabled_eq_false.mpr hd
      simp only [openSession, hno]
      exact ite_self _
  · have hopen : (s.begun 1).isOpen = false := State.isOpen_of_closed hc
    have henabled : (s.begun 1).devicesEnabled = true := State.devicesEnabled_eq_true.mpr hd
    obtain ⟨pages, acct, hframe, hphase, hlive, hflights⟩ := sessionOpened_frame (s.begun 1) players
    refine ⟨_, request_ok (run := openSession) h rfl (openSession_accepted hopen henabled n), ?_⟩
    have hcleared (p : PlayerNo) (hp : p.val < players) := sessionOpened_cleared (s.begun 1) hp
    have hkept (p : PlayerNo) (hp : players ≤ p.val) := sessionOpened_kept (s.begun 1) hp
    rw [hframe] at hcleared hkept
    rw [show (s.begun 1).sessionOpened (min 4 (max 1 n.toNat)) = _ from hframe]
    exact ⟨rfl, hcleared, hkept, hphase, hlive, hflights, rfl, rfl, rfl, rfl, rfl, rfl⟩
  · exact request_refused (run := addPlayer) h rfl (if_pos (by rw [State.begun_isOpen, State.isOpen_of_closed hc]; rfl))
  · refine request_refused (run := addPlayer) h rfl ?_
    have hopen : (s.begun 0).isOpen = true := State.isOpen_of_opened ho
    have hfour : ¬ (s.begun 0).session.players < 4 := by
      rw [State.begun_session]
      omega
    simp only [addPlayer, hopen, hfour]
    rfl
  · refine (request_ok (run := addPlayer) h rfl
      (addPlayer_accepted (s := s.begun 0) p (State.isOpen_of_opened ho) hp [])).trans ?_
    refine congrArg _ ((prepare_begun (t := ((clearPage p s).modSession fun r => { r with players := p.val + 1 })) 0 _ rfl).trans ?_)
    rfl
  · exact request_answered (run := fun _ s => ok s s.sessionBody) h rfl rfl

end Sys2Proof.Machine

/-! How a device takes an order and what owed ejects do to it (R25 to R28), and the locks: lighting, the capture
decision, the reconciliation and the start of a multiball (R93 to R103). -/

namespace Sys2Proof.Machine

/-! ### What looking for an order leaves of a device -/

/-- A device's live part without its work: what is left of it when it has no order and no attempt. -/
def DeviceLive.rested (l : DeviceLive) : DeviceLive :=
  { l with state := .idle, order := .none, attemptCount := 0, attemptExits := 0, attemptConfirmed := false,
           exitsInOrder := 0, stopPending := false, intended := 0 }

/-- Between two states only the work of device `d` differs among the devices. -/
structure Ordered (d : DevNo) (s t : State) : Prop where
  others : ∀ e : DevNo, e ≠ d → (t.devices[e]'e.isLt) = (s.devices[e]'e.isLt) := by exact fun _ _ => rfl
  cfg : (t.devices[d]'d.isLt).cfg = (s.devices[d]'d.isLt).cfg := by rfl
  rested : (t.devices[d]'d.isLt).live.rested = (s.devices[d]'d.isLt).live.rested := by rfl

theorem Ordered.refl (d : DevNo) (s : State) : Ordered d s s := {}

theorem Ordered.trans {d : DevNo} {s t u : State} (h : Ordered d s t) (g : Ordered d t u) : Ordered d s u where
  others e he := (g.others e he).trans (h.others e he)
  cfg := g.cfg.trans h.cfg
  rested := g.rested.trans h.rested

theorem Ordered.of_devices {s t : State} (d : DevNo) (h : t.devices = s.devices) : Ordered d s t where
  others e _ := by rw [h]
  cfg := by rw [h]
  rested := by rw [h]

theorem Ordered.modLive (d : DevNo) (f : DeviceLive → DeviceLive) (s : State)
    (hf : (f (s.devices[d]'d.isLt).live).rested = (s.devices[d]'d.isLt).live.rested) : Ordered d s (s.modLive d f) where
  others e he := by rw [State.modLive_get, if_neg he]
  cfg := State.modLive_cfg s d d f
  rested := by rw [State.modLive_get, if_pos rfl]; exact hf

theorem requestEject_devices (c : CoilNo) (d : DevNo) (s : State) : (requestEject c d s).devices = s.devices := by
  obtain ⟨coils, h⟩ := requestEject_frame c d s
  rw [h]

theorem finishSlot_devices (n : SlotNo) (r : SlotResult) (s : State) : (finishSlot n r s).devices = s.devices := by
  simp only [finishSlot]
  split <;> rfl

theorem startBall_ordered (d : DevNo) (attempt : Nat) (s : State) : Ordered d s (startBall d attempt s) :=
  (Ordered.modLive d _ s rfl).trans (.of_devices d (requestEject_devices _ d _))

theorem beginOrder_ordered (d : DevNo) (o : Order) (s : State) : Ordered d s (beginOrder d o s) :=
  .modLive d _ s rfl

theorem takeOrderFuel_ordered (fuel : Nat) (d : DevNo) (s : State) : Ordered d s (takeOrderFuel fuel d s) := by
  induction fuel generalizing s with
  | zero => exact .refl d s
  | succ fuel ih =>
    simp only [takeOrderFuel]
    split
    · exact .refl d s
    · split
      · exact (beginOrder_ordered d .owed s).trans (startBall_ordered d 1 _)
      · split
        · exact .refl d s
        · next n _ =>
          have hactive : Ordered d s ((leaveQueue n s).modSlot n fun x => { x with state := .active }) :=
            .of_devices d rfl
          split
          · refine (hactive.trans (beginOrder_ordered d .none _)).trans (Ordered.trans ?_ (ih _))
            exact .of_devices d (finishSlot_devices n .short _)
          · exact (hactive.trans (beginOrder_ordered d (.slot n) _)).trans (startBall_ordered d 1 _)

theorem takeOrder_ordered (d : DevNo) (s : State) : Ordered d s (takeOrder d s) := takeOrderFuel_ordered 9 d s

theorem Ordered.owed {d : DevNo} {s t : State} (h : Ordered d s t) :
    (t.devices[d]'d.isLt).live.owed = (s.devices[d]'d.isLt).live.owed := by
  change (t.devices[d]'d.isLt).live.rested.owed = (s.devices[d]'d.isLt).live.rested.owed
  rw [h.rested]

theorem Ordered.occupancy {d : DevNo} {s t : State} (h : Ordered d s t) :
    (t.devices[d]'d.isLt).live.occupancy = (s.devices[d]'d.isLt).live.occupancy := by
  change (t.devices[d]'d.isLt).live.rested.occupancy = (s.devices[d]'d.isLt).live.rested.occupancy
  rw [h.rested]

/-! ### Owed ejects -/

/-- What owed ejects added to device `d` do to the devices. -/
structure Owes (d : DevNo) (s t : State) : Prop where
  others : ∀ e : DevNo, e ≠ d → (t.devices[e]'e.isLt) = (s.devices[e]'e.isLt) := by exact fun _ _ => rfl
  cfg : (t.devices[d]'d.isLt).cfg = (s.devices[d]'d.isLt).cfg := by rfl
  occupancy : (t.devices[d]'d.isLt).live.occupancy = (s.devices[d]'d.isLt).live.occupancy := by rfl
  enabled : (t.devices[d]'d.isLt).live.state = .disabled → (s.devices[d]'d.isLt).live.state = .disabled := by exact fun h => h

theorem addOwed_owes (d : DevNo) (s : State) : Owes d s (addOwed d s) where
  others e he := by
    rw [addOwed, (takeOrder_ordered d _).others e he, addOwedCount_get, if_neg fun h => he h.1]
  cfg := (takeOrder_ordered d _).cfg.trans (State.modLive_cfg s d d _)
  occupancy := by
    rw [addOwed, (takeOrder_ordered d _).occupancy, addOwedCount_get]
    split <;> rfl
  enabled := (addOwed_quiet (fun _ => False) d s).enabled d

theorem addOwed_owed {d : DevNo} {s : State} (h : (s.devices[d]'d.isLt).live.state ≠ .disabled) :
    (addOwed d s).devices[d].live.owed = min 8 ((s.devices[d]'d.isLt).live.owed + 1) := by
  rw [addOwed, (takeOrder_ordered d _).owed, addOwedCount_get, if_pos ⟨rfl, h⟩]

theorem addOwedTimes_owes (d : DevNo) (n : Nat) (s : State) : Owes d s (addOwedTimes d n s) := by
  induction n generalizing s with
  | zero => exact {}
  | succ n ih =>
    obtain ⟨ho, hc, hocc, he⟩ := ih (addOwed d s)
    obtain ⟨ho1, hc1, hocc1, he1⟩ := addOwed_owes d s
    exact ⟨fun e hne => (ho e hne).trans (ho1 e hne), hc.trans hc1, hocc.trans hocc1, fun hs => he1 (he hs)⟩

/-- Several owed ejects raise the count by as many, held at 8 (R25). -/
theorem addOwedTimes_owed {d : DevNo} {s : State} (n : Nat) (h : (s.devices[d]'d.isLt).live.state ≠ .disabled)
    (h8 : (s.devices[d]'d.isLt).live.owed ≤ 8) :
    (addOwedTimes d n s).devices[d].live.owed = min 8 ((s.devices[d]'d.isLt).live.owed + n) := by
  induction n generalizing s with
  | zero => exact (Nat.min_eq_right h8).symm
  | succ n ih =>
    rw [addOwedTimes, ih (fun hd => h ((addOwed_owes d s).enabled hd)) (by rw [addOwed_owed h]; exact Nat.min_le_left 8 _),
      addOwed_owed h]
    omega

/-- Owed ejects leave the pages and the records of the game. -/
theorem addOwedTimes_pages (d : DevNo) (n : Nat) (s : State) : (addOwedTimes d n s).pages = s.pages := by
  obtain ⟨devices, coils, slots, b, h⟩ := OrderFrame.of_addOwedTimes d n s
  rw [h, State.raiseIf_pages]

/-! ### The capture decision (R94 to R97) and LIGHT_LOCK (R93) -/

theorem State.lockOf_lockDevice {s : State} {k : LockNo} (h : s.devices[lockDevice k].cfg.kind = .lock) :
    s.lockOf (lockDevice k) = some k := by
  rw [State.lockOf, if_pos h, lockNo_lockDevice]

theorem State.lockOf_eq_none {s : State} {d : DevNo} (h : d.val < 2 ∨ (s.devices[d]'d.isLt).cfg.kind ≠ .lock) :
    s.lockOf d = none := by
  cases hl : s.lockOf d with
  | none => rfl
  | some k =>
    obtain ⟨hk, rfl⟩ := State.lockOf_eq_some hl
    exact h.elim (fun hv => absurd hv (by simp [lockDevice])) (fun hn => (hn hk).elim)

theorem captureDecision_captured {s : State} {d : DevNo} {k : LockNo} (h : s.lockOf d = some k)
    (hr : s.rejection d k = none) : captureDecision d s = capture k s := by
  simp only [captureDecision, h, hr]

theorem captureDecision_rejected {s : State} {d : DevNo} {k : LockNo} {r : LockReason} (h : s.lockOf d = some k)
    (hr : s.rejection d k = some r) : captureDecision d s = reject d k r s := by
  simp only [captureDecision, h, hr]

/-- The reason of R94's table, NONE for a captured ball. -/
abbrev State.lockReason (s : State) (d : DevNo) (k : LockNo) : LockReason :=
  if s.acct.phase ≠ .play then .notPlay
  else if s.session.tilt = .tilted then .tilted
  else if (s.devices[d]'d.isLt).live.order ≠ .none ∨ 0 < (s.devices[d]'d.isLt).live.owed then .deviceBusy
  else if (s.pages[s.session.current]'s.session.current.isLt).lit[k] = 0 then .notLit
  else .none

theorem State.rejection_eq (s : State) (d : DevNo) (k : LockNo) : s.rejection d k =
    if s.lockReason d k = .none then none else some (s.lockReason d k) := by
  have htilt : s.isTilted = true ↔ s.session.tilt = .tilted := by simp [State.isTilted]
  simp only [State.rejection, State.lockReason, htilt, State.page]
  repeat' split
  all_goals first | rfl | simp_all

/-- The game of a captured entry, before the trough owes a replacement (R95). -/
def State.withCapture (s : State) (k : LockNo) : State :=
  (recordDecision k .captured .none (s.modCurrent fun g =>
    { g with lit := g.lit.set k (g.lit[k] - 1), credits := g.credits.set k (g.credits[k] + 1) })).raise .lockCaptured

theorem capture_eq (k : LockNo) (s : State) :
    capture k s = if s.ballsInPlay = 0 then addOwed trough (s.withCapture k) else s.withCapture k := rfl

theorem withCapture_page (s : State) (k : LockNo) (p : PlayerNo) : (s.withCapture k).pages[p] =
    if p = s.session.current then
      { s.page with lit := s.page.lit.set k (s.page.lit[k] - 1), credits := s.page.credits.set k (s.page.credits[k] + 1) }
    else (s.pages[p]'p.isLt) :=
  State.modPage_get s s.session.current p fun g =>
    { g with lit := g.lit.set k (g.lit[k] - 1), credits := g.credits.set k (g.credits[k] + 1) }

theorem capture_game (k : LockNo) (s : State) : (capture k s).pages = (s.withCapture k).pages ∧
    (capture k s).decisions = (s.withCapture k).decisions ∧
    ((s.withCapture k).isPending .lockCaptured = true → (capture k s).isPending .lockCaptured = true) := by
  rw [capture_eq]
  split
  · obtain ⟨devices, coils, slots, b, h⟩ := OrderFrame.of_addOwed trough (s.withCapture k)
    rw [h, State.raiseIf_pages, State.raiseIf_decisions, isPending_raiseIf]
    exact ⟨rfl, rfl, fun hp => Bool.or_eq_true_iff.mpr (.inl hp)⟩
  · exact ⟨rfl, rfl, id⟩

theorem lightLockRequest_unlit {s : State} {d : DevNo} {n : Byte} (ho : s.isOpen = true)
    (h : d.val < 2 ∨ (s.devices[d]'d.isLt).cfg.kind ≠ .lock ∨ n = 0) :
    lightLockRequest [byte d.val, n] s = refuse s .badValue := by
  cases hl : s.lockOf d with
  | none => simp [lightLockRequest, indexOf_byte d, ho, hl]
  | some k =>
    obtain ⟨hk, rfl⟩ := State.lockOf_eq_some hl
    obtain hv | hn | rfl := h
    · exact absurd hv (by simp [lockDevice])
    · exact (hn hk).elim
    · simp [lightLockRequest, indexOf_byte (lockDevice k), ho, hl]

theorem lightLockRequest_accepted {s : State} {d : DevNo} {k : LockNo} {n : Byte} (ho : s.isOpen = true)
    (hk : s.lockOf d = some k) (hn : n ≠ 0) : lightLockRequest [byte d.val, n] s =
      ok (lightLock d k n.toNat s)
        [byte (s.page.lit[k] + min n.toNat (s.lockRoom d k)), byte (n.toNat - min n.toNat (s.lockRoom d k))] := by
  have hlit : (lightLock d k n.toNat s).page.lit[k] = s.page.lit[k] + min n.toNat (s.lockRoom d k) := by
    simp [lightLock, State.page, State.modCurrent, State.modPage]
  simp only [lightLockRequest, indexOf_byte d, ho, hk, if_neg hn, hlit]
  rfl

/-- Settles O29. -/
theorem lockDecisionsAndLighting : Obligations.LockDecisionsAndLighting := by
  unfold Obligations.LockDecisionsAndLighting
  refine ⟨?_, ?_⟩
  · rintro s d k rfl hkind hdis
    intro reason t record
    have hlock : s.lockOf (lockDevice k) = some k := State.lockOf_lockDevice hkind
    have hrej : s.rejection (lockDevice k) k = if reason = .none then none else some reason := s.rejection_eq _ k
    refine ⟨fun hr => ?_, fun hr => ?_⟩
    · rw [if_neg hr] at hrej
      change captureDecision (lockDevice k) s = _
      have hcount : addOwedCount (lockDevice k) ((recordDecision k .rejected reason s).raise .lockRejected) =
          ((recordDecision k .rejected reason s).raise .lockRejected).modLive (lockDevice k) fun l =>
            { l with owed := min 8 (l.owed + 1) } := addOwedCount_eq hdis
      rw [captureDecision_rejected hlock hrej, reject, hcount]
      rfl
    · rw [if_pos hr] at hrej
      have hcap : t = capture k s := captureDecision_captured hlock hrej
      have hlit : (s.pages[s.session.current]'s.session.current.isLt).lit[k] ≠ 0 := by
        intro h0
        have hnot : s.rejection (lockDevice k) k ≠ none := by
          simp only [State.rejection, State.page, h0]
          repeat' split
          all_goals simp_all
        exact hnot hrej
      obtain ⟨hpages, hdec, hpend⟩ := capture_game k s
      rw [hcap, hpages, hdec]
      refine ⟨?_, hpend ?_, ?_, ?_, fun p hp => ?_, fun h0 => ?_, fun h0 htr => ?_⟩
      · change s.decisions.set k { outcome := .captured, reason := .none, player := _, stamp := _ } =
          s.decisions.set k { outcome := .captured, reason := reason, player := _, stamp := _ }
        rw [hr]
        rfl
      · rw [State.withCapture, isPending_raise]
        simp
      · rw [withCapture_page, if_pos rfl]
        dsimp only
        rw [vector_set_get, if_pos rfl]
        exact Nat.succ_pred_eq_of_ne_zero hlit
      · rw [withCapture_page, if_pos rfl]
        dsimp only
        rw [vector_set_get, if_pos rfl]
        rfl
      · rw [withCapture_page, if_neg hp]
      · rw [capture_eq, if_neg h0]
        rfl
      · rw [capture_eq, if_pos h0]
        exact addOwed_owed (s := s.withCapture k) htr
  · intro s n h
    refine ⟨fun d hd => ?_, fun d hc => ?_, fun d ho hb => ?_, fun k ho hk hn => ?_⟩
    · refine request_refused (run := lightLockRequest) h rfl ?_
      simp only [lightLockRequest, indexOf_none (Nat.lt_of_lt_of_le (by decide : 7 < 8) (Nat.succ_le_of_lt hd))]
    · refine request_refused (run := lightLockRequest) h rfl ?_
      have hclosed : (s.begun 2).isOpen = false := State.isOpen_of_closed hc
      simp only [lightLockRequest, indexOf_byte d, hclosed]
      rfl
    · exact request_refused (run := lightLockRequest) h rfl
        (lightLockRequest_unlit (s := s.begun 2) (State.isOpen_of_opened ho) hb)
    · exact request_done (run := lightLockRequest) h rfl (lightLockRequest_accepted (s := s.begun 2)
        (State.isOpen_of_opened ho) (State.lockOf_lockDevice hk) hn) rfl

/-! ### The reconciliation on a player change (R98) -/

/-- The owed ejects of a device after its reconciliation. -/
def State.owedAfter (s : State) (d : DevNo) : Nat :=
  if s.excess d = 0 then (s.devices[d]'d.isLt).live.owed else min 8 ((s.devices[d]'d.isLt).live.owed + s.excess d)

/-- The excess of a device depends on its own record and the current page. -/
theorem State.excess_congr {s t : State} {d : DevNo} (hd : (t.devices[d]'d.isLt) = (s.devices[d]'d.isLt)) (hp : t.page = s.page) :
    t.excess d = s.excess d := by
  simp only [State.excess, State.lockOf, State.heldBalls, hd, hp]

/-- One device of the reconciliation. -/
def reconcileStep (acc : State × Nat) (d : DevNo) : State × Nat :=
  (addOwedTimes d (acc.1.excess d) acc.1,
    acc.2 + ((addOwedTimes d (acc.1.excess d) acc.1).devices[d].live.owed - acc.1.devices[d].live.owed))

theorem reconcile_eq (s : State) : reconcile s = (indices 8).foldl reconcileStep (s, 0) := rfl

/-- What the reconciliation of one device does to it. -/
structure Reconciled (s t : State) (d : DevNo) : Prop where
  owed : (t.devices[d]'d.isLt).live.owed = s.owedAfter d
  occupancy : (t.devices[d]'d.isLt).live.occupancy = (s.devices[d]'d.isLt).live.occupancy
  same : s.excess d = 0 → (t.devices[d]'d.isLt) = (s.devices[d]'d.isLt)

theorem addOwedTimes_reconciled {s : State} {d : DevNo}
    (h : s.excess d ≠ 0 → (s.devices[d]'d.isLt).live.state ≠ .disabled ∧ (s.devices[d]'d.isLt).live.owed ≤ 8) :
    Reconciled s (addOwedTimes d (s.excess d) s) d := by
  by_cases h0 : s.excess d = 0
  · rw [h0]
    exact ⟨(if_pos h0).symm, rfl, fun _ => rfl⟩
  · obtain ⟨hstate, howed⟩ := h h0
    exact ⟨(addOwedTimes_owed _ hstate howed).trans (if_neg h0).symm, (addOwedTimes_owes d _ s).occupancy,
      fun h => (h0 h).elim⟩

theorem reconcile_foldl {l : List DevNo} (hl : l.Nodup) (acc : State × Nat)
    (h : ∀ d ∈ l, acc.1.excess d ≠ 0 → acc.1.devices[d].live.state ≠ .disabled ∧ acc.1.devices[d].live.owed ≤ 8) :
    OrderFrame acc.1 (l.foldl reconcileStep acc).1 ∧
    (∀ d ∉ l, (l.foldl reconcileStep acc).1.devices[d] = acc.1.devices[d]) ∧
    (∀ d ∈ l, Reconciled acc.1 (l.foldl reconcileStep acc).1 d) ∧
    (l.foldl reconcileStep acc).2 = acc.2 + (l.map fun d => acc.1.owedAfter d - acc.1.devices[d].live.owed).sum := by
  induction l generalizing acc with
  | nil => exact ⟨.refl _, fun _ _ => rfl, by simp, by simp⟩
  | cons d l ih =>
    obtain ⟨hdl, hl⟩ := List.nodup_cons.mp hl
    have hown := addOwedTimes_reconciled (h d List.mem_cons_self)
    have howes := addOwedTimes_owes d (acc.1.excess d) acc.1
    have hframe := OrderFrame.of_addOwedTimes d (acc.1.excess d) acc.1
    have hsame (e : DevNo) (he : e ∈ l) : (reconcileStep acc d).1.devices[e] = acc.1.devices[e] :=
      howes.others e fun hed => hdl (hed ▸ he)
    have hpage : (reconcileStep acc d).1.page = acc.1.page := by
      obtain ⟨devices, coils, slots, b, hf⟩ := hframe
      simp only [reconcileStep, hf, State.page, State.raiseIf_pages, State.raiseIf_session]
    have hexcess (e : DevNo) (he : e ∈ l) : (reconcileStep acc d).1.excess e = acc.1.excess e :=
      State.excess_congr (hsame e he) hpage
    have hafter (e : DevNo) (he : e ∈ l) : (reconcileStep acc d).1.owedAfter e = acc.1.owedAfter e := by
      rw [State.owedAfter, State.owedAfter, hexcess e he, hsame e he]
    obtain ⟨hf, hout, hin, hsum⟩ := ih hl (reconcileStep acc d) fun e he => by
      rw [hexcess e he, hsame e he]
      exact h e (List.mem_cons_of_mem d he)
    rw [List.foldl_cons]
    refine ⟨hframe.trans hf, fun e he => ?_, fun e he => ?_, ?_⟩
    · rw [List.mem_cons, not_or] at he
      exact (hout e he.2).trans (howes.others e he.1)
    · obtain rfl | he := List.mem_cons.mp he
      · have hlast := hout e hdl
        exact ⟨(congrArg (·.live.owed) hlast).trans hown.owed, (congrArg (·.live.occupancy) hlast).trans hown.occupancy,
          fun h0 => hlast.trans (hown.same h0)⟩
      · obtain ⟨h1, h2, h3⟩ := hin e he
        rw [hafter e he] at h1
        rw [hsame e he] at h2 h3
        exact ⟨h1, h2, fun h0 => h3 ((hexcess e he).trans h0)⟩
    · rw [hsum, List.map_cons, List.sum_cons, ← Nat.add_assoc]
      congr 1
      · exact congrArg (fun n => acc.2 + (n - acc.1.devices[d].live.owed)) hown.owed
      · refine congrArg List.sum (List.map_congr_left fun e he => ?_)
        rw [hafter e he, hsame e he]

theorem devices_eq_locks : indices 8 = trough :: shooter :: (indices 6).map lockDevice := by decide

/-- A sum over the devices that only the places of locks contribute to. -/
theorem sum_devices {f : DevNo → Nat} (h0 : f trough = 0) (h1 : f shooter = 0) :
    ((indices 8).map f).sum = ((indices 6).map fun k => f (lockDevice k)).sum := by
  rw [devices_eq_locks, List.map_cons, List.map_cons, List.sum_cons, List.sum_cons, h0, h1, List.map_map, Nat.zero_add,
    Nat.zero_add]
  rfl

theorem State.excess_eq_zero {s : State} {d : DevNo} (h : d.val < 2 ∨ (s.devices[d]'d.isLt).cfg.kind ≠ .lock) :
    s.excess d = 0 := by
  simp only [State.excess, State.lockOf_eq_none h]

theorem State.excess_lockDevice {s : State} (k : LockNo) : s.excess (lockDevice k) =
    if s.devices[lockDevice k].cfg.kind = .lock ∧ s.devices[lockDevice k].cfg.policy = .purge then
      s.devices[lockDevice k].live.occupancy - s.devices[lockDevice k].live.owed - s.page.credits[k]
    else 0 := by
  by_cases hk : s.devices[lockDevice k].cfg.kind = .lock
  · simp only [State.excess, State.lockOf_lockDevice hk, State.heldBalls, hk, true_and]
  · rw [if_neg fun h => hk h.1, State.excess_eq_zero (.inr hk)]

/-- The owed ejects of a LOCK after the reconciliation. -/
theorem State.owedAfter_lockDevice {s : State} {k : LockNo} (h8 : s.devices[lockDevice k].live.owed ≤ 8) :
    s.owedAfter (lockDevice k) = min 8 (s.devices[lockDevice k].live.owed + s.excess (lockDevice k)) := by
  rw [State.owedAfter]
  split
  · next h => rw [h]; exact (Nat.min_eq_right h8).symm
  · rfl

theorem State.owedAfter_eq_owed {s : State} {d : DevNo} (h : d.val < 2 ∨ (s.devices[d]'d.isLt).cfg.kind ≠ .lock) :
    s.owedAfter d = (s.devices[d]'d.isLt).live.owed := if_pos (State.excess_eq_zero h)

/-- The link of a request's state, whatever its owner did to the other records. -/
theorem prepare_link {s t : State} (n : Nat) (r : Reply) (h : t.link = (s.begun n).link) :
    (prepare r t).link = s.link.after n r := by
  change { t.link with executing := some r } = _
  rw [h]
  rfl

/-- The session and the phase as SET_PLAYER leaves them before it reconciles. -/
def State.withPlayer (s : State) (p : PlayerNo) : State :=
  setPhase .noPlay (s.modSession fun r => { r with current := p })

@[simp] theorem State.begun_pfMult (s : State) (n : Nat) : (s.begun n).pfMult = s.pfMult := rfl
@[simp] theorem State.begun_pfTimer (s : State) (n : Nat) : (s.begun n).pfTimer = s.pfTimer := rfl

theorem withPlayer_frame (s : State) (p : PlayerNo) : (s.withPlayer p).devices = s.devices ∧
    (s.withPlayer p).pages = s.pages ∧ (s.withPlayer p).pfMult = s.pfMult ∧ (s.withPlayer p).pfTimer = s.pfTimer ∧
    (s.withPlayer p).link = s.link := by
  simp only [State.withPlayer, setPhase, State.modAcct_devices, State.modAcct_pages, State.modAcct_pfMult,
    State.modAcct_pfTimer, State.modAcct_link]
  exact ⟨rfl, rfl, rfl, rfl, rfl⟩

theorem setPlayer_eq {s : State} (p : PlayerNo) (ho : s.isOpen = true) : setPlayer [byte p.val] s =
    if s.session.players ≤ p.val then refuse s .badValue
    else if s.acct.phase ≠ .noPlay ∧ s.acct.phase ≠ .ended then refuse s .refusedState
    else ok (holdTimers (reconcile (s.withPlayer p)).1)
      [byte (reconcile (s.withPlayer p)).1.session.current.val, byte (reconcile (s.withPlayer p)).2] := by
  simp only [setPlayer, ho, indexOf_byte p, State.withPlayer]
  generalize reconcile (setPhase .noPlay (s.modSession fun r => { r with current := p })) = r
  rfl

/-- What the reconciliation changes of the records of the game: nothing. -/
theorem OrderFrame.game {s t : State} (h : OrderFrame s t) : t.session = s.session ∧ t.pages = s.pages ∧
    t.acct = s.acct ∧ t.pfMult = s.pfMult ∧ t.pfTimer = s.pfTimer ∧ t.link = s.link := by
  obtain ⟨devices, coils, slots, b, rfl⟩ := h
  cases b <;> exact ⟨rfl, rfl, rfl, rfl, rfl, rfl⟩

/-- The reconciliation as a whole. -/
theorem reconcile_spec {s : State} (h : ∀ d : DevNo, (s.devices[d]'d.isLt).cfg.kind = .lock →
      (s.devices[d]'d.isLt).live.state ≠ .disabled ∧ (s.devices[d]'d.isLt).live.owed ≤ 8) :
    OrderFrame s (reconcile s).1 ∧ (∀ d : DevNo, Reconciled s (reconcile s).1 d) ∧
      (reconcile s).2 = ((indices 6).map fun k =>
        if s.devices[lockDevice k].cfg.kind = .lock then s.owedAfter (lockDevice k) - s.devices[lockDevice k].live.owed
        else 0).sum := by
  obtain ⟨hframe, -, hin, hsum⟩ := reconcile_foldl (nodup_indices 8) (s, 0) fun d _ hd => h d (by
    by_contra hk
    exact hd (State.excess_eq_zero (.inr hk)))
  rw [← reconcile_eq] at hframe hin hsum
  refine ⟨hframe, fun d => hin d (mem_indices d), ?_⟩
  have hzero {d : DevNo} (hd : d.val < 2 ∨ (s.devices[d]'d.isLt).cfg.kind ≠ .lock) :
      s.owedAfter d - (s.devices[d]'d.isLt).live.owed = 0 := by rw [State.owedAfter_eq_owed hd, Nat.sub_self]
  rw [hsum, Nat.zero_add, sum_devices (hzero (.inl (by decide))) (hzero (.inl (by decide)))]
  refine congrArg List.sum (List.map_congr_left fun k _ => ?_)
  split
  · rfl
  · next hk => exact hzero (.inr hk)

theorem OrderFrame.options {s t : State} (h : OrderFrame s t) : t.options = s.options := by
  obtain ⟨devices, coils, slots, b, rfl⟩ := h
  cases b <;> rfl

/-- Settles O44. -/
theorem setPlayerReconcilesTheLocks : Obligations.SetPlayerReconcilesTheLocks := by
  unfold Obligations.SetPlayerReconcilesTheLocks
  intro s h
  refine ⟨fun p hc => ?_, fun p ho hp => ?_, fun p ho hp => ?_, fun p ho hp hph => ?_, fun p ho hp hph hlocks => ?_⟩
  · exact request_refused (run := setPlayer) h rfl (if_pos (by rw [State.begun_isOpen, State.isOpen_of_closed hc]; rfl))
  · refine request_refused (run := setPlayer) h rfl ?_
    have hopen : (s.begun 1).isOpen = true := State.isOpen_of_opened ho
    simp only [setPlayer, hopen, indexOf_none (show 4 ≤ p.toNat from hp)]
    rfl
  · exact request_refused (run := setPlayer) h rfl
      ((setPlayer_eq (s := s.begun 1) p (State.isOpen_of_opened ho)).trans (if_pos hp))
  · exact request_refused (run := setPlayer) h rfl
      ((setPlayer_eq (s := s.begun 1) p (State.isOpen_of_opened ho)).trans
        ((if_neg (Nat.not_le.mpr hp)).trans (if_pos hph)))
  · intro excess owed
    have hrest : ¬ (s.acct.phase ≠ .noPlay ∧ s.acct.phase ≠ .ended) := fun hn => hph.elim hn.1 hn.2
    refine ⟨_, request_ok (run := setPlayer) h rfl
      ((setPlayer_eq (s := s.begun 1) p (State.isOpen_of_opened ho)).trans
        ((if_neg (Nat.not_le.mpr hp)).trans (if_neg hrest))), ?_⟩
    obtain ⟨hdevices, hpages, hmult, htimer, hlink⟩ := withPlayer_frame (s.begun 1) p
    rw [State.begun_devices] at hdevices
    rw [State.begun_pages] at hpages
    rw [State.begun_pfMult] at hmult
    rw [State.begun_pfTimer] at htimer
    have hsession : ((s.begun 1).withPlayer p).session = { s.session with current := p } := rfl
    have hphase : ((s.begun 1).withPlayer p).acct.phase = .noPlay := rfl
    have hpage : ((s.begun 1).withPlayer p).page = (s.pages[p]'p.isLt) := by
      simp only [State.page, hpages]
      rfl
    generalize (s.begun 1).withPlayer p = u at hdevices hpage hsession hphase hmult htimer hpages hlink ⊢
    obtain ⟨hframe, hdev, hsum⟩ := reconcile_spec (s := u) (by rw [hdevices]; exact hlocks)
    have howed (k : LockNo) (hk : s.devices[lockDevice k].cfg.kind = .lock) : u.owedAfter (lockDevice k) = owed k := by
      rw [State.owedAfter_lockDevice (by rw [hdevices]; exact (hlocks _ hk).2), State.excess_lockDevice, hdevices, hpage]
    have hreply : (reconcile u).2 = ((indices 6).map fun k =>
        if s.devices[lockDevice k].cfg.kind = .lock then owed k - s.devices[lockDevice k].live.owed else 0).sum := by
      refine hsum.trans (congrArg List.sum (List.map_congr_left fun k _ => ?_))
      rw [hdevices]
      split
      · next hk => rw [howed k hk]
      · rfl
    rw [hreply]
    generalize (reconcile u).1 = r at hframe hdev ⊢
    obtain ⟨hsession1, hpages1, hacct1, hmult1, htimer1, hlink1⟩ := hframe.game
    refine ⟨(congrArg (·.phase) hacct1).trans hphase, hsession1.trans hsession, hmult1.trans hmult,
      htimer1.trans htimer, fun q => ?_, fun k hk => ?_, fun d hd => ?_, fun d => ?_, ?_⟩
    · obtain ⟨hscore, -, hlit, hcredits, -⟩ := holdTimers_page r q
      rw [hpages1, hpages] at hscore hlit hcredits
      exact ⟨hscore, hcredits, hlit⟩
    · exact (hdev (lockDevice k)).owed.trans (howed k hk)
    · refine ((hdev d).same (State.excess_eq_zero ?_)).trans ?_
      · rw [hdevices]
        exact hd
      · rw [hdevices]
    · refine (hdev d).occupancy.trans ?_
      rw [hdevices]
    · have hcurrent : r.session.current = p := by rw [hsession1, hsession]
      rw [hcurrent]
      exact prepare_link 1 _ ((holdTimers_link r).trans (hlink1.trans hlink))

end Sys2Proof.Machine

/-! The start of a multiball (R100 to R103). -/

namespace Sys2Proof.Machine

/-! ### The locks of a mask -/

/-- Whether a lock place is in the mask and its device is a LOCK. -/
def State.masked (s : State) (mask : Byte) (k : LockNo) : Bool :=
  mask.getLsbD (lockDevice k).val && s.devices[lockDevice k].cfg.kind == .lock

theorem State.masked_iff {s : State} {mask : Byte} {k : LockNo} : s.masked mask k = true ↔
    mask.getLsbD (lockDevice k).val = true ∧ s.devices[lockDevice k].cfg.kind = .lock := by
  rw [State.masked, Bool.and_eq_true, beq_iff_eq]

/-- The lock places of a mask, in ascending number. -/
def State.maskedPlaces (s : State) (mask : Byte) : List LockNo := (indices 6).filter (s.masked mask)

theorem maskedLocks_eq (s : State) (mask : Byte) :
    s.maskedLocks mask = (s.maskedPlaces mask).map fun k => (lockDevice k, k) := by
  have hnone {d : DevNo} (hd : d.val < 2) : (if mask.getLsbD d.val then (s.lockOf d).map fun k => (d, k) else none) =
      none := by
    rw [State.lockOf_eq_none (.inl hd)]
    exact ite_self _
  rw [State.maskedLocks, devices_eq_locks, List.filterMap_cons, hnone (d := trough) (by decide), List.filterMap_cons,
    hnone (d := shooter) (by decide), List.filterMap_map, State.maskedPlaces, ← List.filterMap_eq_map,
    List.filterMap_filter]
  refine List.filterMap_congr fun k _ => ?_
  change (if mask.getLsbD (lockDevice k).val = true then (s.lockOf (lockDevice k)).map fun j => (lockDevice k, j)
    else none) = if s.masked mask k = true then some (lockDevice k, k) else none
  by_cases hk : s.devices[lockDevice k].cfg.kind = .lock
  · rw [State.lockOf_lockDevice hk]
    exact if_congr (State.masked_iff.trans (and_iff_left hk)).symm rfl rfl
  · rw [State.lockOf_eq_none (.inr hk), Option.map_none, ite_self, if_neg fun h => hk (State.masked_iff.mp h).2]

/-- A sum over the locks of a mask. -/
theorem sum_maskedPlaces (s : State) (mask : Byte) (f : LockNo → Nat) :
    ((s.maskedPlaces mask).map f).sum = ((indices 6).map fun k => if s.masked mask k then f k else 0).sum := by
  rw [State.maskedPlaces]
  induction indices 6 with
  | nil => rfl
  | cons k l ih =>
    rw [List.filter_cons, List.map_cons, List.sum_cons, ← ih]
    split
    · rw [List.map_cons, List.sum_cons]
    · rw [Nat.zero_add]

/-! ### Sourcing the locks (R101) -/

/-- The balls a lock gives for a multiball. -/
def State.gives (s : State) (k : LockNo) : Nat := min s.page.credits[k] (s.heldBalls (lockDevice k))

/-- What sourcing the locks of a list does. -/
structure Sourced (l : List LockNo) (s t : State) : Prop where
  link : t.link = s.link := by rfl
  options : t.options = s.options := by rfl
  acct : t.acct = s.acct := by rfl
  session : t.session = s.session := by rfl
  others : ∀ d : DevNo, (∀ k ∈ l, d ≠ lockDevice k) → (t.devices[d]'d.isLt) = (s.devices[d]'d.isLt) := by exact fun _ _ => rfl
  cfg : ∀ d : DevNo, (t.devices[d]'d.isLt).cfg = (s.devices[d]'d.isLt).cfg := by exact fun _ => rfl
  occupancy : ∀ d : DevNo, (t.devices[d]'d.isLt).live.occupancy = (s.devices[d]'d.isLt).live.occupancy := by exact fun _ => rfl
  owed : ∀ k ∈ l, s.devices[lockDevice k].live.state ≠ .disabled → s.devices[lockDevice k].live.owed ≤ 8 →
    t.devices[lockDevice k].live.owed = min 8 (s.devices[lockDevice k].live.owed + s.gives k)
  score : t.page.score = s.page.score := by rfl
  lit : t.page.lit = s.page.lit := by rfl
  credits : ∀ k : LockNo, t.page.credits[k] = if k ∈ l then 0 else s.page.credits[k]

theorem lockDevice_inj {j k : LockNo} (h : lockDevice j = lockDevice k) : j = k := by
  simpa [lockDevice, Fin.ext_iff] using h

theorem sourceLock_sourced (k : LockNo) (s : State) : Sourced [k] s (sourceLock (lockDevice k) k s) := by
  have howes := addOwedTimes_owes (lockDevice k) (s.gives k) s
  have hgame := (OrderFrame.of_addOwedTimes (lockDevice k) (s.gives k) s).game
  have hoptions := (OrderFrame.of_addOwedTimes (lockDevice k) (s.gives k) s).options
  have howed (hd : s.devices[lockDevice k].live.state ≠ .disabled) (h8 : s.devices[lockDevice k].live.owed ≤ 8) :=
    addOwedTimes_owed (s.gives k) hd h8
  change Sourced [k] s ((addOwedTimes (lockDevice k) (s.gives k) s).modCurrent fun g =>
    { g with credits := g.credits.set k 0 })
  generalize addOwedTimes (lockDevice k) (s.gives k) s = t at *
  obtain ⟨hsession, hpages, hacct, -, -, hlink⟩ := hgame
  have hpage : (t.modCurrent fun g => { g with credits := g.credits.set k 0 }).page =
      { s.page with credits := s.page.credits.set k 0 } := by
    refine (State.modPage_get t t.session.current t.session.current _).trans ?_
    simp only [State.page, hsession, hpages, if_true]
  have hdevice (d : DevNo) : (t.modCurrent fun g => { g with credits := g.credits.set k 0 }).devices[d] =
      (t.devices[d]'d.isLt) := rfl
  have hother (d : DevNo) (hd : d ≠ lockDevice k) : (t.devices[d]'d.isLt) = (s.devices[d]'d.isLt) := howes.others d hd
  refine ⟨hlink, hoptions, hacct, hsession, fun d hd => ?_, fun d => ?_, fun d => ?_,
    fun j hj hd h8 => ?_, ?_, ?_, fun j => ?_⟩
  · rw [hdevice]
    exact hother d (hd k List.mem_cons_self)
  · rw [hdevice]
    by_cases hd : d = lockDevice k
    · exact hd ▸ howes.cfg
    · rw [hother d hd]
  · rw [hdevice]
    by_cases hd : d = lockDevice k
    · exact hd ▸ howes.occupancy
    · rw [hother d hd]
  · obtain rfl := List.mem_singleton.mp hj
    rw [hdevice]
    exact howed hd h8
  · rw [hpage]
  · rw [hpage]
  · rw [hpage]
    exact (vector_set_get _ k j 0).trans (if_congr List.mem_singleton.symm rfl rfl)

theorem sourceLocks_sourced {l : List LockNo} (hl : l.Nodup) (s : State) :
    Sourced l s (l.foldl (fun t k => sourceLock (lockDevice k) k t) s) := by
  induction l generalizing s with
  | nil => exact { owed := by simp, credits := by simp }
  | cons k l ih =>
    obtain ⟨hkl, hl⟩ := List.nodup_cons.mp hl
    have h := sourceLock_sourced k s
    have g := ih hl (sourceLock (lockDevice k) k s)
    rw [List.foldl_cons]
    generalize sourceLock (lockDevice k) k s = t at *
    have hsame (j : LockNo) (hj : j ≠ k) : t.devices[lockDevice j] = s.devices[lockDevice j] :=
      h.others _ fun i hi he => hj ((lockDevice_inj he).trans (List.mem_singleton.mp hi))
    have hgives (j : LockNo) (hj : j ≠ k) : t.gives j = s.gives j := by
      rw [State.gives, State.gives, State.heldBalls, State.heldBalls, hsame j hj, h.credits,
        if_neg fun hm => hj (List.mem_singleton.mp hm)]
    refine ⟨g.link.trans h.link, g.options.trans h.options, g.acct.trans h.acct, g.session.trans h.session,
      fun d hd => ?_, fun d => (g.cfg d).trans (h.cfg d), fun d => (g.occupancy d).trans (h.occupancy d),
      fun j hj hd h8 => ?_, g.score.trans h.score, g.lit.trans h.lit, fun j => ?_⟩
    · rw [g.others d fun j hj => hd j (List.mem_cons_of_mem k hj), h.others d fun j hj =>
        hd j (List.mem_cons.mpr (.inl (List.mem_singleton.mp hj)))]
    · obtain rfl | hjl := List.mem_cons.mp hj
      · rw [g.others _ fun i hi he => hkl ((congrArg (· ∈ l) (lockDevice_inj he)).mpr hi)]
        exact h.owed j List.mem_cons_self hd h8
      · have hne : j ≠ k := fun he => hkl (he ▸ hjl)
        rw [← hsame j hne] at hd h8
        rw [g.owed j hjl hd h8, hsame j hne, hgives j hne]
    · rw [g.credits, h.credits]
      simp only [List.mem_cons]
      by_cases hjl : j ∈ l
      · rw [if_pos hjl, if_pos (.inr hjl)]
      · rw [if_neg hjl]
        exact if_congr (by simp [hjl]) rfl rfl

/-! ### The start as a whole (R100 to R103) -/

/-- The state in which the locks have been sourced. -/
def State.sourced (s : State) (mask : Byte) : State :=
  (s.maskedPlaces mask).foldl (fun t k => sourceLock (lockDevice k) k t) s

theorem sourced_spec (s : State) (mask : Byte) : Sourced (s.maskedPlaces mask) s (s.sourced mask) :=
  sourceLocks_sourced ((nodup_indices 6).filter _) s

/-- The balls that the locks of a mask cannot give. -/
def State.deficits (s : State) (mask : Byte) : Nat :=
  ((s.maskedPlaces mask).map fun k => s.page.credits[k] - s.gives k).sum

/-- The credits at the locks of a mask. -/
def State.maskedCredits (s : State) (mask : Byte) : Nat := ((s.maskedPlaces mask).map fun k => s.page.credits[k]).sum

/-- The balls the trough owes over the credits. -/
def State.extraBalls (s : State) (target : Nat) (mask : Byte) : Nat :=
  min 8 (max 2 target) - (s.acct.inPlay + s.maskedCredits mask)

/-- The state in which the trough owes its balls. -/
def State.multiballServed (s : State) (target : Nat) (mask : Byte) : State :=
  addOwedTimes trough (s.deficits mask + s.extraBalls target mask) (s.sourced mask)

/-- The state of a multiball start before its close. -/
def State.multiballSaved (s : State) (target : Nat) (mask : Byte) (saveTime : Nat) : State :=
  if 0 < saveTime then saveActive saveTime (s.multiballServed target mask) else s.multiballServed target mask

theorem sum_sub {α : Type} (l : List α) {f g : α → Nat} (h : ∀ a, g a ≤ f a) :
    (l.map f).sum - (l.map g).sum = (l.map fun a => f a - g a).sum := by
  have hadd : (l.map fun a => f a - g a).sum + (l.map g).sum = (l.map f).sum := by
    rw [← List.sum_map_add]
    exact congrArg List.sum (List.map_congr_left fun a _ => Nat.sub_add_cancel (h a))
  omega

theorem startMultiball_eq (target : Nat) (mask : Byte) (saveTime : Nat) (s : State) :
    startMultiball target mask saveTime s = (closeEvent s (s.multiballSaved target mask saveTime),
      { target := min 8 (max 2 target), lockBalls := ((s.maskedPlaces mask).map s.gives).sum,
        deficits := s.deficits mask, extra := s.extraBalls target mask,
        added := (s.multiballServed target mask).devices[trough].live.owed -
          (s.sourced mask).devices[trough].live.owed }) := by
  have hdef : s.maskedCredits mask - ((s.maskedPlaces mask).map s.gives).sum = s.deficits mask :=
    sum_sub _ fun k => Nat.min_le_left _ _
  simp only [startMultiball, maskedLocks_eq, List.map_map, List.foldl_map]
  rw [State.multiballSaved, State.multiballServed, State.extraBalls, ← hdef]
  rfl

theorem saucers_congr {s t : State} (hcfg : ∀ d : DevNo, (t.devices[d]'d.isLt).cfg = (s.devices[d]'d.isLt).cfg)
    (hocc : ∀ d : DevNo, (t.devices[d]'d.isLt).live.occupancy = (s.devices[d]'d.isLt).live.occupancy) :
    ((indices 8).map fun d => if (t.devices[d]'d.isLt).cfg.kind = .saucer then (t.devices[d]'d.isLt).live.occupancy else 0) =
      (indices 8).map fun d => if (s.devices[d]'d.isLt).cfg.kind = .saucer then (s.devices[d]'d.isLt).live.occupancy else 0 :=
  List.map_congr_left fun d _ => by rw [hcfg, hocc]

/-- The close of an event that leaves balls in play, in the phase PLAY. -/
theorem closeEvent_play {before s : State} (hp : s.acct.phase = .play) (hb : s.ballsInPlay ≠ 0)
    (hl : s.loose = before.loose) : (closeEvent before s).acct.inPlay = (closeEvent before s).ballsInPlay ∧
      (closeEvent before s).acct.saveState = s.acct.saveState ∧
      ((s.acct.saveTimer.due = false) → (closeEvent before s).acct.saveTimer = s.acct.saveTimer) := by
  rw [(closeEvent_closing before s).ballsInPlay]
  have hform : closeEvent before s = holdTimers (formPlay s) := by
    have hends : ¬ (before.loose ≠ 0 ∧ before.loose = 0) := fun h => h.1 h.2
    have hloads : ¬ (before.loose = 0 ∧ before.loose ≠ 0) := fun h => h.2 h.1
    simp only [closeEvent, hl, if_neg hends, if_neg hloads]
  have hplay : (formPlay s).acct.inPlay = s.ballsInPlay ∧ (formPlay s).acct.saveState = s.acct.saveState ∧
      (formPlay s).acct.saveTimer = s.acct.saveTimer := by
    simp only [formPlay, State.modAcct_acct, hp, if_neg hb]
    repeat' split
    all_goals exact ⟨rfl, rfl, rfl⟩
  obtain ⟨h1, h2, h3⟩ := hplay
  rw [hform]
  refine ⟨h1, h2, fun hdue => ?_⟩
  change Timer.keepIf _ (formPlay s).acct.saveTimer = _
  rw [h3, Timer.keepIf, hdue, Bool.false_and, ← hdue]

theorem addOwedTimes_some {d : DevNo} {s : State} (n : Nat) (h : (s.devices[d]'d.isLt).live.state ≠ .disabled)
    (h1 : 1 ≤ (s.devices[d]'d.isLt).live.owed) : 1 ≤ (addOwedTimes d n s).devices[d].live.owed := by
  induction n generalizing s with
  | zero => exact h1
  | succ n ih =>
    refine ih (fun hd => h ((addOwed_owes d s).enabled hd)) ?_
    rw [addOwed_owed h]
    omega

/-- What the start leaves of the records before its close. -/
structure Multiballed (s t : State) (mask : Byte) (owes saveTime : Nat) : Prop where
  link : t.link = s.link
  session : t.session = s.session
  phase : t.acct.phase = s.acct.phase
  live : t.acct.live = s.acct.live
  missing : t.acct.missing = s.acct.missing
  flights : t.acct.flights = s.acct.flights
  savesUsed : t.acct.savesUsed = s.acct.savesUsed
  saveState : t.acct.saveState = if saveTime = 0 then s.acct.saveState else .active
  saveTimer : t.acct.saveTimer = if saveTime = 0 then s.acct.saveTimer else .load saveTime
  score : t.page.score = s.page.score
  lit : t.page.lit = s.page.lit
  credits : ∀ k : LockNo, t.page.credits[k] = if s.masked mask k then 0 else s.page.credits[k]
  cfg : ∀ d : DevNo, (t.devices[d]'d.isLt).cfg = (s.devices[d]'d.isLt).cfg
  occupancy : ∀ d : DevNo, (t.devices[d]'d.isLt).live.occupancy = (s.devices[d]'d.isLt).live.occupancy
  locks : ∀ k : LockNo, s.masked mask k = true → s.devices[lockDevice k].live.state ≠ .disabled →
    s.devices[lockDevice k].live.owed ≤ 8 →
    t.devices[lockDevice k].live.owed = min 8 (s.devices[lockDevice k].live.owed + s.gives k)
  filled : (s.devices[trough]'trough.isLt).live.owed ≤ 8 →
    (t.devices[trough]'trough.isLt).live.owed = min 8 ((s.devices[trough]'trough.isLt).live.owed + owes)
  owing : 1 ≤ (s.devices[trough]'trough.isLt).live.owed → 1 ≤ (t.devices[trough]'trough.isLt).live.owed

theorem multiballServed_spec {s : State} (target : Nat) (mask : Byte) (htrough : (s.devices[trough]'trough.isLt).live.state ≠ .disabled) :
    Multiballed s (s.multiballServed target mask) mask (s.deficits mask + s.extraBalls target mask) 0 := by
  have h := sourced_spec s mask
  have hplaces (k : LockNo) : k ∈ s.maskedPlaces mask ↔ s.masked mask k = true :=
    List.mem_filter.trans (and_iff_right (mem_indices k))
  have hlock (k : LockNo) : lockDevice k ≠ trough := fun he => absurd (congrArg Fin.val he) (by simp [lockDevice, trough])
  have htr : (s.sourced mask).devices[trough] = (s.devices[trough]'trough.isLt) := h.others trough fun k _ he => hlock k he.symm
  rw [State.multiballServed]
  generalize s.deficits mask + s.extraBalls target mask = n
  have howes := addOwedTimes_owes trough n (s.sourced mask)
  have hgame := (OrderFrame.of_addOwedTimes trough n (s.sourced mask)).game
  have howed := addOwedTimes_owed (d := trough) (s := s.sourced mask) n
  have hsome := addOwedTimes_some (d := trough) (s := s.sourced mask) n
  rw [htr] at howed hsome
  generalize addOwedTimes trough n (s.sourced mask) = t at *
  generalize s.sourced mask = u at *
  obtain ⟨hsession, hpages, hacct, -, -, hlink⟩ := hgame
  have hpage : t.page = u.page := by simp only [State.page, hsession, hpages]
  have hacct : t.acct = s.acct := hacct.trans h.acct
  refine ⟨hlink.trans h.link, hsession.trans h.session, by rw [hacct], by rw [hacct], by rw [hacct], by rw [hacct],
    by rw [hacct], by rw [hacct, if_pos rfl], by rw [hacct, if_pos rfl], by rw [hpage, h.score], by rw [hpage, h.lit],
    fun k => ?_, fun d => ?_, fun d => ?_, fun k hk hd h8 => ?_, howed htrough, hsome htrough⟩
  · rw [hpage, h.credits]
    exact if_congr (hplaces k) rfl rfl
  · by_cases hd : d = trough
    · exact hd ▸ howes.cfg.trans (h.cfg trough)
    · rw [howes.others d hd, h.cfg]
  · by_cases hd : d = trough
    · exact hd ▸ howes.occupancy.trans (h.occupancy trough)
    · rw [howes.others d hd, h.occupancy]
  · rw [howes.others _ (hlock k), h.owed k ((hplaces k).mpr hk) hd h8]

theorem multiballSaved_spec {s : State} (target : Nat) (mask : Byte) (saveTime : Nat)
    (htrough : (s.devices[trough]'trough.isLt).live.state ≠ .disabled) : Multiballed s (s.multiballSaved target mask saveTime) mask
      (s.deficits mask + s.extraBalls target mask) saveTime := by
  have h := multiballServed_spec target mask htrough
  rw [State.multiballSaved]
  obtain rfl | hpos := Nat.eq_zero_or_pos saveTime
  · exact h
  · rw [if_pos hpos]
    exact { h with saveState := (if_neg (Nat.ne_of_gt hpos)).symm, saveTimer := (if_neg (Nat.ne_of_gt hpos)).symm }

theorem Multiballed.ballsInPlay {s t : State} {mask : Byte} {owes saveTime : Nat} (h : Multiballed s t mask owes saveTime)
    (hb : 1 ≤ s.ballsInPlay) : t.ballsInPlay ≠ 0 := by
  have howing := h.owing
  rw [State.ballsInPlay] at hb ⊢
  rw [saucers_congr h.cfg h.occupancy, h.live, h.missing, h.flights, h.occupancy]
  omega

/-- What a multiball start does, its close included. -/
structure Started (s t : State) (target : Nat) (mask : Byte) (saveTime : Nat) : Prop where
  link : t.link = s.link
  score : (t.pages[s.session.current]'s.session.current.isLt).score = s.page.score
  lit : (t.pages[s.session.current]'s.session.current.isLt).lit = s.page.lit
  credits : ∀ k : LockNo, (t.pages[s.session.current]'s.session.current.isLt).credits[k] = if s.masked mask k then 0 else s.page.credits[k]
  locks : ∀ k : LockNo, s.masked mask k = true → s.devices[lockDevice k].live.owed ≤ 8 →
    t.devices[lockDevice k].live.owed = min 8 (s.devices[lockDevice k].live.owed + s.gives k)
  filled : (s.devices[trough]'trough.isLt).live.owed ≤ 8 → (t.devices[trough]'trough.isLt).live.owed =
    min 8 ((s.devices[trough]'trough.isLt).live.owed + (s.deficits mask + s.extraBalls target mask))
  saveState : t.acct.saveState = if saveTime = 0 then s.acct.saveState else .active
  saveTimer : saveTime ≠ 0 → t.acct.saveTimer = .load saveTime
  savesUsed : t.acct.savesUsed = s.acct.savesUsed
  inPlay : t.acct.inPlay = t.ballsInPlay

theorem startMultiball_started {s : State} (target : Nat) (mask : Byte) (saveTime : Nat) (hp : s.acct.phase = .play)
    (hb : 1 ≤ s.ballsInPlay) (htrough : (s.devices[trough]'trough.isLt).live.state ≠ .disabled)
    (hlocks : ∀ d : DevNo, (s.devices[d]'d.isLt).cfg.kind = .lock → (s.devices[d]'d.isLt).live.state ≠ .disabled) :
    Started s (startMultiball target mask saveTime s).1 target mask saveTime := by
  have h := multiballSaved_spec target mask saveTime htrough
  rw [startMultiball_eq]
  dsimp only
  generalize s.multiballSaved target mask saveTime = u at h
  have hclose := closeEvent_closing s u
  have hloose : u.loose = s.loose := by rw [State.loose, State.loose, h.live, h.missing]
  obtain ⟨hin, hstate, htimer⟩ := closeEvent_play (h.phase.trans hp) (h.ballsInPlay hb) hloose
  have hlink : (closeEvent s u).link = u.link := congrArg Kept.link hclose.kept
  generalize closeEvent s u = t at *
  have hpage : (u.pages[s.session.current]'s.session.current.isLt) = u.page := by simp only [State.page, h.session]
  refine ⟨hlink.trans h.link, ?_, ?_, fun k => ?_, fun k hk h8 => ?_, fun h8 => ?_, hstate.trans h.saveState,
    fun hsave => ?_, hclose.savesUsed.trans h.savesUsed, hin⟩
  · rw [hclose.score, hpage, h.score]
  · rw [hclose.lit, hpage, h.lit]
  · rw [hclose.credits, hpage, h.credits]
  · rw [hclose.devices, h.locks k hk (hlocks _ (State.masked_iff.mp hk).2) h8]
  · rw [hclose.devices, h.filled h8]
  · rw [htimer (by rw [h.saveTimer, if_neg hsave]; rfl), h.saveTimer, if_neg hsave]

theorem multiballServed_owed {s : State} {target : Nat} {mask : Byte} (htrough : (s.devices[trough]'trough.isLt).live.state ≠ .disabled)
    (h8 : (s.devices[trough]'trough.isLt).live.owed ≤ 8) :
    (s.multiballServed target mask).devices[trough].live.owed - (s.sourced mask).devices[trough].live.owed =
      min 8 ((s.devices[trough]'trough.isLt).live.owed + s.deficits mask + s.extraBalls target mask) - (s.devices[trough]'trough.isLt).live.owed := by
  have hsame : (s.sourced mask).devices[trough] = (s.devices[trough]'trough.isLt) := (sourced_spec s mask).others trough fun k _ he =>
    absurd (congrArg Fin.val he) (by simp [lockDevice, trough])
  rw [(multiballServed_spec target mask htrough).filled h8, hsame, Nat.add_assoc]

theorem startMultiballRequest_eq {s : State} (ha : s.multiballAccepted = true) (target mask t1 t0 : Byte) :
    startMultiballRequest [target, mask, t1, t0] s =
      ok (startMultiball target.toNat mask (word16 t1 t0) s).1
        [byte (min 8 (max 2 target.toNat)), byte ((s.maskedPlaces mask).map s.gives).sum, byte (s.deficits mask),
         byte (s.extraBalls target.toNat mask),
         byte ((s.multiballServed target.toNat mask).devices[trough].live.owed -
          (s.sourced mask).devices[trough].live.owed)] := by
  simp only [startMultiballRequest, ha, startMultiball_eq]
  rfl

theorem State.multiballAccepted_iff (s : State) : s.multiballAccepted = true ↔
    s.acct.phase = .play ∧ s.session.tilt ≠ .tilted := by
  simp [State.multiballAccepted, State.isTilted]

/-- Settles O30. -/
theorem startMultiballSourcesBalls : Obligations.StartMultiballSourcesBalls := by
  unfold Obligations.StartMultiballSourcesBalls
  intro s target mask t1 t0 h
  refine ⟨fun hr => ?_, fun hplay htilt hballs htrough hlocks => ?_⟩
  · refine request_refused (run := startMultiballRequest) h rfl (if_pos ?_)
    have hno : ¬ (s.begun 4).multiballAccepted = true := fun hacc =>
      let ⟨h1, h2⟩ := (s.begun 4).multiballAccepted_iff.mp hacc
      hr.elim (fun hn => hn h1) h2
    rw [Bool.eq_false_iff.mpr hno]
    rfl
  · intro masked credits held total aim deficits extra owed
    have hacc : (s.begun 4).multiballAccepted = true := (s.begun 4).multiballAccepted_iff.mpr ⟨hplay, htilt⟩
    have hstart := startMultiball_started (s := s.begun 4) target.toNat mask (word16 t1 t0) hplay hballs htrough hlocks
    have hreply := multiballServed_owed (s := s.begun 4) (target := target.toNat) (mask := mask) htrough
    have hgives : ((s.begun 4).maskedPlaces mask).map (s.begun 4).gives =
        (s.maskedPlaces mask).map fun k => min (credits k) (held k) := rfl
    have hdeficits : (s.begun 4).deficits mask = deficits := sum_maskedPlaces s mask _
    have hextra : (s.begun 4).extraBalls target.toNat mask = extra :=
      congrArg (fun n => aim - (s.acct.inPlay + n)) (sum_maskedPlaces s mask _)
    have hdone := request_ok (len := 4) (run := startMultiballRequest) h rfl (startMultiballRequest_eq hacc target mask t1 t0)
    rw [hgives, sum_maskedPlaces, hdeficits, hextra] at hdone
    rw [hdeficits, hextra] at hreply
    obtain ⟨hlink, hscore, hlit, hcredits, hsource, hfilled, hstate, htimer, hused, hin⟩ := hstart
    rw [hdeficits, hextra] at hfilled
    generalize (startMultiball target.toNat mask (word16 t1 t0) (s.begun 4)).1 = t at *
    refine ⟨_, hdone, fun k => ⟨hcredits k, ?_, hsource k⟩, fun h8 => ?_, fun h0 => ?_, fun h0 => ⟨?_, htimer h0⟩, hused,
      hin, fun h8 => ?_⟩
    · exact congrArg (·[k]) hlit
    · exact (hfilled h8).trans (congrArg (min 8) (Nat.add_assoc _ _ _).symm)
    · exact hstate.trans (if_pos h0)
    · exact hstate.trans (if_neg h0)
    · rw [hreply h8]
      exact prepare_link 4 _ hlink

end Sys2Proof.Machine

/-! The mode stack (chapter 8): what finds, changes, removes and adds a context of a stack, and the requests and expiries
of the modes. -/

namespace Sys2Proof.Machine

/-! ### A context on its stack -/

section
variable {beneath above : List Context} {c : Context} {id : Nat}

/-- The derived state of a context stands with the contexts above it. -/
theorem derived_split (beneath above : List Context) (c : Context) :
    ∃ l : List (Context × RunState), derived (beneath ++ c :: above) = l ++ (c, runState c above) :: derived above ∧
      l.map (·.1) = beneath := by
  induction beneath with
  | nil => exact ⟨[], rfl, rfl⟩
  | cons b beneath ih =>
    obtain ⟨l, h, hl⟩ := ih
    exact ⟨(b, runState b (beneath ++ c :: above)) :: l, by rw [List.cons_append, derived, h]; rfl, by rw [List.map_cons, hl]⟩

theorem contextOf_split (hid : c.id = id) (h : ∀ x ∈ beneath, x.id ≠ id) :
    contextOf (beneath ++ c :: above) id = some (c, runState c above) := by
  obtain ⟨l, hl, rfl⟩ := derived_split beneath above c
  rw [contextOf, hl, List.find?_append, List.find?_eq_none.mpr, Option.none_or, List.find?_cons_of_pos]
  · exact beq_iff_eq.mpr hid
  · exact fun x hx he => h x.1 (List.mem_map_of_mem hx) (beq_iff_eq.mp he)

theorem contextOf_none {stack : List Context} (h : ∀ x ∈ stack, x.id ≠ id) : contextOf stack id = none :=
  List.find?_eq_none.mpr fun x hx he => h x.1 (mem_of_mem_derived hx) (beq_iff_eq.mp he)

/-- A context that is neither PAUSED nor under an EXCLUSIVE one is RUNNING. -/
theorem runState_running (hp : c.paused = false) (h : ∀ x ∈ above, x.tpl.stacking ≠ .exclusive) :
    runState c above = .running := by
  rw [runState_eq, hp, if_neg Bool.false_ne_true, if_neg fun ⟨x, hx, he⟩ => h x hx he]

theorem runningContext_split (hid : c.id = id) (h : ∀ x ∈ beneath, x.id ≠ id) (hr : runState c above = .running) :
    runningContext (beneath ++ c :: above) id = some c := by
  obtain ⟨l, hl, rfl⟩ := derived_split beneath above c
  rw [runningContext, hl, List.find?_append, List.find?_eq_none.mpr, Option.none_or, List.find?_cons_of_pos, Option.map_some]
  · rw [hid, hr, beq_self_eq_true, beq_self_eq_true, Bool.and_self]
  · refine fun x hx he => h x.1 (List.mem_map_of_mem hx) (beq_iff_eq.mp (Bool.and_eq_true_iff.mp he).1)

theorem map_split (f : Context → Context) (hid : c.id = id) (h : ∀ x ∈ beneath ++ above, x.id ≠ id) :
    ((beneath ++ c :: above).map fun x => if x.id = id then f x else x) = beneath ++ f c :: above := by
  have hsame {l : List Context} (hl : ∀ x ∈ l, x.id ≠ id) : (l.map fun x => if x.id = id then f x else x) = l :=
    (List.map_congr_left fun x hx => if_neg (hl x hx)).trans l.map_id
  rw [List.map_append, List.map_cons, hsame fun x hx => h x (List.mem_append_left above hx),
    hsame fun x hx => h x (List.mem_append_right beneath hx), if_pos hid]

theorem filter_split (hid : c.id = id) (h : ∀ x ∈ beneath ++ above, x.id ≠ id) :
    (beneath ++ c :: above).filter (fun x => x.id != id) = beneath ++ above := by
  have hsame {l : List Context} (hl : ∀ x ∈ l, x.id ≠ id) : l.filter (fun x => x.id != id) = l :=
    List.filter_eq_self.mpr fun x hx => bne_iff_ne.mpr (hl x hx)
  rw [List.filter_append, List.filter_cons_of_neg (by simp [hid]), hsame fun x hx => h x (List.mem_append_left above hx),
    hsame fun x hx => h x (List.mem_append_right beneath hx)]

/-- A change of one context of a stack. -/
theorem modContext_split {p : PlayerNo} {s : State} (f : Context → Context) (hs : (s.pages[p]'p.isLt).stack = beneath ++ c :: above)
    (hid : c.id = id) (h : ∀ x ∈ beneath ++ above, x.id ≠ id) :
    modContext p id f s = s.modPage p fun g => { g with stack := beneath ++ f c :: above } := by
  have hmap := map_split f hid h
  rw [← hs] at hmap
  rw [← hmap]
  rfl

/-- A context of a stack ends. -/
theorem endContext_split {p : PlayerNo} {s : State} (r : EndReason) (hs : (s.pages[p]'p.isLt).stack = beneath ++ c :: above)
    (hid : c.id = id) (h : ∀ x ∈ beneath ++ above, x.id ≠ id) : endContext p id r s =
      (holdTimers (s.modPage p fun g =>
        { g with stack := beneath ++ above, last := { id := id, reason := r, total := c.total } })).raise .modeEnded := by
  have hc : contextOf (s.pages[p]'p.isLt).stack id = some (c, runState c above) := by
    rw [hs]
    exact contextOf_split hid fun x hx => h x (List.mem_append_left above hx)
  have hf := filter_split hid h
  rw [← hs] at hf
  rw [endContext_of_contextOf r hc, hf]

/-- What the end of a context leaves on its page. -/
theorem endContext_split_page {p : PlayerNo} {s : State} (r : EndReason) (hs : (s.pages[p]'p.isLt).stack = beneath ++ c :: above)
    (hid : c.id = id) (h : ∀ x ∈ beneath ++ above, x.id ≠ id) :
    (endContext p id r s).pages[p].stack.map Context.plain = (beneath ++ above).map Context.plain ∧
      (endContext p id r s).pages[p].last = { id := id, reason := r, total := c.total } ∧
      (endContext p id r s).isPending .modeEnded = true := by
  rw [endContext_split r hs hid h, isPending_raise, decide_eq_true rfl, Bool.or_true, State.raise_pages, holdTimers_get,
    State.modPage_get, if_pos rfl]
  exact ⟨holdStack_plain _ _, rfl, rfl⟩

end

/-! ### Stacks that differ in their marks alone -/

theorem ids_of_plain {l m : List Context} (h : l.map Context.plain = m.map Context.plain) {id : Nat}
    (hm : ∀ x ∈ m, x.id ≠ id) : ∀ x ∈ l, x.id ≠ id := by
  intro x hx
  obtain ⟨y, hy, hyx⟩ := List.mem_map.mp (h ▸ List.mem_map_of_mem (f := Context.plain) hx)
  have hid : y.plain.id = x.plain.id := congrArg Context.id hyx
  exact fun hx => hm y hy (hid.trans hx)

theorem exists_id_of_plain {l m : List Context} (h : l.map Context.plain = m.map Context.plain) {id : Nat}
    (hm : ∃ x ∈ m, x.id = id) : ∃ x ∈ l, x.id = id := by
  by_contra hn
  obtain ⟨x, hx, hid⟩ := hm
  exact ids_of_plain h.symm (fun y hy he => hn ⟨y, hy, he⟩) x hx hid

theorem length_of_plain {l m : List Context} (h : l.map Context.plain = m.map Context.plain) : l.length = m.length := by
  rw [← List.length_map (f := Context.plain), h, List.length_map]

theorem runState_of_plain {c e : Context} {l m : List Context} (hc : c.plain = e.plain)
    (h : l.map Context.plain = m.map Context.plain) : runState c l = runState e m := by
  have hany (l : List Context) : (l.any fun x => x.tpl.stacking == .exclusive) =
      (l.map Context.plain).any fun x => x.tpl.stacking == .exclusive := by
    rw [List.any_map]
    rfl
  have hpaused : c.plain.paused = e.plain.paused := congrArg (fun x : Context => x.paused) hc
  change c.paused = e.paused at hpaused
  rw [runState, runState, hany l, hany m, h, hpaused]

/-- The derived state of a context does not depend on marks. -/
theorem stateOf_of_plain {l m : List Context} (h : l.map Context.plain = m.map Context.plain) (id : Nat) :
    (contextOf l id).map (·.2) = (contextOf m id).map (·.2) := by
  induction l generalizing m with
  | nil => cases m with
    | nil => rfl
    | cons e m => exact absurd h (by simp)
  | cons c l ih => cases m with
    | nil => exact absurd h (by simp)
    | cons e m =>
      obtain ⟨hc, hl⟩ := List.cons.inj h
      have hid : c.plain.id = e.plain.id := congrArg (fun x : Context => x.id) hc
      change c.id = e.id at hid
      have hstate : runState c l = runState e m := runState_of_plain hc hl
      have htail := ih hl
      simp only [contextOf, derived, List.find?_cons, hid] at htail ⊢
      cases e.id == id
      · exact htail
      · exact congrArg some hstate

theorem mem_derived_state {l : List Context} {x : Context × RunState} (h : x ∈ derived l) :
    ∃ above : List Context, x.2 = runState x.1 above := by
  induction l with
  | nil => exact absurd h (by simp [derived])
  | cons c l ih =>
    obtain rfl | h := List.mem_cons.mp h
    · exact ⟨l, rfl⟩
    · exact ih h

/-- A held stack keeps no mark of a PAUSED context. -/
theorem holdStack_paused {ok : Bool} {l : List Context} {x : Context} (h : x ∈ holdStack ok l) (hp : x.paused = true) :
    x.timerDue = false ∧ x.hurryDue = false := by
  obtain ⟨y, hy, rfl⟩ := List.mem_map.mp h
  obtain ⟨above, hr⟩ := mem_derived_state hy
  have hpaused : y.2 = .paused := by
    rw [hr, runState_eq]
    exact if_pos hp
  simp [hpaused]

/-- A context put on top of a stack, without marks, stays as it is when the timers are held. -/
theorem holdStack_top (ok : Bool) (l : List Context) {c : Context} (ht : c.timerDue = false) (hh : c.hurryDue = false) :
    ∃ m : List Context, holdStack ok (l ++ [c]) = m ++ [c] ∧ m.map Context.plain = l.map Context.plain := by
  induction l with
  | nil =>
    refine ⟨[], ?_, rfl⟩
    simp [holdStack, derived, ht, hh]
    cases c
    simp_all
  | cons b l ih =>
    obtain ⟨m, hm, hp⟩ := ih
    refine ⟨_ :: m, congrArg (List.cons _) hm, ?_⟩
    rw [List.map_cons, List.map_cons, hp]
    rfl

/-- Beneath an EXCLUSIVE context nothing is RUNNING. -/
theorem derived_beneath_exclusive {l : List Context} {c : Context} (h : c.tpl.stacking = .exclusive) :
    ∀ x ∈ (derived (l ++ [c])).dropLast, x.2 ≠ .running := by
  induction l with
  | nil => simp [derived]
  | cons b l ih =>
    intro x hx
    have hne : derived (l ++ [c]) ≠ [] := by
      intro h0
      have := congrArg List.length h0
      simp at this
    rw [List.cons_append, derived, List.dropLast_cons_of_ne_nil hne] at hx
    obtain rfl | hx := List.mem_cons.mp hx
    · dsimp only
      have hover : ∃ y ∈ l ++ [c], y.tpl.stacking = .exclusive := ⟨c, by simp, h⟩
      rw [runState_eq, if_pos hover]
      split <;> decide
    · exact ih x hx

/-! ### Pushes (R142 to R144) -/

section
variable {p : PlayerNo} {id : Nat} {s : State}

theorem push_notFound (h : s.template id = none) : push p id s = (s, .notFound) := by
  simp only [push, h]

theorem push_duplicate {t : Template} (ht : s.template id = some t) (h : ∃ c ∈ (s.pages[p]'p.isLt).stack, c.id = id) :
    push p id s = (s, .refusedDuplicate) := by
  obtain ⟨c, hc, hid⟩ := h
  have hany : ((s.pages[p]'p.isLt).stack.any fun c => c.id == id) = true := List.any_eq_true.mpr ⟨c, hc, beq_iff_eq.mpr hid⟩
  simp only [push, ht, hany, if_true]

theorem any_id_false {l : List Context} (h : ∀ c ∈ l, c.id ≠ id) : (l.any fun c => c.id == id) = false :=
  List.any_eq_false.mpr fun c hc he => h c hc (beq_iff_eq.mp he)

theorem push_full {t : Template} (ht : s.template id = some t) (h : ∀ c ∈ (s.pages[p]'p.isLt).stack, c.id ≠ id)
    (hl : 8 ≤ (s.pages[p]'p.isLt).stack.length) : push p id s = (s, .refusedFull) := by
  have hfull : Config.maxDepth ≤ (s.pages[p]'p.isLt).stack.length := hl
  simp only [push, ht, any_id_false h, if_pos hfull]
  rfl

theorem push_closed {t : Template} (ht : s.template id = some t) (h : ∀ c ∈ (s.pages[p]'p.isLt).stack, c.id ≠ id)
    (hl : (s.pages[p]'p.isLt).stack.length < 8) (hc : s.isOpen = false) : push p id s = (s, .refusedState) := by
  have hroom : ¬ Config.maxDepth ≤ (s.pages[p]'p.isLt).stack.length := Nat.not_le.mpr hl
  simp only [push, ht, any_id_false h, if_neg hroom, hc]
  rfl

theorem push_ok {t : Template} (ht : s.template id = some t) (h : ∀ c ∈ (s.pages[p]'p.isLt).stack, c.id ≠ id)
    (hl : (s.pages[p]'p.isLt).stack.length < 8) (ho : s.isOpen = true) :
    push p id s = (setStack p ((s.pages[p]'p.isLt).stack ++ [Context.build id t]) s, .ok) := by
  have hroom : ¬ Config.maxDepth ≤ (s.pages[p]'p.isLt).stack.length := Nat.not_le.mpr hl
  simp only [push, ht, any_id_false h, if_neg hroom, ho]
  rfl

end

/-- The stack and the records after a stack is written. -/
theorem setStack_page (p : PlayerNo) (stack : List Context) (s : State) : (setStack p stack s).pages[p] =
    { (s.pages[p]'p.isLt) with stack := holdStack (s.modesCount && p == s.session.current) stack } := by
  rw [setStack, holdTimers_get, State.modPage_get, if_pos rfl]
  rfl

/-- A context pushed onto a stack stands on top of it, and the contexts beneath keep all but their marks. -/
theorem pushed_stack (p : PlayerNo) (id : Nat) (t : Template) (s : State) : ∃ beneath : List Context,
    (setStack p ((s.pages[p]'p.isLt).stack ++ [Context.build id t]) s).pages[p].stack = beneath ++ [Context.build id t] ∧
      beneath.map Context.plain = (s.pages[p]'p.isLt).stack.map Context.plain := by
  rw [setStack_page]
  exact holdStack_top _ _ rfl rfl

theorem setStack_notices (p : PlayerNo) (stack : List Context) (s : State) :
    (setStack p stack s).notices = s.notices := rfl

theorem State.page_of_session {s t : State} (h : t.session = s.session) : t.page = (t.pages[s.session.current]'s.session.current.isLt) := by
  simp only [State.page, h]

/-- PUSH_MODE with a push that is refused. -/
theorem pushMode_refused {x : Byte} {s : State} {st : Status} (hst : st ≠ .ok)
    (h : push s.session.current x.toNat s = (s, st)) : pushMode [x] s = refuse s st := by
  cases st with
  | ok => exact absurd rfl hst
  | _ => simp only [pushMode, h]

/-- PUSH_MODE with a push that is accepted. -/
theorem pushMode_accepted {x : Byte} {s : State} {t : Template}
    (h : push s.session.current x.toNat s = (setStack s.session.current (s.page.stack ++ [Context.build x.toNat t]) s, .ok))
    (hid : ∀ c ∈ s.page.stack, c.id ≠ x.toNat) : pushMode [x] s =
      ok (setStack s.session.current (s.page.stack ++ [Context.build x.toNat t]) s)
        [byte s.page.stack.length, nameByte RunState.names .running, byte (s.page.stack.length + 1)] := by
  simp only [pushMode, h]
  obtain ⟨beneath, hstack, hplain⟩ := pushed_stack s.session.current x.toNat t s
  generalize ht : setStack s.session.current (s.page.stack ++ [Context.build x.toNat t]) s = u
  have hsession : u.session = s.session := by rw [← ht]; rfl
  have hpage : u.page.stack = beneath ++ [Context.build x.toNat t] := by
    rw [State.page_of_session hsession, ← ht]
    exact hstack
  have hlength : beneath.length = s.page.stack.length := length_of_plain hplain
  have hrun : u.runStateOf x.toNat = .running := by
    rw [State.runStateOf, hpage, contextOf_split (id := x.toNat) rfl (ids_of_plain hplain hid)]
    rfl
  rw [hrun, hpage, List.length_append, hlength]
  rfl

/-- Settles O39. -/
theorem pushModeOutcome : Obligations.PushModeOutcome := by
  unfold Obligations.PushModeOutcome
  intro s k h id stack send
  have hbyte : (byte (k.val + 1)).toNat = id := byte_toNat_of_lt (by omega)
  have hpushed (st : Status) (hst : st ≠ .ok) (hp : push s.session.current id (s.begun 1) = (s.begun 1, st)) :
      send = .next (s.refused 1 st) := by
    rw [← hbyte] at hp
    exact request_refused (run := pushMode) h rfl (pushMode_refused (s := s.begun 1) hst hp)
  have htpl : (s.begun 1).template id = (s.templates[k]'k.isLt) := by
    rw [← hbyte]
    exact State.template_byte (s.begun 1) k
  refine ⟨fun x hx => ?_, fun hn => ?_, fun tpl ht => ⟨fun hd => ?_, fun hid hl => ?_, fun hid hl hc => ?_,
    fun hid hl ho => ?_⟩⟩
  · exact request_refused (run := pushMode) h rfl
      (pushMode_refused (s := s.begun 1) (by decide) (push_notFound (State.template_none hx)))
  · exact hpushed _ (by decide) (push_notFound (htpl.trans hn))
  · exact hpushed _ (by decide) (push_duplicate (htpl.trans ht) hd)
  · exact hpushed _ (by decide) (push_full (htpl.trans ht) hid hl)
  · exact hpushed _ (by decide) (push_closed (htpl.trans ht) hid hl (State.isOpen_of_closed hc))
  · have hpush := push_ok (p := s.session.current) (s := s.begun 1) (htpl.trans ht) hid hl (State.isOpen_of_opened ho)
    obtain ⟨beneath, hstack, hplain⟩ := pushed_stack s.session.current id tpl (s.begun 1)
    have hpage := setStack_page s.session.current (stack ++ [Context.build id tpl]) (s.begun 1)
    rw [← hbyte] at hpush
    have hdone := request_ok (len := 1) (run := pushMode) h rfl
      (pushMode_accepted (s := s.begun 1) hpush (by rw [hbyte]; exact hid))
    rw [hbyte] at hdone
    have hclose := setStack_closing s.session.current (stack ++ [Context.build id tpl]) (s.begun 1)
    have hnotices := setStack_notices s.session.current (stack ++ [Context.build id tpl]) (s.begun 1)
    change (setStack s.session.current (stack ++ [Context.build id tpl]) (s.begun 1)).pages[s.session.current].stack = _
      at hstack
    change send = .next (prepare { status := .ok, body := [byte stack.length, _, byte (stack.length + 1)] }
      (setStack s.session.current (stack ++ [Context.build id tpl]) (s.begun 1))) at hdone
    generalize setStack s.session.current (stack ++ [Context.build id tpl]) (s.begun 1) = t at *
    refine ⟨_, beneath, hdone, hstack, hplain, congrArg (·.score) hpage, congrArg (·.last) hpage, hclose.devices, hnotices,
      congrArg Kept.templates hclose.kept, fun hx => ?_, prepare_link 1 _ (congrArg Kept.link hclose.kept)⟩
    exact fun y hy => derived_beneath_exclusive (c := Context.build id tpl) hx y (hstack ▸ hy)

/-! ### The requests that address one context (R155 to R158) -/

theorem withContext_closed {id : Byte} {s : State} {f : Context → State × Reply} (h : s.isOpen = false) :
    withContext id s f = refuse s .refusedState := by
  simp [withContext, h]

theorem withContext_none {id : Byte} {s : State} {f : Context → State × Reply} (ho : s.isOpen = true)
    (h : ∀ c ∈ s.page.stack, c.id ≠ id.toNat) : withContext id s f = refuse s .notFound := by
  simp only [withContext, ho, contextOf_none h]
  rfl

theorem withContext_split {id : Byte} {s : State} {f : Context → State × Reply} {beneath above : List Context} {c : Context}
    (ho : s.isOpen = true) (hs : s.page.stack = beneath ++ c :: above) (hid : c.id = id.toNat)
    (h : ∀ x ∈ beneath ++ above, x.id ≠ id.toNat) : withContext id s f = f c := by
  simp only [withContext, ho, hs, contextOf_split hid fun x hx => h x (List.mem_append_left above hx)]
  rfl

theorem Context.addTime_eq (t : Nat) (c : Context) : c.addTime t =
    { c with timer := if c.timed ∧ t ≠ 0 then min 65535 (c.timer + t) else c.timer,
             timerDue := if c.timed ∧ t ≠ 0 then false else c.timerDue } := by
  unfold Context.addTime
  by_cases h : c.timed = true ∧ t ≠ 0
  · rw [if_neg (by simpa using h), if_pos h, if_pos h]
    rfl
  · rw [if_pos (by simpa [imp_iff_not_or] using h), if_neg h, if_neg h]

/-- A stack with a context paused or resumed, its timers held. -/
theorem setPaused_page {beneath above : List Context} {c : Context} {s : State} (on : Bool)
    (hs : s.page.stack = beneath ++ c :: above) (h : ∀ x ∈ beneath ++ above, x.id ≠ c.id) :
    ∃ ok : Bool, (setPaused c.id on s).page.stack = holdStack ok (beneath ++ { c with paused := on } :: above) := by
  rw [setPaused, modContext_split (p := s.session.current) _ hs rfl h]
  generalize hm : s.modPage s.session.current (fun g => { g with stack := beneath ++ { c with paused := on } :: above }) = t
  have hsession : t.session = s.session := by rw [← hm]; rfl
  have hstack : (t.pages[s.session.current]'s.session.current.isLt).stack = beneath ++ { c with paused := on } :: above := by
    rw [← hm, State.modPage_get, if_pos rfl]
  refine ⟨t.modesCount && s.session.current == t.session.current, ?_⟩
  rw [State.page_of_session ((holdTimers_session t).trans hsession), holdTimers_get, hstack]

theorem setPaused_frame (id : Nat) (on : Bool) (s : State) : (setPaused id on s).notices = s.notices ∧
    (setPaused id on s).link = s.link ∧ (setPaused id on s).session = s.session := ⟨rfl, rfl, rfl⟩

theorem setPaused_runState {beneath above : List Context} {c : Context} {s : State} (on : Bool)
    (hs : s.page.stack = beneath ++ c :: above) (h : ∀ x ∈ beneath ++ above, x.id ≠ c.id) :
    (setPaused c.id on s).runStateOf c.id = runState { c with paused := on } above := by
  obtain ⟨ok, hstack⟩ := setPaused_page on hs h
  rw [State.runStateOf, hstack, stateOf_of_plain (holdStack_plain ok _),
    contextOf_split (c := { c with paused := on }) rfl fun x hx => h x (List.mem_append_left above hx)]
  rfl

section
variable {id : Byte} {s : State} {beneath above : List Context} {c : Context}

theorem retireMode_split (ho : s.isOpen = true) (hs : s.page.stack = beneath ++ c :: above) (hid : c.id = id.toNat)
    (h : ∀ x ∈ beneath ++ above, x.id ≠ id.toNat) : retireMode [id] s =
      ok (endContext s.session.current c.id .retired s)
        (bcdBytes 6 c.total ++ [byte (beneath.length + above.length)]) := by
  have hlength : (endContext s.session.current c.id .retired s).page.stack.length = beneath.length + above.length := by
    rw [State.page_of_session (endContext_closing s.session.current c.id .retired s).session, ← List.length_append]
    exact length_of_plain (endContext_split_page (p := s.session.current) .retired hs rfl (hid ▸ h)).1
  rw [← hlength]
  exact withContext_split ho hs hid h

theorem pauseRequest_split (on : Bool) (ho : s.isOpen = true) (hs : s.page.stack = beneath ++ c :: above)
    (hid : c.id = id.toNat) (h : ∀ x ∈ beneath ++ above, x.id ≠ id.toNat) : pauseRequest on [id] s =
      ok (setPaused c.id on s) [nameByte RunState.names (runState { c with paused := on } above)] := by
  rw [← setPaused_runState on hs (hid ▸ h)]
  exact withContext_split ho hs hid h

theorem addModeTime_split (t1 t0 : Byte) (ho : s.isOpen = true) (hs : s.page.stack = beneath ++ c :: above)
    (hid : c.id = id.toNat) (h : ∀ x ∈ beneath ++ above, x.id ≠ id.toNat) : addModeTime [id, t1, t0] s =
      ok (s.modPage s.session.current fun g => { g with stack := beneath ++ c.addTime (word16 t1 t0) :: above })
        (bytes16 (c.addTime (word16 t1 t0)).timer) := by
  rw [← modContext_split (p := s.session.current) (Context.addTime (word16 t1 t0)) hs rfl (hid ▸ h)]
  exact withContext_split ho hs hid h

end

/-- Settles O40. -/
theorem contextRequestsOutcome : Obligations.ContextRequestsOutcome := by
  unfold Obligations.ContextRequestsOutcome
  intro s id t1 t0 h p
  refine ⟨fun hc => ?_, fun ho hn => ?_, fun beneath above c ho hs hid hne => ?_⟩
  · have hclosed (n : Nat) : (s.begun n).isOpen = false := State.isOpen_of_closed hc
    exact ⟨request_refused (run := retireMode) h rfl (withContext_closed (hclosed 1)),
      request_refused (run := pauseRequest true) h rfl (withContext_closed (hclosed 1)),
      request_refused (run := pauseRequest false) h rfl (withContext_closed (hclosed 1)),
      request_refused (run := addModeTime) h rfl (withContext_closed (hclosed 3))⟩
  · have hopen (n : Nat) : (s.begun n).isOpen = true := State.isOpen_of_opened ho
    exact ⟨request_refused (run := retireMode) h rfl (withContext_none (hopen 1) hn),
      request_refused (run := pauseRequest true) h rfl (withContext_none (hopen 1) hn),
      request_refused (run := pauseRequest false) h rfl (withContext_none (hopen 1) hn),
      request_refused (run := addModeTime) h rfl (withContext_none (hopen 3) hn)⟩
  · intro plain
    have hopen (n : Nat) : (s.begun n).isOpen = true := State.isOpen_of_opened ho
    have hne' : ∀ x ∈ beneath ++ above, x.id ≠ c.id := fun x hx => hid ▸ hne x hx
    have hpage (n : Nat) : (s.begun n).page.stack = beneath ++ c :: above := hs
    refine ⟨?_, ?_, ?_, ?_⟩
    · have hclose := endContext_closing s.session.current c.id .retired (s.begun 1)
      obtain ⟨hstack, hlast, hended⟩ := endContext_split_page (p := s.session.current) .retired (hpage 1) rfl hne'
      have hdone := request_ok (len := 1) (run := retireMode) h rfl (retireMode_split (hopen 1) (hpage 1) hid hne)
      rw [State.begun_session] at hdone
      generalize endContext s.session.current c.id .retired (s.begun 1) = t at *
      exact ⟨_, hdone, hstack, hlast, hclose.score p, hended, hclose.devices,
        prepare_link 1 _ (congrArg Kept.link hclose.kept)⟩
    · obtain ⟨hnotices, hlink, hsession⟩ := setPaused_frame c.id true (s.begun 1)
      obtain ⟨held, hstack⟩ := setPaused_page true (hpage 1) hne'
      have hdone := request_ok (len := 1) (run := pauseRequest true) h rfl
        (pauseRequest_split true (hopen 1) (hpage 1) hid hne)
      rw [State.page_of_session hsession] at hstack
      change (setPaused c.id true (s.begun 1)).pages[p].stack = _ at hstack
      generalize setPaused c.id true (s.begun 1) = t at *
      refine ⟨_, hdone, ?_, hnotices, fun x hx hxid => ?_, prepare_link 1 _ hlink⟩
      · exact (congrArg (List.map Context.plain) hstack).trans (holdStack_plain _ _)
      · have hx' : x ∈ holdStack held (beneath ++ { c with paused := true } :: above) := hstack ▸ hx
        refine holdStack_paused hx' ?_
        obtain ⟨y, hy, hyx⟩ := List.mem_map.mp (holdStack_plain held _ ▸ List.mem_map_of_mem (f := Context.plain) hx')
        have hyid : y.plain.id = x.plain.id := congrArg Context.id hyx
        have hyp : y.plain.paused = x.plain.paused := congrArg Context.paused hyx
        have hmem : y = { c with paused := true } := by
          obtain hy | hy := List.mem_append.mp hy
          · exact absurd (hyid.trans hxid) (hne y (List.mem_append_left above hy))
          · obtain hy | hy := List.mem_cons.mp hy
            · exact hy
            · exact absurd (hyid.trans hxid) (hne y (List.mem_append_right beneath hy))
        rw [hmem] at hyp
        exact hyp.symm
    · obtain ⟨hnotices, hlink, hsession⟩ := setPaused_frame c.id false (s.begun 1)
      obtain ⟨held, hstack⟩ := setPaused_page false (hpage 1) hne'
      have hdone := request_ok (len := 1) (run := pauseRequest false) h rfl
        (pauseRequest_split false (hopen 1) (hpage 1) hid hne)
      rw [runState_eq] at hdone
      rw [State.page_of_session hsession] at hstack
      change (setPaused c.id false (s.begun 1)).pages[p].stack = _ at hstack
      generalize setPaused c.id false (s.begun 1) = t at *
      refine ⟨_, hdone, ?_, hnotices, prepare_link 1 _ hlink⟩
      exact (congrArg (List.map Context.plain) hstack).trans (holdStack_plain _ _)
    · intro time timer
      refine request_done (run := addModeTime) h rfl (addModeTime_split t1 t0 (hopen 3) (hpage 3) hid hne) ?_
      rw [Context.addTime_eq]
      exact prepare_begun (t := s.modPage p fun g => { g with stack := _ }) 3 _ rfl

/-! ### The expiries of a mode (R132, R147) -/

theorem endContext_other {p q : PlayerNo} (id : Nat) (r : EndReason) (s : State) (hq : q ≠ p) :
    (endContext p id r s).pages[q].last = (s.pages[q]'q.isLt).last := by
  cases hc : contextOf (s.pages[p]'p.isLt).stack id with
  | none => simp only [endContext, hc]
  | some x =>
    obtain ⟨c, state⟩ := x
    rw [endContext_of_contextOf r hc, State.raise_pages, holdTimers_get, State.modPage_get, if_neg hq]

/-- Settles O42. -/
theorem modeExpiriesOutcome : Obligations.ModeExpiriesOutcome := by
  unfold Obligations.ModeExpiriesOutcome
  intro s beneath above c p hs hne plain
  have hc : contextOf (s.pages[p]'p.isLt).stack c.id = some (c, runState c above) := by
    rw [hs]
    exact contextOf_split rfl fun x hx => hne x (List.mem_append_left above hx)
  have htimer : takeModeTimerExpiry c.id s = if c.timed ∧ c.timerDue then endContext p c.id .timedOut s else s := by
    simp only [takeModeTimerExpiry, show contextOf (s.pages[s.session.current]'s.session.current.isLt).stack c.id = _ from hc]
    rfl
  have hhurry : takeHurryPeriodExpiry c.id s = if c.hurryDue then modContext p c.id Context.hurryStep s else s := by
    simp only [takeHurryPeriodExpiry, show contextOf (s.pages[s.session.current]'s.session.current.isLt).stack c.id = _ from hc]
    rfl
  refine ⟨fun ht hd => ?_, fun hd => ?_, fun hd => ?_, fun hd => ?_⟩
  · have hclose := endContext_closing p c.id .timedOut s
    obtain ⟨hstack, hlast, hended⟩ := endContext_split_page (p := p) .timedOut hs rfl hne
    exact ⟨endContext p c.id .timedOut s, congrArg Host.Outcome.next (htimer.trans (if_pos ⟨ht, hd⟩)), hstack, hlast,
      hclose.score p, hended, congrArg Kept.link hclose.kept,
      fun q hq => ⟨hclose.score q, endContext_other c.id .timedOut s hq⟩⟩
  · refine congrArg Host.Outcome.next (hhurry.trans ((if_pos hd).trans ?_))
    exact modContext_split (p := p) Context.hurryStep hs rfl hne
  · exact congrArg Host.Outcome.next (htimer.trans (if_neg fun h => Bool.false_ne_true (hd.symm.trans h.2)))
  · exact congrArg Host.Outcome.next (hhurry.trans (if_neg fun h => Bool.false_ne_true (hd.symm.trans h)))

/-! ### Completion and ADVANCE_MODE (R149, R150, R159) -/

/-- The state of a completion before its chained push. -/
def State.completed (s : State) (p : PlayerNo) (c : Context) : State :=
  endContext p c.id .completed (addScore p (completionBonus c.total c.tpl.completionPct) s).1

/-- What a completion leaves of the records, its chained push left aside. -/
structure Completes (p : PlayerNo) (c : Context) (rest : List Context) (s t : State) : Prop where
  kept : t.kept = s.kept
  devices : t.devices = s.devices
  session : t.session = s.session
  score : (t.pages[p]'p.isLt).score = (s.pages[p]'p.isLt).score + completionBonus c.total c.tpl.completionPct
  rollover : (t.pages[p]'p.isLt).rollover = (s.pages[p]'p.isLt).rollover
  last : (t.pages[p]'p.isLt).last = { id := c.id, reason := .completed, total := c.total }
  ended : t.isPending .modeEnded = true
  stack : (t.pages[p]'p.isLt).stack.map Context.plain = rest.map Context.plain
  refused : t.isPending .modeRefused = s.isPending .modeRefused

theorem completed_completes {p : PlayerNo} {s : State} {beneath above : List Context} {c e : Context}
    (hs : (s.pages[p]'p.isLt).stack = beneath ++ e :: above) (he : e.id = c.id ∧ e.total = c.total) (h : ∀ x ∈ beneath ++ above, x.id ≠ c.id)
    (hfits : (s.pages[p]'p.isLt).score + completionBonus c.total c.tpl.completionPct ≤ 999999999999) :
    Completes p c (beneath ++ above) s (s.completed p c) := by
  have p_lt := p.isLt
  rw [State.completed, addScore_of_fits hfits]
  dsimp only
  generalize hu : (s.modPage p fun g => { g with score := (s.pages[p]'p.isLt).score + completionBonus c.total c.tpl.completionPct }) = u
  have hpage : (u.pages[p]'p.isLt) =
      { (s.pages[p]'p.isLt) with score := (s.pages[p]'p.isLt).score + completionBonus c.total c.tpl.completionPct } := by
    rw [← hu, State.modPage_get, if_pos rfl]
  have hclose := endContext_closing p c.id .completed u
  have hstack : (u.pages[p]'p.isLt).stack = beneath ++ e :: above := by rw [hpage]; exact hs
  obtain ⟨hplain, hlast, hended⟩ := endContext_split_page (p := p) .completed hstack he.1 h
  rw [he.2] at hlast
  refine ⟨hclose.kept.trans ?_, hclose.devices.trans ?_, hclose.session.trans ?_, ?_, ?_, hlast, hended, hplain,
    (hclose.pending .modeRefused rfl).trans ?_⟩
  · rw [← hu]; rfl
  · rw [← hu]; rfl
  · rw [← hu]; rfl
  · rw [hclose.score, hpage]
  · rw [hclose.rollover, hpage]
  · rw [← hu]; rfl

theorem complete_last {p : PlayerNo} {s : State} {c : Context}
    (hfits : (s.pages[p]'p.isLt).score + completionBonus c.total c.tpl.completionPct ≤ 999999999999) (hn : c.tpl.next = 0) :
    complete p c s = (s.completed p c,
      { bonus := completionBonus c.total c.tpl.completionPct, result := .stored, chain := none }) := by
  simp only [complete, hn, State.completed, addScore_of_fits hfits]
  rfl

theorem complete_chained {p : PlayerNo} {s u : State} {c : Context} {st : Status}
    (hfits : (s.pages[p]'p.isLt).score + completionBonus c.total c.tpl.completionPct ≤ 999999999999) (hn : c.tpl.next ≠ 0)
    (hp : push p c.tpl.next (s.completed p c) = (u, st)) :
    complete p c s = (u.raiseIf (st != .ok) .modeRefused,
      { bonus := completionBonus c.total c.tpl.completionPct, result := .stored, chain := some (c.tpl.next, st) }) := by
  rw [State.completed, addScore_of_fits hfits] at hp
  simp only [complete, if_neg hn, addScore_of_fits hfits, hp]

/-- What a completion does whatever becomes of its chained push. -/
structure Completed (p : PlayerNo) (c : Context) (s t : State) : Prop where
  kept : t.kept = s.kept
  devices : t.devices = s.devices
  score : (t.pages[p]'p.isLt).score = (s.pages[p]'p.isLt).score + completionBonus c.total c.tpl.completionPct
  rollover : (t.pages[p]'p.isLt).rollover = (s.pages[p]'p.isLt).rollover
  last : (t.pages[p]'p.isLt).last = { id := c.id, reason := .completed, total := c.total }
  ended : t.isPending .modeEnded = true

theorem Completes.done {p : PlayerNo} {c : Context} {rest : List Context} {s t : State} (h : Completes p c rest s t) :
    Completed p c s t :=
  { h with }

theorem Completed.raise {p : PlayerNo} {c : Context} {s t : State} (h : Completed p c s t) (b : Bool) (k : Notice) :
    Completed p c s (t.raiseIf b k) := by
  refine ⟨(State.raiseIf_kept t b k).trans h.kept, (State.raiseIf_devices t b k).trans h.devices, ?_, ?_, ?_, ?_⟩
  · rw [State.raiseIf_pages, h.score]
  · rw [State.raiseIf_pages, h.rollover]
  · rw [State.raiseIf_pages, h.last]
  · rw [isPending_raiseIf, h.ended, Bool.true_or]

theorem Completed.setStack {p : PlayerNo} {c : Context} {s t : State} (h : Completed p c s t) (l : List Context) :
    Completed p c s (setStack p l t) := by
  have hpage := setStack_page p l t
  refine ⟨(setStack_closing p l t).kept.trans h.kept, h.devices, ?_, ?_, ?_, h.ended⟩
  · rw [hpage]
    exact h.score
  · rw [hpage]
    exact h.rollover
  · rw [hpage]
    exact h.last

theorem complete_done {p : PlayerNo} {s : State} {beneath above : List Context} {c e : Context}
    (hs : (s.pages[p]'p.isLt).stack = beneath ++ e :: above) (he : e.id = c.id ∧ e.total = c.total) (h : ∀ x ∈ beneath ++ above, x.id ≠ c.id)
    (hfits : (s.pages[p]'p.isLt).score + completionBonus c.total c.tpl.completionPct ≤ 999999999999) :
    Completed p c s (complete p c s).1 := by
  have hdone := (completed_completes hs he h hfits).done
  by_cases hn : c.tpl.next = 0
  · rw [complete_last hfits hn]
    exact hdone
  · obtain ⟨st, -, hp⟩ | ⟨t, -, -, -, -, hp⟩ := push_cases p c.tpl.next (s.completed p c)
    · rw [complete_chained hfits hn hp]
      exact hdone.raise _ _
    · rw [complete_chained hfits hn hp]
      dsimp only
      exact (hdone.setStack _).raise _ _

/-- A completion whose chained push is refused. -/
theorem complete_refused {p : PlayerNo} {s : State} {beneath above : List Context} {c e : Context} {st : Status}
    (hs : (s.pages[p]'p.isLt).stack = beneath ++ e :: above) (he : e.id = c.id ∧ e.total = c.total) (h : ∀ x ∈ beneath ++ above, x.id ≠ c.id)
    (hfits : (s.pages[p]'p.isLt).score + completionBonus c.total c.tpl.completionPct ≤ 999999999999) (hn : c.tpl.next ≠ 0)
    (hst : st ≠ .ok) (hp : push p c.tpl.next (s.completed p c) = (s.completed p c, st)) :
    (complete p c s).1.pages[p].stack.map Context.plain = (beneath ++ above).map Context.plain ∧
      (complete p c s).1.isPending .modeRefused = true ∧ (complete p c s).2 =
        { bonus := completionBonus c.total c.tpl.completionPct, result := .stored, chain := some (c.tpl.next, st) } := by
  rw [complete_chained hfits hn hp, State.raiseIf_pages, isPending_raiseIf, bne_iff_ne.mpr hst, decide_eq_true rfl,
    Bool.and_true, Bool.or_true]
  exact ⟨(completed_completes hs he h hfits).stack, rfl, rfl⟩

/-- A completion whose chained push is accepted. -/
theorem complete_pushed {p : PlayerNo} {s : State} {beneath above : List Context} {c e : Context} {t : Template}
    (hs : (s.pages[p]'p.isLt).stack = beneath ++ e :: above) (he : e.id = c.id ∧ e.total = c.total) (h : ∀ x ∈ beneath ++ above, x.id ≠ c.id)
    (hfits : (s.pages[p]'p.isLt).score + completionBonus c.total c.tpl.completionPct ≤ 999999999999) (hn : c.tpl.next ≠ 0)
    (hp : push p c.tpl.next (s.completed p c) =
      (setStack p ((s.completed p c).pages[p].stack ++ [Context.build c.tpl.next t]) (s.completed p c), .ok)) :
    (complete p c s).1.pages[p].stack.map Context.plain =
        (beneath ++ above).map Context.plain ++ [Context.build c.tpl.next t] ∧
      (complete p c s).1.isPending .modeRefused = s.isPending .modeRefused ∧ (complete p c s).2 =
        { bonus := completionBonus c.total c.tpl.completionPct, result := .stored, chain := some (c.tpl.next, .ok) } := by
  have p_lt := p.isLt
  have hdone := completed_completes hs he h hfits
  obtain ⟨l, hl, hplain⟩ := pushed_stack p c.tpl.next t (s.completed p c)
  have hclose := setStack_closing p ((s.completed p c).pages[p].stack ++ [Context.build c.tpl.next t]) (s.completed p c)
  rw [complete_chained hfits hn hp]
  dsimp only
  generalize setStack p ((s.completed p c).pages[p].stack ++ [Context.build c.tpl.next t]) (s.completed p c) = u at *
  refine ⟨?_, (hclose.pending .modeRefused rfl).trans hdone.refused, rfl⟩
  change (u.pages[p]'p.isLt).stack.map Context.plain = _
  rw [hl, List.map_append, hplain, hdone.stack]
  rfl

theorem advance_split {p : PlayerNo} {s : State} {beneath above : List Context} {c : Context} (n : Nat)
    (hs : (s.pages[p]'p.isLt).stack = beneath ++ c :: above) (h : ∀ x ∈ beneath ++ above, x.id ≠ c.id) :
    advance p c.id n s =
      if 0 < c.tpl.goal ∧ min c.tpl.goal (c.progress + n) = c.tpl.goal then
        ((complete p c (s.modPage p fun g =>
            { g with stack := beneath ++ { c with progress := min c.tpl.goal (c.progress + n) } :: above })).1,
         min c.tpl.goal (c.progress + n),
         some (complete p c (s.modPage p fun g =>
            { g with stack := beneath ++ { c with progress := min c.tpl.goal (c.progress + n) } :: above })).2)
      else (s.modPage p fun g =>
        { g with stack := beneath ++ { c with progress := min c.tpl.goal (c.progress + n) } :: above },
        min c.tpl.goal (c.progress + n), none) := by
  have hc : contextOf (s.pages[p]'p.isLt).stack c.id = some (c, runState c above) := by
    rw [hs]
    exact contextOf_split rfl fun x hx => h x (List.mem_append_left above hx)
  simp only [advance, hc]
  rw [modContext_split (p := p) _ hs rfl h]

theorem State.template_succ (s : State) (k : Fin 63) : s.template (k.val + 1) = (s.templates[k]'k.isLt) := by
  rw [State.template]
  exact dif_pos (by omega)

theorem State.template_congr {s t : State} (h : t.templates = s.templates) (id : Nat) : t.template id = s.template id := by
  simp only [State.template, h]

theorem advanceMode_split {id n : Byte} {s : State} {beneath above : List Context} {c : Context} (ho : s.isOpen = true)
    (hs : s.page.stack = beneath ++ c :: above) (hid : c.id = id.toNat) (h : ∀ x ∈ beneath ++ above, x.id ≠ id.toNat) :
    advanceMode [id, n] s =
      if n = 0 then refuse s .badValue
      else
        let r := advance s.session.current c.id n.toNat s
        ok (if r.2.2.isNone then { r.1 with freeIndex := r.1.freeIndex + 1 } else r.1)
          (advanceBody s.freeIndex r.2.1 r.2.2) :=
  withContext_split ho hs hid h

/-- The stack with one context's progress raised, held at the goal. -/
def State.advanced (s : State) (p : PlayerNo) (beneath above : List Context) (c : Context) (n : Nat) : State :=
  s.modPage p fun g => { g with stack := beneath ++ { c with progress := min c.tpl.goal (c.progress + n) } :: above }

theorem advanceMode_incomplete {id n : Byte} {s : State} {beneath above : List Context} {c : Context}
    (ho : s.isOpen = true) (hs : s.page.stack = beneath ++ c :: above) (hid : c.id = id.toNat)
    (h : ∀ x ∈ beneath ++ above, x.id ≠ id.toNat) (hn : n ≠ 0)
    (hg : ¬ (0 < c.tpl.goal ∧ min c.tpl.goal (c.progress + n.toNat) = c.tpl.goal)) : advanceMode [id, n] s =
      ok { s.advanced s.session.current beneath above c n.toNat with freeIndex := s.freeIndex + 1 }
        (advanceBody s.freeIndex (min c.tpl.goal (c.progress + n.toNat)) none) := by
  rw [advanceMode_split ho hs hid h, if_neg hn, advance_split (p := s.session.current) n.toNat hs (hid ▸ h), if_neg hg]
  rfl

theorem advanceMode_completes {id n : Byte} {s t : State} {done : Completion} {beneath above : List Context} {c : Context}
    (ho : s.isOpen = true) (hs : s.page.stack = beneath ++ c :: above) (hid : c.id = id.toNat)
    (h : ∀ x ∈ beneath ++ above, x.id ≠ id.toNat) (hn : n ≠ 0) (h0 : 0 < c.tpl.goal)
    (hg : c.tpl.goal ≤ c.progress + n.toNat)
    (hc : complete s.session.current c (s.advanced s.session.current beneath above c n.toNat) = (t, done)) :
    advanceMode [id, n] s = ok t (advanceBody s.freeIndex c.tpl.goal (some done)) := by
  have hmin : min c.tpl.goal (c.progress + n.toNat) = c.tpl.goal := Nat.min_eq_left hg
  have hadv := advance_split (p := s.session.current) n.toNat hs (hid ▸ h)
  rw [if_pos ⟨h0, hmin⟩, hmin] at hadv
  rw [State.advanced, hmin] at hc
  rw [hc] at hadv
  rw [advanceMode_split ho hs hid h, if_neg hn, hadv]
  rfl

theorem advanceBody_last (free goal bonus : Nat) :
    advanceBody free goal (some { bonus := bonus, result := .stored, chain := none }) =
      [byte goal, 1] ++ bcdBytes 6 bonus ++ [0] := by
  rw [advanceBody, List.append_nil]
  rfl

theorem advanceBody_chained (free goal bonus next : Nat) (st : Status) :
    advanceBody free goal (some { bonus := bonus, result := .stored, chain := some (next, st) }) =
      [byte goal, 1] ++ bcdBytes 6 bonus ++ [0, byte next, nameByte Status.names st] := by
  rw [advanceBody, List.append_assoc]
  rfl

/-- What becomes of the chain of a completion (R149, R150). -/
structure Chained (p : PlayerNo) (c : Context) (rest : List Context) (s : State) (r : State × Completion) : Prop where
  last : c.tpl.next = 0 → r.1.pages[p].stack.map Context.plain = rest.map Context.plain ∧
    r.1.isPending .modeRefused = s.isPending .modeRefused ∧
    r.2 = { bonus := completionBonus c.total c.tpl.completionPct, result := .stored, chain := none }
  undefined : ∀ k : Fin 63, c.tpl.next = k.val + 1 → (s.templates[k]'k.isLt) = none →
    r.1.pages[p].stack.map Context.plain = rest.map Context.plain ∧ r.1.isPending .modeRefused = true ∧
    r.2 = { bonus := completionBonus c.total c.tpl.completionPct, result := .stored, chain := some (c.tpl.next, .notFound) }
  duplicate : ∀ (k : Fin 63) (tpl : Template), c.tpl.next = k.val + 1 → (s.templates[k]'k.isLt) = some tpl →
    (∃ x ∈ rest, x.id = c.tpl.next) →
    r.1.pages[p].stack.map Context.plain = rest.map Context.plain ∧ r.1.isPending .modeRefused = true ∧
    r.2 = { bonus := completionBonus c.total c.tpl.completionPct, result := .stored,
            chain := some (c.tpl.next, .refusedDuplicate) }
  pushed : ∀ (k : Fin 63) (tpl : Template), c.tpl.next = k.val + 1 → (s.templates[k]'k.isLt) = some tpl →
    (∀ x ∈ rest, x.id ≠ c.tpl.next) → rest.length < 8 →
    r.1.pages[p].stack.map Context.plain = rest.map Context.plain ++ [Context.build c.tpl.next tpl] ∧
    r.1.isPending .modeRefused = s.isPending .modeRefused ∧
    r.2 = { bonus := completionBonus c.total c.tpl.completionPct, result := .stored, chain := some (c.tpl.next, .ok) }

theorem complete_chain {p : PlayerNo} {s : State} {beneath above : List Context} {c e : Context}
    (hs : (s.pages[p]'p.isLt).stack = beneath ++ e :: above) (he : e.id = c.id ∧ e.total = c.total)
    (h : ∀ x ∈ beneath ++ above, x.id ≠ c.id)
    (hfits : (s.pages[p]'p.isLt).score + completionBonus c.total c.tpl.completionPct ≤ 999999999999) (ho : s.isOpen = true) :
    Chained p c (beneath ++ above) s (complete p c s) := by
  have hcs := completed_completes hs he h hfits
  have htpl (k : Fin 63) (hk : c.tpl.next = k.val + 1) : (s.completed p c).template c.tpl.next = (s.templates[k]'k.isLt) := by
    rw [hk, State.template_succ]
    exact congrArg (·[k]) (congrArg Kept.templates hcs.kept)
  have hnext {k : Fin 63} (hk : c.tpl.next = k.val + 1) : c.tpl.next ≠ 0 := by omega
  refine ⟨fun hn => ?_, fun k hk ht => ?_, fun k tpl hk ht hdup => ?_, fun k tpl hk ht hfree hroom => ?_⟩
  · rw [complete_last hfits hn]
    exact ⟨hcs.stack, hcs.refused, rfl⟩
  · exact complete_refused hs he h hfits (hnext hk) (by decide) (push_notFound ((htpl k hk).trans ht))
  · exact complete_refused hs he h hfits (hnext hk) (by decide)
      (push_duplicate ((htpl k hk).trans ht) (exists_id_of_plain hcs.stack hdup))
  · refine complete_pushed hs he h hfits (hnext hk) (push_ok ((htpl k hk).trans ht) (ids_of_plain hcs.stack hfree) ?_ ?_)
    · rw [length_of_plain hcs.stack]
      exact hroom
    · rw [State.isOpen, hcs.session]
      exact ho

/-- Settles O41. -/
theorem advanceModeOutcome : Obligations.AdvanceModeOutcome := by
  unfold Obligations.AdvanceModeOutcome
  intro s id n h p
  refine ⟨fun hc => ?_, fun ho hn => ?_, fun beneath above c ho hs hid hne => ?_⟩
  · exact request_refused (run := advanceMode) h rfl (withContext_closed (State.isOpen_of_closed hc))
  · exact request_refused (run := advanceMode) h rfl (withContext_none (State.isOpen_of_opened ho) hn)
  · intro plain bonus
    have hopen : (s.begun 2).isOpen = true := State.isOpen_of_opened ho
    have hpage : (s.begun 2).page.stack = beneath ++ c :: above := hs
    refine ⟨fun h0 => ?_, fun hn hg => ⟨Config.absentResult s.freeIndex, ?_⟩,
      fun hn hg => ⟨Config.absentResult s.freeIndex, ?_⟩, fun hn h0 hg hfits => ?_⟩
    · exact request_refused (run := advanceMode) h rfl ((advanceMode_split hopen hpage hid hne).trans (if_pos h0))
    · refine request_done (run := advanceMode) h rfl (advanceMode_incomplete hopen hpage hid hne hn (by omega)) ?_
      rw [State.advanced, Nat.min_eq_right (Nat.le_of_lt hg)]
      rfl
    · refine request_done (run := advanceMode) h rfl (advanceMode_incomplete hopen hpage hid hne hn (by omega)) ?_
      rw [State.advanced, hg, Nat.zero_min]
      rfl
    · generalize hu : (s.begun 2).advanced p beneath above c n.toNat = u
      have hdone := request_ok (len := 2) (run := advanceMode) h rfl
        (advanceMode_completes (t := (complete p c u).1) (done := (complete p c u).2) hopen hpage hid hne hn h0 hg (by
          rw [← hu]
          rfl))
      have hstack : (u.pages[p]'p.isLt).stack = beneath ++ { c with progress := min c.tpl.goal (c.progress + n.toNat) } :: above := by
        rw [← hu, State.advanced, State.modPage_get, if_pos rfl]
      have hscore : (u.pages[p]'p.isLt).score = (s.pages[p]'p.isLt).score ∧ (u.pages[p]'p.isLt).rollover = (s.pages[p]'p.isLt).rollover := by
        rw [← hu, State.advanced, State.modPage_get, if_pos rfl]
        exact ⟨rfl, rfl⟩
      have hkept : u.kept = (s.begun 2).kept := by rw [← hu]; rfl
      have hdev : u.devices = s.devices := by rw [← hu]; rfl
      have hpend : u.isPending .modeRefused = s.isPending .modeRefused := by rw [← hu]; rfl
      have hsession : u.session = s.session := by rw [← hu]; rfl
      have hids : ∀ x ∈ beneath ++ above, x.id ≠ c.id := fun x hx => hid ▸ hne x hx
      have hfits' : (u.pages[p]'p.isLt).score + bonus ≤ 999999999999 := by rw [hscore.1]; exact hfits
      have hend : Completed p c u (complete p c u).1 := complete_done hstack ⟨rfl, rfl⟩ hids hfits'
      have hopen' : u.isOpen = true := State.isOpen_of_opened (by rw [hsession]; exact ho)
      obtain ⟨hlast, hnone, hdup, hpush⟩ := complete_chain (c := c) hstack ⟨rfl, rfl⟩ hids hfits' hopen'
      have htpl (k : Fin 63) : (u.templates[k]'k.isLt) = (s.templates[k]'k.isLt) := congrArg (·[k]) (congrArg Kept.templates hkept)
      have hlink := (congrArg Kept.link hend.kept).trans (congrArg Kept.link hkept)
      have hfree := (congrArg Kept.freeIndex hend.kept).trans (congrArg Kept.freeIndex hkept)
      generalize complete p c u = r at *
      obtain ⟨t, done⟩ := r
      have hafter : ∀ out, advanceBody (s.begun 2).freeIndex c.tpl.goal (some done) = out →
          (prepare { status := .ok, body := advanceBody (s.begun 2).freeIndex c.tpl.goal (some done) } t).link =
            s.link.after 2 { status := .ok, body := out } := fun out hout => hout ▸ prepare_link 2 _ hlink
      refine ⟨_, hdone, hend.score.trans (congrArg (· + bonus) hscore.1), hend.rollover.trans hscore.2, hend.last,
        hend.ended, hend.devices.trans hdev, hfree, fun hn0 => ?_, fun k hk ht => ?_,
        fun k tpl hk ht hin => ?_, fun k tpl hk ht hout hroom => ?_⟩
      · obtain ⟨hplain, href, rfl⟩ := hlast hn0
        exact ⟨hplain, href.trans hpend, hafter _ (advanceBody_last _ _ _)⟩
      · obtain ⟨hplain, href, rfl⟩ := hnone k hk ((htpl k).trans ht)
        exact ⟨hplain, href, hafter _ (advanceBody_chained _ _ _ _ _)⟩
      · obtain ⟨hplain, href, rfl⟩ := hdup k tpl hk ((htpl k).trans ht) hin
        exact ⟨hplain, href, hafter _ (advanceBody_chained _ _ _ _ _)⟩
      · obtain ⟨hplain, href, rfl⟩ := hpush k tpl hk ((htpl k).trans ht) hout (by rw [List.length_append]; exact hroom)
        exact ⟨⟨_, hplain, rfl, rfl, rfl, rfl, rfl⟩, href.trans hpend, hafter _ (advanceBody_chained _ _ _ _ _)⟩

end Sys2Proof.Machine

/-! The award router (R111 to R117): the dispatch of an award and what each kind does. -/

namespace Sys2Proof.Machine

/-! ### Admission (R111 to R113) -/

/-- The scoped mode of an award as a dispatch finds it. -/
def State.scopedMode (s : State) (i : Fin 256) : Option Context :=
  if (s.awards[i]'i.isLt).scope = 0 then none else runningContext s.page.stack (s.awards[i]'i.isLt).scope

theorem dispatch_shut {i : Fin 256} {s : State} (h : s.session.state = .closed ∨ s.session.tilt = .tilted) :
    dispatch i s = s := by
  have hshut : (!s.isOpen || s.isTilted) = true := by
    obtain h | h := h
    · rw [State.isOpen_of_closed h]
      rfl
    · simp [State.isTilted, h]
  rw [dispatch, if_pos hshut]

theorem dispatch_open {i : Fin 256} {s : State} (ho : s.session.state = .opened) (ht : s.session.tilt ≠ .tilted) :
    dispatch i s =
      if (s.awards[i]'i.isLt).scope ≠ 0 ∧ s.scopedMode i = none ∧ (s.awards[i]'i.isLt).requiresRunning then notifyStep i s
      else kindEffect (s.awards[i]'i.isLt) (s.product (s.scopedMode i)) (s.scopedMode i) (notifyStep i s) := by
  have hopen : ¬ (!s.isOpen || s.isTilted) = true := by
    simp [State.isOpen_of_opened ho, State.isTilted, ht]
  rw [dispatch, if_neg hopen]
  rfl

theorem notifyStep_silent {i : Fin 256} {s : State} (h : (s.awards[i]'i.isLt).notify = false) : notifyStep i s = s := by
  rw [notifyStep, h]
  rfl

theorem notifyStep_notified {i : Fin 256} {s : State} (h : (s.awards[i]'i.isLt).notify = true) :
    notifyStep i s = State.raise { s with awardHits := s.awardHits ||| (1#256 <<< i.val) } .awardHit := by
  rw [notifyStep, h]
  rfl

/-- An award that is admitted and does not notify takes its kind's effect alone. -/
theorem dispatch_admitted {i : Fin 256} {s : State} (ho : s.session.state = .opened) (ht : s.session.tilt ≠ .tilted)
    (hn : (s.awards[i]'i.isLt).notify = false) (hs : (s.awards[i]'i.isLt).scope = 0 ∨ (s.awards[i]'i.isLt).requiresRunning = false ∨
      ∃ c : Context, runningContext (s.pages[s.session.current]'s.session.current.isLt).stack (s.awards[i]'i.isLt).scope = some c) :
    dispatch i s = kindEffect (s.awards[i]'i.isLt) (s.product (s.scopedMode i)) (s.scopedMode i) s := by
  rw [dispatch_open ho ht, notifyStep_silent hn, if_neg]
  rintro ⟨hscope, hmode, hreq⟩
  obtain h | h | ⟨c, hc⟩ := hs
  · exact hscope h
  · exact Bool.false_ne_true (h.symm.trans hreq)
  · rw [State.scopedMode, if_neg hscope] at hmode
    exact absurd (hmode.symm.trans hc) (by simp)

theorem scopedMode_running {i : Fin 256} {s : State} {c : Context} (h0 : c.id ≠ 0) (hs : (s.awards[i]'i.isLt).scope = c.id)
    (hc : runningContext (s.pages[s.session.current]'s.session.current.isLt).stack c.id = some c) : s.scopedMode i = some c := by
  rw [State.scopedMode, hs, if_neg h0]
  exact hc

theorem mem_of_scopedMode {i : Fin 256} {s : State} {c : Context} (h : s.scopedMode i = some c) : c ∈ s.page.stack := by
  rw [State.scopedMode] at h
  split at h
  · exact absurd h (by simp)
  · exact (mem_of_runningContext h).1

theorem scopedMode_none {i : Fin 256} {s : State} (hs : (s.awards[i]'i.isLt).scope = 0) : s.scopedMode i = none := if_pos hs

theorem product_eq (s : State) (mode : Option Context) : s.product mode =
    min 99 (s.pfMult * ((globals s.page.stack).map fun g => g.tpl.multiplier).prod * scopedFactor mode) := by
  rw [State.product, exactProduct_eq]
  rfl

/-! ### Scoring (R114, R126, R129) -/

theorem State.modPage_modPage (s : State) (p : PlayerNo) (f g : Page → Page) :
    (s.modPage p f).modPage p g = s.modPage p (g ∘ f) := by
  simp [State.modPage]

/-- POINTS with a scoped mode, the sum within the score's range. -/
theorem scoreAward_split {b m : Nat} {s : State} {beneath above : List Context} {c : Context}
    (hs : s.page.stack = beneath ++ c :: above) (h : ∀ x ∈ beneath ++ above, x.id ≠ c.id)
    (hfits : s.page.score + b * m ≤ 999999999999) : scoreAward b m (some c) s =
      s.modPage s.session.current fun g => { g with
        score := s.page.score + b * m,
        stack := beneath ++ { c with total := min 999999999999 (c.total + b * m) } :: above } := by
  rw [scoreAward, addScore_of_fits hfits]
  dsimp only
  rw [addTotal, modContext_split (p := s.session.current) (beneath := beneath) (above := above) (c := c) _ ?_ rfl h]
  · rw [State.modPage_modPage]
    rfl
  · rw [State.modPage_get, if_pos rfl]
    exact hs

theorem scoreAward_none (b m : Nat) (s : State) :
    scoreAward b m none s = (addScore s.session.current (b * m) s).1 := rfl

/-- What an addition does to the pages: one score. -/
theorem addScore_page (p q : PlayerNo) (v : Nat) (s : State) : ∃ score rollover : Nat,
    (addScore p v s).1.pages[q] =
      if q = p then { (s.pages[p]'p.isLt) with score := score, rollover := rollover } else (s.pages[q]'q.isLt) := by
  have p_lt := p.isLt
  obtain ⟨-, h⟩ | ⟨-, -, h⟩ | ⟨-, -, -, h⟩ := addScore_cases p v s
  · exact ⟨_, (s.pages[p]'p.isLt).rollover, by rw [h]; exact State.modPage_get s p q _⟩
  · exact ⟨_, (s.pages[p]'p.isLt).rollover, by rw [h]; exact State.modPage_get s p q _⟩
  · refine ⟨(s.pages[p]'p.isLt).score + v - Config.rollModulus, (s.pages[p]'p.isLt).rollover + 1, ?_⟩
    rw [h]
    exact State.modPage_get s p q fun g =>
      { g with score := (s.pages[p]'p.isLt).score + v - Config.rollModulus, rollover := g.rollover + 1 }

/-! ### The award-hit flags outlast an award's effect (R112) -/

theorem addScore_awardHits (p : PlayerNo) (v : Nat) (s : State) : (addScore p v s).1.awardHits = s.awardHits := by
  obtain ⟨-, h⟩ | ⟨-, -, h⟩ | ⟨-, -, -, h⟩ := addScore_cases p v s <;> rw [h] <;> rfl

theorem scoreAward_awardHits (b m : Nat) (mode : Option Context) (s : State) :
    (scoreAward b m mode s).awardHits = s.awardHits := by
  cases mode with
  | none => exact addScore_awardHits _ _ s
  | some c => exact addScore_awardHits _ _ s

theorem endContext_awardHits (p : PlayerNo) (id : Nat) (r : EndReason) (s : State) :
    (endContext p id r s).awardHits = s.awardHits := (endContext_closing p id r s).awardHits

theorem push_awardHits (p : PlayerNo) (id : Nat) (s : State) : (push p id s).1.awardHits = s.awardHits := by
  obtain ⟨st, -, h⟩ | ⟨t, -, -, -, -, h⟩ := push_cases p id s <;> rw [h]
  rfl

theorem complete_awardHits (p : PlayerNo) (c : Context) (s : State) : (complete p c s).1.awardHits = s.awardHits := by
  have hend : (s.completed p c).awardHits = s.awardHits :=
    (endContext_awardHits p c.id .completed _).trans (addScore_awardHits p _ s)
  have hpush := (push_awardHits p c.tpl.next (s.completed p c)).trans hend
  simp only [complete]
  split
  · exact hend
  · rw [State.raiseIf_awardHits]
    exact hpush

theorem advance_awardHits (p : PlayerNo) (id n : Nat) (s : State) : (advance p id n s).1.awardHits = s.awardHits := by
  cases hc : contextOf (s.pages[p]'p.isLt).stack id with
  | none => simp only [advance, hc]
  | some x =>
    simp only [advance, hc]
    split
    · exact complete_awardHits p _ _
    · rfl

theorem addOwedTimes_awardHits (d : DevNo) (n : Nat) (s : State) : (addOwedTimes d n s).awardHits = s.awardHits := by
  obtain ⟨devices, coils, slots, b, h⟩ := OrderFrame.of_addOwedTimes d n s
  rw [h, State.raiseIf_awardHits]

theorem startMultiball_awardHits (target : Nat) (mask : Byte) (saveTime : Nat) (s : State) :
    (startMultiball target mask saveTime s).1.awardHits = s.awardHits := by
  have hsourced : (s.sourced mask).awardHits = s.awardHits := by
    rw [State.sourced]
    generalize s.maskedPlaces mask = l
    induction l generalizing s with
    | nil => rfl
    | cons k l ih =>
      rw [List.foldl_cons, ih]
      exact addOwedTimes_awardHits _ _ s
  rw [startMultiball_eq]
  refine (closeEvent_closing s _).awardHits.trans ?_
  have hserved : (s.multiballServed target mask).awardHits = s.awardHits := (addOwedTimes_awardHits _ _ _).trans hsourced
  rw [State.multiballSaved]
  split
  · exact hserved
  · exact hserved

theorem kindEffect_awardHits (e : AwardEntry) (m : Nat) (mode : Option Context) (s : State) :
    (kindEffect e m mode s).awardHits = s.awardHits := by
  unfold kindEffect
  cases e.kind with
  | points => exact scoreAward_awardHits _ m mode s
  | advance =>
    cases mode with
    | none => exact scoreAward_awardHits _ m none s
    | some c => exact (advance_awardHits _ c.id 1 _).trans (scoreAward_awardHits _ m (some c) s)
  | jackpotBuild => cases mode <;> rfl
  | jackpotCollect =>
    cases mode with
    | none => rfl
    | some c => exact scoreAward_awardHits _ m (some c) s
  | hurryCollect =>
    cases mode with
    | none => rfl
    | some c =>
      simp only [awardHurryCollect]
      split
      · exact (complete_awardHits _ _ _).trans (scoreAward_awardHits _ m (some c) s)
      · exact scoreAward_awardHits _ m (some c) s
  | lightLock =>
    simp only [awardLightLock]
    split
    · rfl
    · split <;> rfl
  | startMode =>
    simp only [awardStartMode, State.raiseIf_awardHits]
    exact push_awardHits _ _ s
  | startMultiball =>
    simp only [awardStartMultiball]
    split
    · exact startMultiball_awardHits _ _ _ s
    · rfl
  | pfMult => rfl
  | notify => rfl

/-- Settles O33. -/
theorem dispatchScoresTheProduct : Obligations.DispatchScoresTheProduct := by
  unfold Obligations.DispatchScoresTheProduct
  refine ⟨fun s i => ⟨dispatch_shut, fun ho ht => ⟨fun hn => ?_, fun hscope hreq hmode => ?_⟩⟩,
    fun s i c ho ht hkind hn hscope h0 hc hlocal => ?_⟩
  · have hhit : (notifyStep i s).awardHits.getLsbD i.val = true ∧ (notifyStep i s).isPending .awardHit = true := by
      rw [notifyStep_notified hn, isPending_raise]
      refine ⟨?_, by simp⟩
      change (s.awardHits ||| (1#256 <<< i.val)).getLsbD i.val = true
      simp
    rw [dispatch_open ho ht]
    split
    · exact hhit
    · rw [kindEffect_awardHits]
      have hstep : (notifyStep i s).awards = s.awards ∧ (notifyStep i s).page = s.page := by
        rw [notifyStep_notified hn]
        exact ⟨rfl, rfl⟩
      refine ⟨hhit.1, (kindEffect_quiet (fun _ => False) _ _ _ _ (fun hs => ?_) (fun c hc => ?_) (s.product_le _)).pending _
        hhit.2⟩
      · have hbase := hs.2.2.1 i
        rw [hstep.1] at hbase
        exact hbase
      · rw [hstep.2]
        exact mem_of_scopedMode hc
  · have hnone : s.scopedMode i = none := (if_neg hscope).trans hmode
    rw [dispatch_open ho ht, if_pos ⟨hscope, hnone, hreq⟩]
    rfl
  · intro p gs m v t
    have hmode := scopedMode_running h0 hscope hc
    have hproduct : s.product (some c) = m := by
      rw [product_eq, scopedFactor, if_pos hlocal]
      rfl
    have ht : t = addTotal p c.id v (addScore p v s).1 := by
      have hd := dispatch_admitted ho ht hn (.inr (.inr ⟨c, hscope ▸ hc⟩))
      rw [hmode, hproduct, kindEffect, hkind] at hd
      exact hd
    have hpage (q : PlayerNo) : (t.pages[q]'q.isLt) = if q = p then
        { (addScore p v s).1.pages[p] with stack := (addScore p v s).1.pages[p].stack.map fun x =>
            if x.id = c.id then { x with total := min 999999999999 (x.total + v) } else x }
        else (addScore p v s).1.pages[q] := by
      rw [ht]
      exact modContext_get p q c.id _ _
    refine ⟨fun hfits => ?_, fun q hq => ?_, ?_⟩
    · rw [hpage, if_pos rfl, addScore_of_fits hfits]
      dsimp only
      rw [State.modPage_get, if_pos rfl]
      exact ⟨rfl, rfl⟩
    · obtain ⟨score, rollover, h⟩ := addScore_page p q v s
      rw [hpage, if_neg hq, h, if_neg hq]
    · obtain ⟨score, rollover, h⟩ := addScore_page p p v s
      rw [hpage, if_pos rfl, h, if_pos rfl]

/-! ### LIGHT_LOCK, START_MODE and START_MULTIBALL (R116) -/

theorem indexOf_eq_some {n : Nat} {b : Byte} {i : Fin n} (h : indexOf n b = some i) : b = byte i.val := by
  unfold indexOf at h
  split at h
  · simp only [Option.some.injEq] at h
    rw [← h]
    exact BitVec.eq_of_toNat_eq (byte_toNat_of_lt b.isLt).symm
  · exact absurd h (by simp)

theorem awardLightLock_lock {s : State} {k : LockNo} (h : s.devices[lockDevice k].cfg.kind = .lock) :
    awardLightLock (byte (lockDevice k).val) s = s.modCurrent fun g =>
      { g with lit := g.lit.set k (g.lit[k] + min 1 (s.lockRoom (lockDevice k) k)) } := by
  simp only [awardLightLock, indexOf_byte (lockDevice k), State.lockOf_lockDevice h]
  rfl

theorem awardLightLock_none {s : State} {b : Byte}
    (h : ∀ k : LockNo, b = byte (lockDevice k).val → s.devices[lockDevice k].cfg.kind ≠ .lock) :
    awardLightLock b s = s := by
  cases hd : indexOf 8 b with
  | none => simp only [awardLightLock, hd]
  | some d =>
    cases hl : s.lockOf d with
    | none => simp only [awardLightLock, hd, hl]
    | some k =>
      obtain ⟨hk, rfl⟩ := State.lockOf_eq_some hl
      exact absurd hk (h k (indexOf_eq_some hd))

theorem awardStartMode_refused {s : State} {b : Byte} {st : Status} (hst : st ≠ .ok)
    (h : push s.session.current b.toNat s = (s, st)) : awardStartMode b s = s.raise .modeRefused := by
  simp only [awardStartMode, h, bne_iff_ne.mpr hst]
  rfl

theorem awardStartMode_pushed {s t : State} {b : Byte} (h : push s.session.current b.toNat s = (t, .ok)) :
    awardStartMode b s = t := by
  simp only [awardStartMode, h]
  rfl

theorem awardStartMode_byte {s : State} (k : Fin 63)
    (h : (s.templates[k]'k.isLt) = none ∨ (∃ c ∈ s.page.stack, c.id = k.val + 1) ∨ 8 ≤ s.page.stack.length) :
    awardStartMode (byte (k.val + 1)) s = s.raise .modeRefused := by
  have hbyte : (byte (k.val + 1)).toNat = k.val + 1 := byte_toNat_of_lt (by omega)
  cases ht : (s.templates[k]'k.isLt) with
  | none => exact awardStartMode_refused (by decide) (push_notFound ((State.template_byte s k).trans ht))
  | some t =>
    by_cases hd : ∃ c ∈ s.page.stack, c.id = k.val + 1
    · refine awardStartMode_refused (by decide) (push_duplicate ((State.template_byte s k).trans ht) ?_)
      rw [hbyte]
      exact hd
    · have hlong : 8 ≤ s.page.stack.length := by
        obtain h | h | h := h
        · exact absurd (ht.symm.trans h) (by simp)
        · exact (hd h).elim
        · exact h
      refine awardStartMode_refused (by decide) (push_full ((State.template_byte s k).trans ht) (fun c hc he => ?_) hlong)
      exact hd ⟨c, hc, he.trans hbyte⟩

/-- Every lock place is in the mask of an award. -/
theorem masked_all (s : State) (k : LockNo) :
    s.masked 0xFC k = (s.devices[lockDevice k].cfg.kind == .lock) := by
  have hbit : ∀ k : LockNo, (0xFC : Byte).getLsbD (lockDevice k).val = true := by decide
  rw [State.masked, hbit, Bool.true_and]

/-! ### The kinds of an award without a scoped mode's part (R114 to R117) -/

theorem product_unscoped {s : State} : s.product none =
    min 99 (s.pfMult * ((globals s.page.stack).map fun g => g.tpl.multiplier).prod) := by
  rw [product_eq, scopedFactor, Nat.mul_one]

theorem awardStartMultiball_started {s : State} {b : Byte} (hp : s.acct.phase = .play) (ht : s.session.tilt ≠ .tilted)
    (hb : 1 ≤ s.ballsInPlay) (htrough : (s.devices[trough]'trough.isLt).live.state ≠ .disabled)
    (hlocks : ∀ d : DevNo, (s.devices[d]'d.isLt).cfg.kind = .lock → (s.devices[d]'d.isLt).live.state ≠ .disabled) :
    Started s (awardStartMultiball b s) b.toNat 0xFC s.options.multiballSave := by
  rw [awardStartMultiball, if_pos (s.multiballAccepted_iff.mpr ⟨hp, ht⟩)]
  exact startMultiball_started _ _ _ hp hb htrough hlocks

/-- The part of O34 that does not look at a RUNNING scoped mode. -/
theorem unscopedKinds_hold (s : State) (i : Fin 256) (ho : s.session.state = .opened) (htilt : s.session.tilt ≠ .tilted)
    (hn : (s.awards[i]'i.isLt).notify = false) (hs : (s.awards[i]'i.isLt).scope = 0 ∨ (s.awards[i]'i.isLt).requiresRunning = false ∨
      ∃ c : Context, runningContext (s.pages[s.session.current]'s.session.current.isLt).stack (s.awards[i]'i.isLt).scope = some c) :
    ((s.awards[i]'i.isLt).kind = .pfMult →
      dispatch i s = { s with pfMult := min 9 (s.pfMult + 1), pfTimer := s.options.pfMultTime, pfDue := false }) ∧
    ((s.awards[i]'i.isLt).kind = .notify → dispatch i s = s) ∧
    ((s.awards[i]'i.isLt).kind = .lightLock → dispatch i s = awardLightLock (s.awards[i]'i.isLt).argument s) ∧
    ((s.awards[i]'i.isLt).kind = .startMode → dispatch i s = awardStartMode (s.awards[i]'i.isLt).argument s) ∧
    ((s.awards[i]'i.isLt).kind = .startMultiball → dispatch i s = awardStartMultiball (s.awards[i]'i.isLt).argument s) ∧
    ((s.awards[i]'i.isLt).scope = 0 →
      ((s.awards[i]'i.isLt).kind = .jackpotBuild ∨ (s.awards[i]'i.isLt).kind = .jackpotCollect ∨ (s.awards[i]'i.isLt).kind = .hurryCollect →
        dispatch i s = s) ∧
      ((s.awards[i]'i.isLt).kind = .points ∨ (s.awards[i]'i.isLt).kind = .advance →
        dispatch i s = (addScore s.session.current ((s.awards[i]'i.isLt).base * s.product none) s).1)) := by
  have hd := dispatch_admitted ho htilt hn hs
  rw [kindEffect] at hd
  refine ⟨fun hk => ?_, fun hk => ?_, fun hk => ?_, fun hk => ?_, fun hk => ?_, fun h0 => ⟨fun hk => ?_, fun hk => ?_⟩⟩
  · rw [hd, hk]
    rfl
  · rw [hd, hk]
  · rw [hd, hk]
  · rw [hd, hk]
  · rw [hd, hk]
  · rw [scopedMode_none h0] at hd
    obtain hk | hk | hk := hk <;> rw [hd, hk] <;> rfl
  · rw [scopedMode_none h0] at hd
    obtain hk | hk := hk <;> rw [hd, hk] <;> rfl

/-! ### The kinds of an award on a RUNNING scoped mode -/

section
variable {s : State} {beneath above : List Context} {c : Context}

theorem awardJackpotBuild_split (hs : s.page.stack = beneath ++ c :: above) (h : ∀ x ∈ beneath ++ above, x.id ≠ c.id) :
    awardJackpotBuild (some c) s = s.modPage s.session.current fun g => { g with
      stack := beneath ++ { c with jackpot := min (c.jackpot + c.tpl.jackpotStep) c.tpl.jackpotMax } :: above } :=
  modContext_split (p := s.session.current) _ hs rfl h

theorem awardJackpotCollect_split {m : Nat} (hs : s.page.stack = beneath ++ c :: above)
    (h : ∀ x ∈ beneath ++ above, x.id ≠ c.id) (hfits : s.page.score + c.jackpot * m ≤ 999999999999) :
    awardJackpotCollect m (some c) s = s.modPage s.session.current fun g => { g with
      score := s.page.score + c.jackpot * m,
      stack := beneath ++ { c with total := min 999999999999 (c.total + c.jackpot * m), jackpot := c.tpl.jackpotBase }
        :: above } := by
  simp only [awardJackpotCollect, scoreAward_split hs h hfits]
  rw [modContext_split (p := s.session.current) (beneath := beneath) (above := above)
    (c := { c with total := min 999999999999 (c.total + c.jackpot * m) }) _ ?_ rfl h, State.modPage_modPage]
  · rfl
  · rw [State.modPage_get, if_pos rfl]

/-- A context that has scored a value. -/
def Context.scored (c : Context) (v : Nat) : Context := { c with total := min 999999999999 (c.total + v) }

/-- What the completion of a context that has scored leaves. -/
structure ScoredOut (s t : State) (c : Context) (rest : List Context) (v : Nat) : Prop where
  score : (t.pages[s.session.current]'s.session.current.isLt).score =
    s.page.score + v + completionBonus (c.scored v).total c.tpl.completionPct
  last : (t.pages[s.session.current]'s.session.current.isLt).last = { id := c.id, reason := .completed, total := (c.scored v).total }
  ended : t.isPending .modeEnded = true
  stack : c.tpl.next = 0 → (t.pages[s.session.current]'s.session.current.isLt).stack.map Context.plain = rest.map Context.plain

/-- A context completes after it has scored. -/
theorem complete_scored {e : Context} {v : Nat} {f : Page → Page} (hopen : s.isOpen = true)
    (hf : f s.page = { s.page with score := s.page.score + v, stack := beneath ++ e :: above })
    (he : e.id = c.id ∧ e.total = (c.scored v).total) (h : ∀ x ∈ beneath ++ above, x.id ≠ c.id)
    (hfits : s.page.score + v + completionBonus (c.scored v).total c.tpl.completionPct ≤ 999999999999) :
    ScoredOut s (complete s.session.current (c.scored v) (s.modPage s.session.current f)).1 c (beneath ++ above) v := by
  have hpage : (s.modPage s.session.current f).pages[s.session.current] =
      { s.page with score := s.page.score + v, stack := beneath ++ e :: above } := by
    rw [State.modPage_get, if_pos rfl]
    exact hf
  have hopen' : (s.modPage s.session.current f).isOpen = true := hopen
  generalize s.modPage s.session.current f = u at *
  have hstack : (u.pages[s.session.current]'s.session.current.isLt).stack = beneath ++ e :: above := by rw [hpage]
  have hscore : (u.pages[s.session.current]'s.session.current.isLt).score = s.page.score + v := by rw [hpage]
  rw [← hscore] at hfits
  have hdone := complete_done (c := c.scored v) hstack he h hfits
  have hchain := complete_chain (c := c.scored v) hstack he h hfits hopen'
  exact ⟨hdone.score.trans (congrArg (· + _) hscore), hdone.last, hdone.ended, fun hn => (hchain.last hn).1⟩

theorem awardHurryCollect_split {m : Nat} (hopen : s.isOpen = true) (hs : s.page.stack = beneath ++ c :: above)
    (h : ∀ x ∈ beneath ++ above, x.id ≠ c.id)
    (hfits : s.page.score + c.hurry * m + completionBonus (c.scored (c.hurry * m)).total c.tpl.completionPct ≤ 999999999999) :
    ScoredOut s (awardHurryCollect m (some c) s) c (beneath ++ above) (c.hurry * m) := by
  have hscore := scoreAward_split hs h (Nat.le_trans (Nat.le_add_right _ _) hfits)
  have hcomplete := complete_scored (c := c) (e := c.scored (c.hurry * m)) (f := fun g => { g with
    score := s.page.score + c.hurry * m, stack := beneath ++ c.scored (c.hurry * m) :: above }) hopen rfl ⟨rfl, rfl⟩ h hfits
  have hpage : (s.modPage s.session.current fun g => { g with
      score := s.page.score + c.hurry * m,
      stack := beneath ++ c.scored (c.hurry * m) :: above }).page.stack = beneath ++ c.scored (c.hurry * m) :: above := by
    refine (congrArg Page.stack (State.modPage_get s _ s.session.current _)).trans ?_
    rw [if_pos rfl]
  have hc : contextOf (beneath ++ c.scored (c.hurry * m) :: above) c.id =
      some (c.scored (c.hurry * m), runState (c.scored (c.hurry * m)) above) :=
    contextOf_split (c := c.scored (c.hurry * m)) rfl fun x hx => h x (List.mem_append_left above hx)
  have heq : awardHurryCollect m (some c) s = (complete s.session.current (c.scored (c.hurry * m))
      (s.modPage s.session.current fun g => { g with
        score := s.page.score + c.hurry * m, stack := beneath ++ c.scored (c.hurry * m) :: above })).1 := by
    change scoreAward c.hurry m (some c) s = s.modPage s.session.current fun g => { g with
      score := s.page.score + c.hurry * m, stack := beneath ++ c.scored (c.hurry * m) :: above } at hscore
    simp only [awardHurryCollect, hscore, hpage, hc]
    rfl
  rw [heq]
  exact hcomplete

theorem awardAdvance_eq {b m : Nat} (hs : s.page.stack = beneath ++ c :: above)
    (h : ∀ x ∈ beneath ++ above, x.id ≠ c.id) (hfits : s.page.score + b * m ≤ 999999999999) :
    awardAdvance b m (some c) s = (advance s.session.current (c.scored (b * m)).id 1 (s.modPage s.session.current fun g => { g with
      score := s.page.score + b * m, stack := beneath ++ c.scored (b * m) :: above })).1 := by
  simp only [awardAdvance, scoreAward_split hs h hfits]
  rfl

theorem awardAdvance_below {b m : Nat} (hs : s.page.stack = beneath ++ c :: above)
    (h : ∀ x ∈ beneath ++ above, x.id ≠ c.id) (hfits : s.page.score + b * m ≤ 999999999999)
    (hg : ¬ (0 < c.tpl.goal ∧ min c.tpl.goal (c.progress + 1) = c.tpl.goal)) :
    awardAdvance b m (some c) s = s.modPage s.session.current fun g => { g with
      score := s.page.score + b * m,
      stack := beneath ++ { c.scored (b * m) with progress := min c.tpl.goal (c.progress + 1) } :: above } := by
  rw [awardAdvance_eq hs h hfits, advance_split (beneath := beneath) (above := above) (c := c.scored (b * m)) 1 ?_ h]
  · have hbelow : ¬ (0 < (c.scored (b * m)).tpl.goal ∧
        min (c.scored (b * m)).tpl.goal ((c.scored (b * m)).progress + 1) = (c.scored (b * m)).tpl.goal) := hg
    rw [if_neg hbelow, State.modPage_modPage]
    rfl
  · rw [State.modPage_get, if_pos rfl]

theorem awardAdvance_reached {b m : Nat} (hopen : s.isOpen = true) (hs : s.page.stack = beneath ++ c :: above)
    (h : ∀ x ∈ beneath ++ above, x.id ≠ c.id) (h0 : 0 < c.tpl.goal) (hg : c.tpl.goal ≤ c.progress + 1)
    (hfits : s.page.score + b * m + completionBonus (c.scored (b * m)).total c.tpl.completionPct ≤ 999999999999) :
    ScoredOut s (awardAdvance b m (some c) s) c (beneath ++ above) (b * m) := by
  have hreached : 0 < (c.scored (b * m)).tpl.goal ∧
      min (c.scored (b * m)).tpl.goal ((c.scored (b * m)).progress + 1) = (c.scored (b * m)).tpl.goal :=
    ⟨h0, Nat.min_eq_left hg⟩
  rw [awardAdvance_eq hs h (Nat.le_trans (Nat.le_add_right _ _) hfits),
    advance_split (beneath := beneath) (above := above) (c := c.scored (b * m)) 1 ?_ h]
  · rw [if_pos hreached, State.modPage_modPage]
    exact complete_scored (c := c) hopen rfl ⟨rfl, rfl⟩ h hfits
  · rw [State.modPage_get, if_pos rfl]

end

/-- Settles O34. -/
theorem awardKindsTakeTheirEffects : Obligations.AwardKindsTakeTheirEffects := by
  unfold Obligations.AwardKindsTakeTheirEffects
  refine ⟨fun s i ho htilt hn hs => ?_, fun s i beneath above c ho htilt hn hscope h0 hs hne hp hx => ?_⟩
  · intro e p page plain t
    obtain ⟨hmult, hnotify, hlight, hstart, hmulti, hunscoped⟩ := unscopedKinds_hold s i ho htilt hn hs
    refine ⟨hmult, hnotify, fun hk => ⟨fun k harg hlock => ?_, fun harg => ?_⟩,
      fun hk => ⟨fun k tpl harg ht hid hlen => ?_, fun harg => ?_, fun k harg hr => ?_⟩,
      fun hk => ⟨fun hplay => ?_, fun hplay hb htr htr8 hlocks => ?_⟩,
      fun hz => ⟨(hunscoped hz).1, fun hk => ?_⟩⟩
    · exact (hlight hk).trans (harg ▸ awardLightLock_lock hlock)
    · exact (hlight hk).trans (awardLightLock_none harg)
    · have hbyte : (byte (k.val + 1)).toNat = k.val + 1 := byte_toNat_of_lt (by omega)
      have htpl := (State.template_byte s k).trans ht
      rw [hbyte] at htpl
      have hpush := push_ok (p := p) htpl hid hlen (State.isOpen_of_opened ho)
      obtain ⟨beneath, hstack, hplain⟩ := pushed_stack p (k.val + 1) tpl s
      have hpage := setStack_page p ((s.pages[p]'p.isLt).stack ++ [Context.build (k.val + 1) tpl]) s
      have hpushed : t = setStack p ((s.pages[p]'p.isLt).stack ++ [Context.build (k.val + 1) tpl]) s := by
        refine (hstart hk).trans (awardStartMode_pushed ?_)
        rw [show (s.awards[i]'i.isLt).argument = byte (k.val + 1) from harg, hbyte]
        exact hpush
      rw [hpushed]
      exact ⟨beneath, hplain, hstack, congrArg (·.score) hpage, rfl, rfl⟩
    · exact (hstart hk).trans (awardStartMode_refused (by decide) (push_notFound (State.template_none harg)))
    · exact (hstart hk).trans (harg ▸ awardStartMode_byte k hr)
    · refine (hmulti hk).trans (if_neg fun hacc => hplay (s.multiballAccepted_iff.mp hacc).1)
    · intro lock held total credits deficits extra
      have hstarted := awardStartMultiball_started (b := e.argument) hplay htilt hb htr hlocks
      have hmask : s.masked 0xFC = lock := funext (masked_all s)
      have htotal (f : LockNo → Nat) : ((s.maskedPlaces 0xFC).map f).sum = total f := by
        rw [sum_maskedPlaces, hmask]
      have hdeficits : s.deficits 0xFC = deficits := htotal _
      have hextra : s.extraBalls e.argument.toNat 0xFC = extra :=
        congrArg (fun n => min 8 (max 2 e.argument.toNat) - (s.acct.inPlay + n)) (htotal _)
      have ht : t = awardStartMultiball e.argument s := hmulti hk
      obtain ⟨-, hscore, hlit, hcredits, hsource, hfilled, hstate, htimer, -, hin⟩ := hstarted
      rw [← ht] at hscore hlit hcredits hsource hfilled hstate htimer hin
      rw [hdeficits, hextra, ← Nat.add_assoc] at hfilled
      rw [hmask] at hcredits hsource
      exact ⟨fun k => ⟨hcredits k, congrArg (·[k]) hlit, hsource k⟩, hfilled htr8, hstate, htimer, hin, hscore⟩
    · intro m
      exact ((hunscoped hz).2 hk).trans (congrArg (fun m => (addScore p (e.base * m) s).1) product_unscoped)
  · intro e p page gs m plain scored bonus completes t
    have hrun : runningContext (s.pages[s.session.current]'s.session.current.isLt).stack c.id = some c := by
      rw [hs]
      exact runningContext_split rfl (fun x hx => hne x (List.mem_append_left above hx)) (runState_running hp hx)
    have hproduct : s.product (some c) = m := product_eq s (some c)
    have hd : t = kindEffect e m (some c) s := by
      rw [← hproduct, ← scopedMode_running h0 hscope hrun]
      exact dispatch_admitted ho htilt hn (.inr (.inr ⟨c, hscope ▸ hrun⟩))
    have hopen : s.isOpen = true := State.isOpen_of_opened ho
    rw [kindEffect] at hd
    refine ⟨fun hk => ?_, fun hk hfits => ?_, fun hk hfits => ?_, fun hk hfits => ?_, fun hk hg hfits => ?_,
      fun hk hg hfits => ?_, fun hk hg hle hfits => ?_⟩
    · rw [hd, hk]
      exact awardJackpotBuild_split hs hne
    · rw [hd, hk]
      exact awardJackpotCollect_split hs hne hfits
    · rw [hd, hk]
      obtain ⟨h1, h2, h3, h4⟩ := awardHurryCollect_split hopen hs hne hfits
      exact ⟨h1, h2, h3, h4⟩
    · rw [hd, hk]
      exact scoreAward_split hs hne hfits
    · rw [hd, hk]
      refine (awardAdvance_below hs hne hfits (by omega)).trans ?_
      rw [Nat.min_eq_right (Nat.le_of_lt hg)]
      rfl
    · rw [hd, hk]
      refine (awardAdvance_below hs hne hfits (by omega)).trans ?_
      rw [hg, Nat.zero_min]
      rfl
    · rw [hd, hk]
      obtain ⟨h1, h2, h3, h4⟩ := awardAdvance_reached hopen hs hne hg hle hfits
      exact ⟨h1, h2, h3, h4⟩

end Sys2Proof.Machine

/-! The end of a game (R154, R166, R170, R171) and the tilt (R167, R168). -/

namespace Sys2Proof.Machine

/-! ### Closing every mode (R154) -/

/-- Whether some stack is not empty. -/
def State.anyMode (s : State) : Bool := (indices 4).any fun p => !(s.pages[p]'p.isLt).stack.isEmpty

theorem State.anyMode_iff (s : State) : s.anyMode = true ↔ ∃ p : PlayerNo, (s.pages[p]'p.isLt).stack ≠ [] := by
  simp only [State.anyMode, List.any_eq_true, mem_indices, true_and, Bool.not_eq_true', List.isEmpty_eq_false_iff]

theorem closeModes_eq (s : State) :
    closeModes s = State.raiseIf { s with pages := s.pages.map Page.closeStack } s.anyMode .modeEnded := rfl

theorem closeModes_frame (s : State) : (closeModes s).session = s.session ∧ (closeModes s).acct = s.acct ∧
    (closeModes s).devices = s.devices ∧ (closeModes s).slots = s.slots ∧ (closeModes s).coils = s.coils ∧
    (closeModes s).link = s.link := by
  simp only [closeModes, State.raiseIf_session, State.raiseIf_acct, State.raiseIf_devices, State.raiseIf_slots,
    State.raiseIf_coils, State.raiseIf_link, and_self]

theorem State.anyMode_congr {s t : State} (h : t.pages = s.pages) : t.anyMode = s.anyMode := by
  simp only [State.anyMode, h]

theorem closeModes_isPending (s : State) (k : Notice) :
    (closeModes s).isPending k = (s.isPending k || (s.anyMode && decide (k = .modeEnded))) := by
  rw [closeModes_eq, isPending_raiseIf]
  rfl

/-- What the close of the modes leaves of a page. -/
structure ClosedPage (g h : Page) : Prop where
  stack : h.stack = []
  score : h.score = g.score
  rollover : h.rollover = g.rollover
  lit : h.lit = g.lit
  credits : h.credits = g.credits
  kept : g.stack = [] → h.last = g.last
  last : ∀ c : Context, g.stack.head? = some c → h.last = { id := c.id, reason := .closed, total := c.total }

theorem Page.closeStack_closed (g : Page) : ClosedPage g g.closeStack := by
  unfold Page.closeStack
  split
  · next h => exact ⟨h, rfl, rfl, rfl, rfl, fun _ => rfl, fun c hc => by simp [h] at hc⟩
  · next c l h =>
    refine ⟨rfl, rfl, rfl, rfl, rfl, fun h0 => absurd (h.symm.trans h0) (by simp), fun e he => ?_⟩
    rw [h, List.head?_cons, Option.some.injEq] at he
    rw [he]

/-- The pages after every mode is closed and the timers are held. -/
theorem closeModes_held_page (s : State) {t : State} (h : t.pages = (closeModes s).pages) (p : PlayerNo) :
    ClosedPage (s.pages[p]'p.isLt) (holdTimers t).pages[p] := by
  obtain ⟨hstack, hscore, hroll, hlit, hcredits, hkept, hlast⟩ := (s.pages[p]'p.isLt).closeStack_closed
  rw [holdTimers_get, h, closeModes_pages, hstack, holdStack_nil]
  exact ⟨rfl, hscore, hroll, hlit, hcredits, hkept, hlast⟩

/-! ### CLOSE_SESSION and the slam (R166, R170) -/

/-- The end of a search, with what it leaves of the accounting record. -/
theorem endSearch_acct (s : State) : ∃ (coils : Vector Coil 24) (acct : Accounting),
    endSearch s = { s with coils := coils, acct := acct } ∧ acct.search = .idle ∧ acct.saveState = s.acct.saveState ∧
      acct.multiball = s.acct.multiball ∧ acct.phase = s.acct.phase ∧ acct.live = s.acct.live ∧
      acct.missing = s.acct.missing ∧ acct.flights = s.acct.flights := by
  unfold endSearch
  split
  · next h => exact ⟨s.coils, s.acct, rfl, h, rfl, rfl, rfl, rfl, rfl, rfl⟩
  · obtain ⟨v, hv⟩ := withdrawWaiting_frame [.search] s
    rw [hv]
    exact ⟨v, _, rfl, rfl, rfl, rfl, rfl, rfl, rfl, rfl⟩

/-- The close of an event outside play that leaves the live and missing counts together as they were. -/
theorem closeEvent_rest {before s : State} (hp : s.acct.phase = .ended ∨ s.acct.phase = .noPlay)
    (hl : s.loose = before.loose) :
    closeEvent before s = holdTimers (s.modAcct fun a => { a with inPlay := s.ballsInPlay }) := by
  have hends : ¬ (before.loose ≠ 0 ∧ before.loose = 0) := fun h => h.1 h.2
  have hloads : ¬ (before.loose = 0 ∧ before.loose ≠ 0) := fun h => h.2 h.1
  simp only [closeEvent, hl, if_neg hends, if_neg hloads, formPlay, State.modAcct_acct]
  obtain hp | hp := hp <;> rw [hp]

/-- The records of a slam before the search and the modes end (R170). -/
def State.slammed (s : State) : State :=
  saveOff (((((setPhase .ended (s.modSession fun r => { r with state := .closed })).raise .slam).modLive trough
    fun l => { l with owed := 0 }).modLive shooter fun l => { l with owed := 0 }).modAcct fun a =>
      { a with multiball := false })

theorem clearOwed_twice (s : State) (d : DevNo) : ((s.modLive trough fun l => { l with owed := 0 }).modLive shooter
    fun l => { l with owed := 0 }).devices[d] = if d = trough ∨ d = shooter
      then { (s.devices[d]'d.isLt) with live := { (s.devices[d]'d.isLt).live with owed := 0 } } else (s.devices[d]'d.isLt) := by
  have hne : shooter ≠ trough := by decide
  rw [State.modLive_get, State.modLive_get, State.modLive_get, if_neg hne]
  by_cases hs : d = shooter
  · rw [if_pos hs, if_pos (Or.inr hs), hs]
  · rw [if_neg hs]
    by_cases ht : d = trough
    · rw [if_pos ht, if_pos (Or.inl ht), ht]
    · rw [if_neg ht, if_neg fun hd => hd.elim ht hs]

theorem slammed_frame (s : State) : s.slammed.pages = s.pages ∧ s.slammed.slots = s.slots ∧
    s.slammed.session = { s.session with state := .closed } ∧ s.slammed.notices = (s.raise .slam).notices := by
  simp only [State.slammed, saveOff, setPhase, State.modAcct_pages, State.modLive_pages, State.raise_pages,
    State.modAcct_slots, State.modLive_slots, State.raise_slots, State.modAcct_session, State.modLive_session,
    State.raise_session, State.modAcct_notices, State.modLive_notices]
  exact ⟨rfl, rfl, rfl, rfl⟩

theorem slamEvent_eq {s : State} (ho : s.isOpen = true) : slamEvent s =
    closeEvent s (closeModes (stopIdle (endSearch s.slammed))) := by
  rw [slamEvent, if_pos ho]
  rfl

/-- What a slam leaves of the records before the modes close. -/
structure Slammed (s t : State) : Prop where
  session : t.session = { s.session with state := .closed }
  pages : t.pages = s.pages
  slots : t.slots = s.slots
  devices : ∀ d : DevNo, (t.devices[d]'d.isLt) = if d = trough ∨ d = shooter
    then { (s.devices[d]'d.isLt) with live := { (s.devices[d]'d.isLt).live with owed := 0 } } else (s.devices[d]'d.isLt)
  notices : t.notices = (s.raise .slam).notices
  phase : t.acct.phase = .ended
  multiball : t.acct.multiball = false
  saveState : t.acct.saveState = .off
  search : t.acct.search = .idle
  idle : t.acct.idleTimer.running = false
  live : t.acct.live = s.acct.live
  missing : t.acct.missing = s.acct.missing
  flights : t.acct.flights = s.acct.flights

theorem slammed_spec (s : State) : Slammed s (stopIdle (endSearch s.slammed)) := by
  obtain ⟨coils, acct, h, hsearch, hsave, hmulti, hphase, hlive, hmissing, hflights⟩ := endSearch_acct s.slammed
  obtain ⟨hpages, hslots, hsession, hnotices⟩ := slammed_frame s
  rw [h]
  exact ⟨hsession, hpages, hslots, clearOwed_twice _, hnotices, hphase, hmulti, hsave, hsearch, rfl, hlive, hmissing, hflights⟩

/-- The state that closes every mode of a slam, its close included. -/
theorem slamEvent_closed {s : State} (ho : s.isOpen = true) : slamEvent s = holdTimers
    ((closeModes (stopIdle (endSearch s.slammed))).modAcct fun a =>
      { a with inPlay := (closeModes (stopIdle (endSearch s.slammed))).ballsInPlay }) := by
  have h := slammed_spec s
  rw [slamEvent_eq ho]
  generalize stopIdle (endSearch s.slammed) = u at *
  have hacct : (closeModes u).acct = u.acct := by simp only [closeModes, State.raiseIf_acct]
  refine closeEvent_rest (.inl ?_) ?_
  · rw [hacct]
    exact h.phase
  · rw [State.loose, State.loose, hacct, h.live, h.missing]

theorem closeSession_refused {body : List Byte} {s : State}
    (h : s.session.state = .closed ∨ (s.acct.phase ≠ .noPlay ∧ s.acct.phase ≠ .ended)) :
    closeSession body s = refuse s .refusedState := by
  unfold closeSession
  split
  · rfl
  · next ho =>
    rw [if_pos]
    refine h.resolve_left fun hc => ho ?_
    rw [State.isOpen_of_closed hc]
    rfl

theorem closeSession_accepted {body : List Byte} {s : State} (ho : s.isOpen = true)
    (hp : s.acct.phase = .noPlay ∨ s.acct.phase = .ended) : closeSession body s =
      ok (holdTimers (closeModes (s.modSession fun r => { r with state := .closed }))) [] := by
  have hrest : ¬ (s.acct.phase ≠ .noPlay ∧ s.acct.phase ≠ .ended) := fun hn => hp.elim hn.1 hn.2
  rw [closeSession, if_neg (by rw [ho]; decide), if_neg hrest]

/-- Settles O45. -/
theorem closingEndsEveryMode : Obligations.ClosingEndsEveryMode := by
  unfold Obligations.ClosingEndsEveryMode
  intro s closes
  have hcloses {t : State} (hsession : t.session = { s.session with state := .closed })
      (hpages : ∀ p : PlayerNo, ClosedPage (s.pages[p]'p.isLt) (t.pages[p]'p.isLt))
      (hended : t.isPending .modeEnded = (s.isPending .modeEnded || s.anyMode)) : closes t := by
    refine ⟨hsession, fun p => ?_, ?_⟩
    · obtain ⟨h1, h2, -, h4, h5, h6, h7⟩ := hpages p
      exact ⟨h1, h2, h4, h5, h6, h7⟩
    · rw [hended, Bool.or_eq_true, s.anyMode_iff]
  refine ⟨fun h => ⟨fun hr => ?_, fun ho hp => ?_⟩, fun hc => ?_, fun ho => ?_⟩
  · exact request_refused (run := closeSession) h rfl (closeSession_refused hr)
  · have hdone := request_ok (len := 0) (body := []) (run := closeSession) h rfl
      (closeSession_accepted (s := s.begun 0) (State.isOpen_of_opened ho) hp)
    obtain ⟨hsession, hacct, hdevices, hslots, hcoils, hlink⟩ :=
      closeModes_frame ((s.begun 0).modSession fun r => { r with state := .closed })
    have hpages : ((s.begun 0).modSession fun r => { r with state := .closed }).pages = s.pages := State.begun_pages s 0
    have hheld := closeModes_held_page ((s.begun 0).modSession fun r => { r with state := .closed }) rfl
    have hended := closeModes_isPending ((s.begun 0).modSession fun r => { r with state := .closed }) .modeEnded
    rw [State.anyMode_congr hpages, decide_eq_true rfl, Bool.and_true] at hended
    rw [hpages] at hheld
    generalize closeModes ((s.begun 0).modSession fun r => { r with state := .closed }) = u at *
    exact ⟨_, hdone, hcloses hsession hheld hended, congrArg (·.phase) hacct, hdevices, hslots, hcoils,
      prepare_link 0 _ hlink⟩
  · exact if_neg (by rw [State.isOpen_of_closed hc]; decide)
  · intro t
    have h := slammed_spec s
    have ht := slamEvent_closed (State.isOpen_of_opened ho)
    change t = _ at ht
    generalize stopIdle (endSearch s.slammed) = u at *
    obtain ⟨hsession, hacct, hdevices, hslots, -, -⟩ := closeModes_frame u
    have hheld := closeModes_held_page u (t := (closeModes u).modAcct fun a =>
      { a with inPlay := (closeModes u).ballsInPlay }) rfl
    have hpend := closeModes_isPending u
    have hplay : t.acct.inPlay = t.ballsInPlay := by rw [ht]; rfl
    rw [h.pages] at hheld
    rw [State.anyMode_congr h.pages] at hpend
    have hraised (k : Notice) : u.isPending k = (s.isPending k || decide (k = .slam)) := by
      rw [← isPending_raise, State.isPending, State.isPending, h.notices]
    rw [ht] at hplay ⊢
    generalize closeModes u = w at *
    have hacct' : w.acct = u.acct := hacct
    refine ⟨hcloses (hsession.trans h.session) hheld ?_, ?_, ?_, ?_, ?_, ?_, ?_, ?_, ?_, ?_, ?_, ?_, hplay, fun d => ?_⟩
    · refine (hpend .modeEnded).trans ?_
      rw [hraised]
      simp
    · refine (hpend .slam).trans ?_
      rw [hraised]
      simp
    · refine (hpend .ballEnded).trans ?_
      rw [hraised]
      simp
    · exact (congrArg (·.phase) hacct').trans h.phase
    · exact (congrArg (·.multiball) hacct').trans h.multiball
    · exact (congrArg (·.saveState) hacct').trans h.saveState
    · exact (congrArg (·.search) hacct').trans h.search
    · exact (congrArg (·.idleTimer.running) hacct').trans h.idle
    · exact (congrArg (·.live) hacct').trans h.live
    · exact (congrArg (·.flights) hacct').trans h.flights
    · exact (congrArg (·.missing) hacct').trans h.missing
    · exact hslots.trans h.slots
    · exact (congrArg (·[d]) hdevices).trans (h.devices d)

end Sys2Proof.Machine

/-! Delivered edges: what the devices make of them (R6, R20), and tilt events (R167, R168). -/

namespace Sys2Proof.Machine

/-! ### An edge at the devices (R20) -/

/-- What an edge of switch `n` leaves of a device record. -/
def Device.edged (v : Device) (n : SwitchNo) (dir : Direction) : Device :=
  if v.live.state = .disabled then v
  else if v.cfg.entry = some n ∧ dir = .closing then
    { v with live := { v.live with entriesSeen := min 255 (v.live.entriesSeen + 1),
                                   settle := ⟨v.cfg.settleTime, true, false⟩ } }
  else if n ∈ v.cfg.positions then { v with live := { v.live with settle := ⟨v.cfg.settleTime, true, false⟩ } }
  else v

theorem State.modDevice_of_eq {s : State} {d : DevNo} {f : Device → Device} (h : f (s.devices[d]'d.isLt) = (s.devices[d]'d.isLt)) :
    s.modDevice d f = s := by
  rw [State.modDevice, h]
  exact congrArg (fun v => { s with devices := v }) (Vector.set_getElem_self d.isLt)

theorem deviceEdge_eq (n : SwitchNo) (dir : Direction) (d : DevNo) (s : State) :
    deviceEdge n dir d s = s.modDevice d fun v => v.edged n dir := by
  have d_lt := d.isLt
  by_cases hoff : s.devices[d].live.state = .disabled
  · exact (if_pos hoff).trans (State.modDevice_of_eq (f := fun v => v.edged n dir) (if_pos hoff)).symm
  · refine (if_neg hoff).trans ?_
    by_cases hentry : s.devices[d].cfg.entry = some n ∧ dir = .closing
    · have hedged : s.devices[d].edged n dir = { s.devices[d] with
          live := { s.devices[d].live with entriesSeen := min 255 (s.devices[d].live.entriesSeen + 1),
                                           settle := ⟨s.devices[d].cfg.settleTime, true, false⟩ } } := by
        rw [Device.edged, if_neg hoff, if_pos hentry]
      rw [State.modDevice, hedged, decide_eq_true hentry, if_pos rfl, Bool.true_or, if_pos rfl]
      simp [restartSettle, State.modLive, State.modDevice, Timer.load]
    · rw [decide_eq_false hentry, if_neg Bool.false_ne_true, Bool.false_or, List.contains_eq_mem]
      by_cases hmem : n ∈ s.devices[d].cfg.positions
      · have hedged : s.devices[d].edged n dir = { s.devices[d] with
            live := { s.devices[d].live with settle := ⟨s.devices[d].cfg.settleTime, true, false⟩ } } := by
          rw [Device.edged, if_neg hoff, if_neg hentry, if_pos hmem]
        rw [decide_eq_true hmem, if_pos rfl, State.modDevice, hedged]
        rfl
      · have hedged : s.devices[d].edged n dir = s.devices[d] := by
          rw [Device.edged, if_neg hoff, if_neg hentry, if_neg hmem]
        rw [decide_eq_false hmem, if_neg Bool.false_ne_true, State.modDevice_of_eq hedged]

theorem deviceEdge_get (n : SwitchNo) (dir : Direction) (d e : DevNo) (s : State) :
    (deviceEdge n dir d s).devices[e] = if e = d then (s.devices[d]'d.isLt).edged n dir else (s.devices[e]'e.isLt) := by
  rw [deviceEdge_eq, State.modDevice_get]

theorem deviceEdge_frame (n : SwitchNo) (dir : Direction) (d : DevNo) (s : State) :
    ∃ v : Vector Device 8, deviceEdge n dir d s = { s with devices := v } :=
  ⟨_, deviceEdge_eq n dir d s⟩

theorem deviceEdges_frame (n : SwitchNo) (dir : Direction) (s : State) :
    ∃ v : Vector Device 8, deviceEdges n dir s = { s with devices := v } := by
  unfold deviceEdges
  exact foldl_devices_frame _ (fun s d => deviceEdge_frame n dir d s) _ s

theorem deviceEdge_pass (n : SwitchNo) (dir : Direction) : OwnPass (deviceEdge n dir) where
  other d e s h := by rw [deviceEdge_get, if_neg h]
  own d s t h _ := by rw [deviceEdge_get, deviceEdge_get, if_pos rfl, if_pos rfl, h]
  switches d s := by
    obtain ⟨v, h⟩ := deviceEdge_frame n dir d s
    rw [h]

theorem deviceEdges_get (n : SwitchNo) (dir : Direction) (s : State) (d : DevNo) :
    (deviceEdges n dir s).devices[d] = (s.devices[d]'d.isLt).edged n dir := by
  unfold deviceEdges
  rw [(deviceEdge_pass n dir).foldl_get, deviceEdge_get, if_pos rfl]

/-! ### Modes that an ending marks (R152, R153) -/

theorem contextOf_eq_none_iff {stack : List Context} {id : Nat} :
    contextOf stack id = none ↔ ∀ x ∈ stack, x.id ≠ id := by
  refine ⟨fun h x hx hid => ?_, contextOf_none⟩
  obtain ⟨y, hy, rfl⟩ := List.mem_map.mp (derived_map_fst stack ▸ hx)
  exact List.find?_eq_none.mp h y hy (beq_iff_eq.mpr hid)

/-- The stack after an ending: no context of that id, and no context that was not there. -/
theorem mem_endContext {p : PlayerNo} {id : Nat} {r : EndReason} {s : State} {c : Context}
    (h : c ∈ (endContext p id r s).pages[p].stack) : c.id ≠ id ∧ ∃ y ∈ (s.pages[p]'p.isLt).stack, y.plain = c.plain := by
  cases hc : contextOf (s.pages[p]'p.isLt).stack id with
  | none =>
    have hsame : endContext p id r s = s := by simp only [endContext, hc]
    rw [hsame] at h
    exact ⟨contextOf_eq_none_iff.mp hc c h, c, h, rfl⟩
  | some x =>
    rw [endContext_of_contextOf r hc, State.raise_pages, holdTimers_get, State.modPage_get, if_pos rfl] at h
    obtain ⟨y, hy, hyc⟩ := List.mem_map.mp (holdStack_plain _ _ ▸ List.mem_map_of_mem (f := Context.plain) h)
    obtain ⟨hmem, hid⟩ := List.mem_filter.mp hy
    have hids : y.plain.id = c.plain.id := congrArg Context.id hyc
    exact ⟨fun he => bne_iff_ne.mp hid (Eq.trans hids he), y, hmem, hyc⟩

theorem mem_endContexts {p : PlayerNo} {r : EndReason} {ids : List Nat} {s : State} {c : Context}
    (h : c ∈ (ids.foldl (fun s id => endContext p id r s) s).pages[p].stack) :
    c.id ∉ ids ∧ ∃ y ∈ (s.pages[p]'p.isLt).stack, y.plain = c.plain := by
  induction ids generalizing s with
  | nil => exact ⟨List.not_mem_nil, c, h, rfl⟩
  | cons id ids ih =>
    obtain ⟨hids, y, hy, hyc⟩ := ih h
    obtain ⟨hid, z, hz, hzy⟩ := mem_endContext hy
    have hyid : y.plain.id = c.plain.id := congrArg Context.id hyc
    refine ⟨fun hmem => ?_, z, hz, hzy.trans hyc⟩
    exact (List.mem_cons.mp hmem).elim (fun he => hid (Eq.trans hyid he)) hids

theorem tpl_of_plain (f : Template → Bool) {c d : Context} (h : c.plain = d.plain) : f c.tpl = f d.tpl := by
  have htpl : c.plain.tpl = d.plain.tpl := congrArg Context.tpl h
  exact congrArg f htpl

/-- A test that does not look at the marks names no context of the stack it has ended. -/
theorem endMarked_stack {test : Context → Bool} (htest : ∀ c d : Context, c.plain = d.plain → test c = test d)
    (r : EndReason) (s : State) : ∀ c ∈ (endMarked test r s).page.stack, test c = false := by
  intro c hc
  have hcurrent : (endMarked test r s).session = s.session := (endMarked_closing test r s).session
  rw [State.page_of_session hcurrent] at hc
  obtain ⟨hids, y, hy, hyc⟩ := mem_endContexts hc
  by_contra htrue
  have hty : test y = true := (htest y c hyc).trans (Bool.eq_true_of_not_eq_false htrue)
  have hid : y.plain.id = c.plain.id := congrArg Context.id hyc
  exact hids (List.mem_map.mpr ⟨y, List.mem_filter.mpr ⟨List.mem_reverse.mpr hy, hty⟩, hid⟩)

theorem holdTimers_stack {s : State} {test : Context → Bool} (htest : ∀ c d : Context, c.plain = d.plain → test c = test d)
    (h : ∀ c ∈ s.page.stack, test c = false) : ∀ c ∈ (holdTimers s).page.stack, test c = false := by
  intro c hc
  rw [State.page_of_session (holdTimers_session s), holdTimers_get] at hc
  obtain ⟨y, hy, hyc⟩ := List.mem_map.mp (holdStack_plain _ _ ▸ List.mem_map_of_mem (f := Context.plain) hc)
  exact (htest c y hyc.symm).trans (h y hy)

theorem endContext_saveState (p : PlayerNo) (id : Nat) (r : EndReason) (s : State) :
    (endContext p id r s).acct.saveState = s.acct.saveState := by
  cases hc : contextOf (s.pages[p]'p.isLt).stack id with
  | none => simp only [endContext, hc]
  | some x => rw [endContext_of_contextOf r hc]; rfl

theorem endContexts_saveState (p : PlayerNo) (r : EndReason) (ids : List Nat) (s : State) :
    (ids.foldl (fun s id => endContext p id r s) s).acct.saveState = s.acct.saveState := by
  induction ids generalizing s with
  | nil => rfl
  | cons id ids ih => exact (ih _).trans (endContext_saveState p id r s)

theorem endMarked_saveState (test : Context → Bool) (r : EndReason) (s : State) :
    (endMarked test r s).acct.saveState = s.acct.saveState := endContexts_saveState _ r _ s

/-! ### Tilt events (R167, R168) -/

/-- The state of a counted warning before the tilt. -/
def State.warned (s : State) (t : TiltStatus) : State :=
  { s with session := { s.session with
              warnings := s.session.warnings + 1, tilt := t,
              swing := if s.options.swingWindow = 0 then s.session.swing
                else ⟨s.options.swingWindow, true, false⟩ } }.raise .tiltWarning

theorem tiltEvent_counts {s : State} (ho : s.session.state = .opened) (ht : s.session.tilt ≠ .tilted)
    (hs : s.session.swing.running = false) : tiltEvent s = countWarning s := by
  rw [tiltEvent, if_pos]
  rw [State.isOpen_of_opened ho, hs]
  simp [State.isTilted, ht]

theorem countWarning_warns {s : State} (h : s.session.warnings + 1 < s.options.limit) :
    countWarning s = s.warned .warned := by
  simp only [countWarning, decide_eq_false (Nat.not_le_of_gt h), Bool.false_eq_true, if_false]
  rfl

theorem countWarning_tilts {s : State} (h : s.options.limit ≤ s.session.warnings + 1) :
    countWarning s = tilt (s.warned .tilted) := by
  simp only [countWarning, decide_eq_true h, if_true]
  rfl

/-- What the tilt does (R168). -/
structure Tilted (s t : State) : Prop where
  closing : Closing (saveOff (s.raise .tilted)) t
  saveState : t.acct.saveState = .off
  stack : ∀ c ∈ t.page.stack, c.tpl.endOnTilt = false

theorem tilt_tilted (s : State) : Tilted s (tilt s) where
  closing := (endMarked_closing _ _ _).trans (holdTimers_closing _)
  saveState := endMarked_saveState _ _ (saveOff (s.raise .tilted))
  stack := holdTimers_stack (fun _ _ => tpl_of_plain fun t => t.endOnTilt)
    (endMarked_stack (fun _ _ => tpl_of_plain fun t => t.endOnTilt) _ _)

/-- An edge that passes in a tilted game reaches no award. -/
theorem passEdge_tilted (n : SwitchNo) (dir : Direction) {s : State} (h : s.session.tilt = .tilted) : passEdge n dir s =
    State.raise { s with activity := s.activity ||| (1#128 <<< n.val) } .switchActivity := by
  rw [passEdge, switchEvent]
  split
  · rfl
  · exact dispatch_shut (.inr h)

theorem deliverEarly_tilt {n : SwitchNo} {s : State} (h : (s.switches[n]'n.isLt).cls = .tilt) :
    deliverEarly (n, .closing) s = tiltEvent (deviceEdges n .closing s) := by
  simp only [deliverEarly, h, reduceCtorEq, false_and, and_self, if_false, if_true]

/-- The closing edge that tilts the game. -/
theorem deliverEdge_tilts {n : SwitchNo} {s : State} (h : (s.switches[n]'n.isLt).cls = .tilt) (ho : s.session.state = .opened)
    (ht : s.session.tilt ≠ .tilted) (hs : s.session.swing.running = false)
    (hl : s.options.limit ≤ s.session.warnings + 1) : ∃ (v : Vector Device 8) (u : State),
      u = tilt (State.warned { s with devices := v } .tilted) ∧ (deliverEdge (n, .closing) s = u ∨
        deliverEdge (n, .closing) s = State.raise { u with activity := u.activity ||| (1#128 <<< n.val) } .switchActivity) := by
  obtain ⟨v, hv⟩ := deviceEdges_frame n .closing s
  have hearly : deliverEarly (n, .closing) s = tilt (State.warned { s with devices := v } .tilted) := by
    rw [deliverEarly_tilt h, hv]
    exact (tiltEvent_counts (s := { s with devices := v }) ho ht hs).trans (countWarning_tilts (s := { s with devices := v }) hl)
  have htilted : (tilt (State.warned { s with devices := v } .tilted)).session.tilt = .tilted :=
    congrArg (·.tilt) (tilt_tilted _).closing.session
  refine ⟨v, _, rfl, ?_⟩
  rw [deliverEdge_eq, if_neg (by rw [h]; decide), hearly]
  split
  · exact .inr (passEdge_tilted n .closing htilted)
  · exact .inl rfl

/-- Settles O6. -/
theorem tiltEventsWarnAndTilt : Obligations.TiltEventsWarnAndTilt := by
  unfold Obligations.TiltEventsWarnAndTilt
  refine ⟨⟨fun s h => if_neg ?_, fun s ho ht hs hl => ?_⟩, fun s n hc ho ht hs hl => ?_, fun s hr hd => ?_⟩
  · obtain h | h | h := h
    · simp [State.isOpen_of_closed h]
    · simp [State.isTilted, h]
    · simp [h]
  · rw [tiltEvent_counts ho ht hs, countWarning_warns hl]
    rfl
  · intro t
    obtain ⟨v, u, hu, ht⟩ := deliverEdge_tilts hc ho ht hs hl
    obtain ⟨hclosing, hsave, hstack⟩ := tilt_tilted (State.warned { s with devices := v } .tilted)
    rw [← hu] at hclosing hsave hstack
    have hw : u.isPending .tiltWarning = true := by
      rw [hclosing.pending _ rfl]
      change ((State.warned { s with devices := v } .tilted).raise .tilted).isPending _ = true
      rw [isPending_raise, State.warned, isPending_raise]
      simp
    have ht' : u.isPending .tilted = true := by
      rw [hclosing.pending _ rfl]
      change ((State.warned { s with devices := v } .tilted).raise .tilted).isPending _ = true
      rw [isPending_raise]
      simp
    have hsession : u.session = (State.warned { s with devices := v } .tilted).session := hclosing.session
    change t = _ ∨ t = _ at ht
    obtain ht | ht := ht
    · rw [ht]
      exact ⟨congrArg (·.tilt) hsession, congrArg (·.warnings) hsession, hw, ht', hsave, congrArg (·.swing) hsession,
        hclosing.awardHits, hclosing.pfMult, hclosing.score, hstack⟩
    · rw [ht]
      refine ⟨congrArg (·.tilt) hsession, congrArg (·.warnings) hsession, ?_, ?_, hsave, congrArg (·.swing) hsession,
        hclosing.awardHits, hclosing.pfMult, hclosing.score, hstack⟩
      · rw [isPending_raise]
        exact Bool.or_eq_true _ _ ▸ .inl hw
      · rw [isPending_raise]
        exact Bool.or_eq_true _ _ ▸ .inl ht'
  · exact congrArg Host.Outcome.next (if_pos ⟨hr, hd⟩)

end Sys2Proof.Machine

/-! How a device takes, starts and ends its orders, as equations (R25 to R35); device edges and the expiries of the
confirm and hold timers; and EJECT. -/

namespace Sys2Proof.Machine

/-! ### Two writes of one record -/

theorem State.modLive_modLive (s : State) (d : DevNo) (f g : DeviceLive → DeviceLive) :
    (s.modLive d f).modLive d g = s.modLive d (g ∘ f) := by
  simp [State.modLive, State.modDevice]

theorem State.modSlot_modSlot (s : State) (n : SlotNo) (f g : Slot → Slot) :
    (s.modSlot n f).modSlot n g = s.modSlot n (g ∘ f) := by
  simp [State.modSlot]

theorem State.modLive_congr {s : State} {d : DevNo} {f g : DeviceLive → DeviceLive}
    (h : f (s.devices[d]'d.isLt).live = g (s.devices[d]'d.isLt).live) : s.modLive d f = s.modLive d g := by
  simp only [State.modLive, State.modDevice, h]

theorem State.modCoilLive_congr {s : State} {c : CoilNo} {f g : CoilLive → CoilLive}
    (h : f (s.coils[c]'c.isLt).live = g (s.coils[c]'c.isLt).live) : s.modCoilLive c f = s.modCoilLive c g := by
  simp only [State.modCoilLive, State.modCoil, h]

/-! ### Starting a ball (R28, R48) -/

/-- The coil record that an EJECT request of device `d` leaves. -/
def CoilLive.asked (l : CoilLive) (d : DevNo) (s : State) : CoilLive :=
  if l.state = .idle then waitingFor d s l else { l with held := some d }

theorem requestEject_eq (c : CoilNo) (d : DevNo) (s : State) :
    requestEject c d s = s.modCoilLive c fun l => l.asked d s := by
  unfold requestEject
  split
  · next h => exact State.modCoilLive_congr (if_pos h).symm
  · next h => exact State.modCoilLive_congr (if_neg h).symm

/-- A device's live part when it starts a ball. -/
def DeviceLive.started (l : DeviceLive) (attempt intended : Nat) : DeviceLive :=
  { l with state := .ejecting, attemptCount := attempt, attemptExits := 0, attemptConfirmed := false, intended := intended }

theorem startBall_eq (d : DevNo) (attempt : Nat) (s : State) : startBall d attempt s =
    (s.modLive d fun l => l.started attempt (if s.profile d = .holdRelease then s.needs d else 1)).modCoilLive
      (s.devices[d]'d.isLt).cfg.coil fun l => l.asked d s := by
  have hcoil (f : DeviceLive → DeviceLive) : (s.modLive d f).devices[d].cfg.coil = (s.devices[d]'d.isLt).cfg.coil := by
    rw [State.modLive_cfg]
  simp only [startBall]
  rw [hcoil, requestEject_eq]
  rfl

/-- The balls that order `o` of device `d` needs. -/
def State.needsOf (s : State) (d : DevNo) : Order → Nat
  | .none => 0
  | .slot n => (s.slots[n]'n.isLt).requested - (s.slots[n]'n.isLt).ejected
  | .owed => (s.devices[d]'d.isLt).live.owed

theorem beginOrder_needs (d : DevNo) (o : Order) (s : State) : (beginOrder d o s).needs d = s.needsOf d o := by
  unfold State.needs beginOrder
  rw [State.modLive_get, if_pos rfl]
  cases o <;> rfl

theorem State.profile_modLive (s : State) (d : DevNo) (f : DeviceLive → DeviceLive) :
    (s.modLive d f).profile d = s.profile d := by
  simp only [State.profile, State.modLive_cfg]
  rfl

/-- An order taken with a ball to serve. -/
theorem startBall_beginOrder (d : DevNo) (o : Order) (s : State) : startBall d 1 (beginOrder d o s) =
    (s.modLive d fun l => { l with
      state := .ejecting, order := o, exitsInOrder := 0, stopPending := false, attemptCount := 1, attemptExits := 0,
      attemptConfirmed := false, intended := if s.profile d = .holdRelease then s.needsOf d o else 1 }).modCoilLive
        (s.devices[d]'d.isLt).cfg.coil fun l => l.asked d s := by
  have hcoil : (beginOrder d o s).devices[d].cfg.coil = (s.devices[d]'d.isLt).cfg.coil := by rw [beginOrder, State.modLive_cfg]
  have hprofile : (beginOrder d o s).profile d = s.profile d := State.profile_modLive s d _
  rw [startBall_eq, beginOrder_needs, hprofile, hcoil, beginOrder, State.modLive_modLive]
  rfl

/-! ### Looking for an order (R27) -/

theorem State.queuedCount_eq_zero {s : State} {d : DevNo} :
    s.queuedCount d = 0 ↔ ∀ n : SlotNo, ¬ ((s.slots[n]'n.isLt).state = .queued ∧ (s.slots[n]'n.isLt).device = d) := by
  rw [State.queuedCount, List.countP_eq_zero]
  simp

theorem State.queuedCount_of_slots {s t : State} (d : DevNo) (h : t.slots = s.slots) : t.queuedCount d = s.queuedCount d := by
  simp only [State.queuedCount, h]

theorem State.oldestQueued_none {s : State} {d : DevNo} (h : s.queuedCount d = 0) : s.oldestQueued d = none := by
  refine List.find?_eq_none.mpr fun n _ hn => State.queuedCount_eq_zero.mp h n ?_
  simp only [Bool.and_eq_true, beq_iff_eq] at hn
  exact hn.1

theorem takeOrderFuel_rests {fuel : Nat} {d : DevNo} {s : State} (h : (s.devices[d]'d.isLt).live.owed = 0 ∨ (s.devices[d]'d.isLt).live.occupancy = 0)
    (hq : s.queuedCount d = 0) : takeOrderFuel fuel d s = s := by
  cases fuel with
  | zero => rfl
  | succ fuel =>
    have hno : ¬ (1 ≤ (s.devices[d]'d.isLt).live.owed ∧ 1 ≤ (s.devices[d]'d.isLt).live.occupancy) := by omega
    simp only [takeOrderFuel, if_neg hno, State.oldestQueued_none hq, ite_self]

/-- A device with nothing owed, or no ball, and nothing queued takes no order. -/
theorem takeOrder_rests {d : DevNo} {s : State} (h : (s.devices[d]'d.isLt).live.owed = 0 ∨ (s.devices[d]'d.isLt).live.occupancy = 0)
    (hq : s.queuedCount d = 0) : takeOrder d s = s := takeOrderFuel_rests h hq

theorem takeOrder_busy {d : DevNo} {s : State} (h : (s.devices[d]'d.isLt).live.state ≠ .idle) : takeOrder d s = s := if_pos h

theorem takeOrder_owed {d : DevNo} {s : State} (h : (s.devices[d]'d.isLt).live.state = .idle) (ho : 1 ≤ (s.devices[d]'d.isLt).live.owed)
    (hb : 1 ≤ (s.devices[d]'d.isLt).live.occupancy) : takeOrder d s = startBall d 1 (beginOrder d .owed s) :=
  (if_neg fun hn => hn h).trans (if_pos ⟨ho, hb⟩)

/-! ### Ending an order (R33, R35, R38) -/

/-- A device's live part when its order has ended. -/
def DeviceLive.ended (l : DeviceLive) : DeviceLive :=
  { l with order := .none, attemptCount := 0, attemptExits := 0, attemptConfirmed := false, exitsInOrder := 0,
           confirm := l.confirm.halt, state := .idle }

theorem finishSlot_active {n : SlotNo} {r : SlotResult} {s : State} (h : (s.slots[n]'n.isLt).state ≠ .queued) :
    finishSlot n r s = (s.modSlot n fun x => { x with state := .idle, result := r }).raise .ejectFinished := by
  simp only [finishSlot, if_neg h]

theorem finishSlot_queuedCount {n : SlotNo} {r : SlotResult} {s : State} {d : DevNo} (h : (s.slots[n]'n.isLt).state ≠ .queued)
    (hq : s.queuedCount d = 0) : (finishSlot n r s).queuedCount d = 0 := by
  rw [finishSlot_active h]
  refine State.queuedCount_eq_zero.mpr fun m hm => ?_
  rw [State.raise_slots, State.modSlot_get] at hm
  split at hm
  · exact SlotState.noConfusion hm.1
  · exact State.queuedCount_eq_zero.mp hq m hm

/-- A slot order that ends with nothing else to do. -/
theorem endOrder_slot {d : DevNo} {r : Slot → SlotResult} {n : SlotNo} {s : State}
    (ho : (s.devices[d]'d.isLt).live.order = .slot n) (ha : (s.slots[n]'n.isLt).state ≠ .queued)
    (hw : (s.devices[d]'d.isLt).live.owed = 0 ∨ (s.devices[d]'d.isLt).live.occupancy = 0)
    (hq : s.queuedCount d = 0) : endOrder d r s =
      ((s.modSlot n fun x => { x with state := .idle, result := r x }).modLive d DeviceLive.ended).raise
        .ejectFinished := by
  have d_lt := d.isLt
  have n_lt := n.isLt
  have hcount : ((finishSlot n (r (s.slots[n]'n.isLt)) s).modLive d DeviceLive.ended).queuedCount d = 0 :=
    (State.queuedCount_of_slots d (State.modLive_slots _ d _)).trans (finishSlot_queuedCount ha hq)
  have hlive : ((finishSlot n (r (s.slots[n]'n.isLt)) s).modLive d DeviceLive.ended).devices[d].live =
      (s.devices[d]'d.isLt).live.ended := by
    rw [State.modLive_get, if_pos rfl, finishSlot_devices]
  simp only [endOrder, ho]
  refine (takeOrder_rests (d := d) (s := (finishSlot n (r (s.slots[n]'n.isLt)) s).modLive d DeviceLive.ended)
    (by rw [hlive]; exact hw) hcount).trans ?_
  rw [finishSlot_active ha]
  rfl

/-- A failed attempt below the maximum starts the ball again (R34). -/
theorem failedAttempt_again {d : DevNo} {s : State} (hp : (s.devices[d]'d.isLt).live.stopPending = false)
    (h : (s.devices[d]'d.isLt).live.attemptCount < (s.devices[d]'d.isLt).cfg.maxAttempts) :
    failedAttempt d s = startBall d ((s.devices[d]'d.isLt).live.attemptCount + 1) s := by
  simp only [failedAttempt, hp, Bool.false_eq_true, if_false, if_pos h]

/-- A failed attempt at the maximum against OWED jams the device (R35). -/
theorem failedAttempt_jams {d : DevNo} {s : State} (hp : (s.devices[d]'d.isLt).live.stopPending = false)
    (h : (s.devices[d]'d.isLt).cfg.maxAttempts ≤ (s.devices[d]'d.isLt).live.attemptCount) (ho : (s.devices[d]'d.isLt).live.order = .owed) :
    failedAttempt d s = (s.raise .deviceJammed).modLive d fun l =>
      { l with state := .jammed, order := .none, attemptCount := 0, attemptExits := 0, attemptConfirmed := false,
               confirm := l.confirm.halt } := by
  simp only [failedAttempt, hp, Bool.false_eq_true, if_false, if_neg (Nat.not_lt.mpr h), jam, State.raise_devices, ho]

/-! ### The expiry of the confirm timer (R33) -/

/-- A device whose confirm timer has run out. -/
def State.confirmOver (s : State) (d : DevNo) : State := s.modLive d fun l => { l with confirm := .stopped }

theorem confirmOver_get (s : State) (d : DevNo) : (s.confirmOver d).devices[d] =
    { (s.devices[d]'d.isLt) with live := { (s.devices[d]'d.isLt).live with confirm := .stopped } } := by
  rw [State.confirmOver, State.modLive_get, if_pos rfl]

section
variable {s : State} {d : DevNo} (hrun : (s.devices[d]'d.isLt).live.confirm.running = true)
  (hdue : (s.devices[d]'d.isLt).live.confirm.due = true)
include hrun hdue

theorem confirmExpiry_ejecting (h : (s.devices[d]'d.isLt).live.state ≠ .confirming) :
    takeConfirmTimerExpiry d s = s.confirmOver d :=
  (if_pos ⟨hrun, hdue⟩).trans (if_neg h)

theorem confirmExpiry_confirmed (h : (s.devices[d]'d.isLt).live.state = .confirming)
    (hp : (s.devices[d]'d.isLt).live.stopPending = false) (hc : (s.devices[d]'d.isLt).live.attemptConfirmed = true) :
    takeConfirmTimerExpiry d s = endOrder d resultAtConfirm (s.confirmOver d) :=
  (if_pos ⟨hrun, hdue⟩).trans ((if_pos h).trans ((if_pos hc).trans (if_neg (by rw [hp]; decide))))

theorem confirmExpiry_failed (h : (s.devices[d]'d.isLt).live.state = .confirming)
    (hc : (s.devices[d]'d.isLt).live.attemptConfirmed = false) :
    takeConfirmTimerExpiry d s = failedAttempt d (s.confirmOver d) :=
  (if_pos ⟨hrun, hdue⟩).trans ((if_pos h).trans (if_neg (by rw [hc]; decide)))

end

/-- The confirmed slot order ends (R33). -/
theorem endOrder_confirmOver {s : State} {d : DevNo} {n : SlotNo} (ho : (s.devices[d]'d.isLt).live.order = .slot n)
    (ha : (s.slots[n]'n.isLt).state = .active) (hw : (s.devices[d]'d.isLt).live.owed = 0) (hq : s.queuedCount d = 0) :
    endOrder d resultAtConfirm (s.confirmOver d) = State.raise
      { s with slots := s.slots.set n
                  { (s.slots[n]'n.isLt) with
                    state := .idle, result := if (s.slots[n]'n.isLt).ejected = (s.slots[n]'n.isLt).requested then .done else .short },
               devices := s.devices.set d
                  { (s.devices[d]'d.isLt) with
                    live := { (s.devices[d]'d.isLt).live with
                                state := .idle, order := .none, attemptCount := 0, attemptExits := 0,
                                attemptConfirmed := false, exitsInOrder := 0,
                                confirm := ⟨0, false, false⟩ } } } .ejectFinished := by
  have hget := confirmOver_get s d
  have hslots : (s.confirmOver d).slots = s.slots := rfl
  rw [endOrder_slot (n := n) (by rw [hget]; exact ho) (by rw [hslots, ha]; decide) (by rw [hget]; exact .inl hw)
    ((State.queuedCount_of_slots d hslots).trans hq)]
  exact congrArg (State.raise · .ejectFinished) (State.modLive_modLive (s.modSlot n fun x =>
    { x with state := .idle, result := resultAtConfirm x }) d (fun l => { l with confirm := .stopped }) DeviceLive.ended)

/-- The ball is started again, its coil free. -/
theorem startBall_confirmOver {s : State} {d : DevNo} (hidle : s.coils[(s.devices[d]'d.isLt).cfg.coil].live.state = .idle) :
    startBall d ((s.devices[d]'d.isLt).live.attemptCount + 1) (s.confirmOver d) =
      { s with devices := s.devices.set d
                  { (s.devices[d]'d.isLt) with
                    live := { (s.devices[d]'d.isLt).live with
                                state := .ejecting, attemptCount := (s.devices[d]'d.isLt).live.attemptCount + 1,
                                attemptExits := 0, attemptConfirmed := false, confirm := ⟨0, false, false⟩,
                                intended := if s.profile d = .holdRelease then s.needs d else 1 } },
               coils := s.coils.set (s.devices[d]'d.isLt).cfg.coil
                  { s.coils[(s.devices[d]'d.isLt).cfg.coil] with
                    live := waitingFor d s s.coils[(s.devices[d]'d.isLt).cfg.coil].live } } := by
  have d_lt := d.isLt
  have hget := confirmOver_get s d
  have hneeds : (s.confirmOver d).needs d = s.needs d := by
    unfold State.needs
    rw [hget]
    rfl
  have hprofile : (s.confirmOver d).profile d = s.profile d := State.profile_modLive s d _
  rw [startBall_eq, hneeds, hprofile, hget, State.confirmOver, State.modLive_modLive]
  have hcoil : (s.coils[(s.devices[d]'d.isLt).cfg.coil].live).asked d (s.confirmOver d) =
      waitingFor d s s.coils[(s.devices[d]'d.isLt).cfg.coil].live := if_pos hidle
  rw [State.modCoilLive, State.modCoil]
  rw [State.confirmOver] at hcoil
  change _ = { s with devices := _, coils := s.coils.set (s.devices[d]'d.isLt).cfg.coil _ }
  rw [← hcoil]
  rfl

/-! ### The expiry of the saucer hold (R25, R37) -/

/-- A saucer whose hold is over owes an eject. -/
def State.holdOver (s : State) (d : DevNo) : State :=
  s.modLive d fun l => { l with hold := .stopped, owed := min 8 (l.owed + 1) }

theorem saucerHoldExpiry_eq {s : State} {d : DevNo} (hrun : (s.devices[d]'d.isLt).live.hold.running = true)
    (hdue : (s.devices[d]'d.isLt).live.hold.due = true) (hon : (s.devices[d]'d.isLt).live.state ≠ .disabled) :
    takeSaucerHoldExpiry d s = takeOrder d (s.holdOver d) := by
  refine (if_pos ⟨hrun, hdue⟩).trans ?_
  rw [addOwed, addOwedCount_eq, State.modLive_modLive]
  · rfl
  · rw [State.modLive_get, if_pos rfl]
    exact hon

theorem holdOver_get (s : State) (d : DevNo) : (s.holdOver d).devices[d] = { (s.devices[d]'d.isLt) with
    live := { (s.devices[d]'d.isLt).live with hold := .stopped, owed := min 8 ((s.devices[d]'d.isLt).live.owed + 1) } } := by
  rw [State.holdOver, State.modLive_get, if_pos rfl]

theorem takeOrder_holdOver {s : State} {d : DevNo} (hi : (s.devices[d]'d.isLt).live.state = .idle)
    (hb : 1 ≤ (s.devices[d]'d.isLt).live.occupancy) (hidle : s.coils[(s.devices[d]'d.isLt).cfg.coil].live.state = .idle) :
    takeOrder d (s.holdOver d) =
      { s with devices := s.devices.set d
                  { (s.devices[d]'d.isLt) with
                    live := { (s.devices[d]'d.isLt).live with
                                hold := ⟨0, false, false⟩, owed := min 8 ((s.devices[d]'d.isLt).live.owed + 1),
                                state := .ejecting, order := .owed, exitsInOrder := 0, stopPending := false,
                                attemptCount := 1, attemptExits := 0, attemptConfirmed := false,
                                intended := if s.profile d = .holdRelease
                                  then min 8 ((s.devices[d]'d.isLt).live.owed + 1) else 1 } },
               coils := s.coils.set (s.devices[d]'d.isLt).cfg.coil
                  { s.coils[(s.devices[d]'d.isLt).cfg.coil] with
                    live := waitingFor d s s.coils[(s.devices[d]'d.isLt).cfg.coil].live } } := by
  have d_lt := d.isLt
  have hget := holdOver_get s d
  have hprofile : (s.holdOver d).profile d = s.profile d := State.profile_modLive s d _
  have hneeds : (s.holdOver d).needsOf d .owed = min 8 ((s.devices[d]'d.isLt).live.owed + 1) := by
    rw [State.needsOf, hget]
  rw [takeOrder_owed (by rw [hget]; exact hi) (by rw [hget]; change 1 ≤ min 8 _; omega) (by rw [hget]; exact hb),
    startBall_beginOrder, hneeds, hprofile, hget, State.holdOver, State.modLive_modLive]
  have hcoil : (s.coils[(s.devices[d]'d.isLt).cfg.coil].live).asked d (s.holdOver d) =
      waitingFor d s s.coils[(s.devices[d]'d.isLt).cfg.coil].live := if_pos hidle
  rw [State.holdOver] at hcoil
  rw [State.modCoilLive, State.modCoil]
  change _ = { s with devices := _, coils := s.coils.set (s.devices[d]'d.isLt).cfg.coil _ }
  rw [← hcoil]
  rfl

/-- An edge of a DEVICE switch whose edge selection passes nothing is the devices' alone. -/
theorem deliverEdge_device {n : SwitchNo} {dir : Direction} {s : State} (hc : (s.switches[n]'n.isLt).cls = .device)
    (hs : (s.switches[n]'n.isLt).selection = .none) : deliverEdge (n, dir) s = deviceEdges n dir s := by
  simp only [deliverEdge, hc, hs, EdgeSelection.passes, reduceCtorEq, false_and, if_false, Bool.false_eq_true]

/-- Settles O16. -/
theorem deviceEdgesAndTimers : Obligations.DeviceEdgesAndTimers := by
  unfold Obligations.DeviceEdgesAndTimers
  refine ⟨fun s n dir => ⟨fun hc => if_pos hc, fun hc hs => ?_⟩, fun s d hrun hdue => ⟨fun hst => ?_, fun hst hp =>
    ⟨fun n hconf ho ha hw hq => ?_, fun hconf hless hidle => ?_, fun hconf hmax ho => ?_⟩⟩,
    fun s d hrun hdue hon => ⟨fun hst => ?_, fun hst hb hidle => ?_⟩⟩
  · obtain ⟨v, hv⟩ := deviceEdges_frame n dir s
    refine ⟨_, deliverEdge_device hc hs, by rw [hv], fun d => deviceEdges_get n dir s d⟩
  · exact congrArg Host.Outcome.next (confirmExpiry_ejecting hrun hdue (by rw [hst]; decide))
  · refine congrArg Host.Outcome.next ((confirmExpiry_confirmed hrun hdue hst hp hconf).trans ?_)
    exact endOrder_confirmOver ho ha hw hq
  · refine congrArg Host.Outcome.next ((confirmExpiry_failed hrun hdue hst hconf).trans ?_)
    have hget := confirmOver_get s d
    rw [failedAttempt_again (by rw [hget]; exact hp) (by rw [hget]; exact hless), hget]
    exact startBall_confirmOver hidle
  · refine congrArg Host.Outcome.next ((confirmExpiry_failed hrun hdue hst hconf).trans ?_)
    have hget := confirmOver_get s d
    rw [failedAttempt_jams (by rw [hget]; exact hp) (by rw [hget]; exact hmax) (by rw [hget]; exact ho)]
    simp [State.confirmOver, State.modLive, State.modDevice, State.raise, Timer.halt, Timer.stopped]
  · refine congrArg Host.Outcome.next ((saucerHoldExpiry_eq hrun hdue hon).trans ?_)
    exact takeOrder_busy (by rw [holdOver_get]; exact hst)
  · exact congrArg Host.Outcome.next ((saucerHoldExpiry_eq hrun hdue hon).trans (takeOrder_holdOver hst hb hidle))

end Sys2Proof.Machine

/-! EJECT (R26): the refusals, and what becomes of the slot it issues. -/

namespace Sys2Proof.Machine

/-! ### A slot alone in its queue (R26, R27) -/

theorem leaveQueue_alone {n : SlotNo} {s : State}
    (h : ∀ m : SlotNo, m ≠ n → ¬ ((s.slots[m]'m.isLt).state = .queued ∧ (s.slots[m]'m.isLt).device = (s.slots[n]'n.isLt).device)) :
    leaveQueue n s = s := by
  have hslots : (leaveQueue n s).slots = s.slots := by
    refine Vector.ext fun i hi => ?_
    have hget := leaveQueue_get n ⟨i, hi⟩ s
    rw [if_neg] at hget
    · exact hget
    · rintro ⟨hq, hd, hlt⟩
      by_cases hm : (⟨i, hi⟩ : SlotNo) = n
      · rw [hm] at hlt
        exact Nat.lt_irrefl _ hlt
      · exact h _ hm ⟨hq, hd⟩
  exact congrArg (fun v => { s with slots := v }) hslots

theorem State.oldestQueued_alone {s : State} {d : DevNo} {n : SlotNo} (hn : (s.slots[n]'n.isLt).state = .queued)
    (hd : (s.slots[n]'n.isLt).device = d) (hi : (s.slots[n]'n.isLt).issue = 0)
    (h : ∀ m : SlotNo, m ≠ n → ¬ ((s.slots[m]'m.isLt).state = .queued ∧ (s.slots[m]'m.isLt).device = d)) : s.oldestQueued d = some n := by
  cases ho : s.oldestQueued d with
  | none =>
    refine absurd ?_ (List.find?_eq_none.mp ho n (mem_indices n))
    rw [hn, hd, hi]
    simp
  | some m =>
    obtain ⟨hq, hdev, -⟩ := State.oldestQueued_spec ho
    by_contra hne
    exact h m (fun he => hne (congrArg some he)) ⟨hq, hdev⟩

theorem takeOrder_slot {d : DevNo} {n : SlotNo} {s : State} (hi : (s.devices[d]'d.isLt).live.state = .idle)
    (hw : (s.devices[d]'d.isLt).live.owed = 0) (hq : s.oldestQueued d = some n) (hb : (s.devices[d]'d.isLt).live.occupancy ≠ 0) :
    takeOrder d s =
      startBall d 1 (beginOrder d (.slot n) ((leaveQueue n s).modSlot n fun x => { x with state := .active })) := by
  have d_lt := d.isLt
  have hno : ¬ (1 ≤ (s.devices[d]'d.isLt).live.owed ∧ 1 ≤ (s.devices[d]'d.isLt).live.occupancy) := by omega
  simp only [takeOrder, takeOrderFuel, hi, ne_eq, not_true_eq_false, if_false, if_neg hno, hq, if_neg hb]

theorem takeOrder_short {d : DevNo} {n : SlotNo} {s : State} (hi : (s.devices[d]'d.isLt).live.state = .idle)
    (hq : s.oldestQueued d = some n) (hb : (s.devices[d]'d.isLt).live.occupancy = 0) :
    takeOrder d s = takeOrderFuel 8 d (finishSlot n .short ((beginOrder d .none
      ((leaveQueue n s).modSlot n fun x => { x with state := .active })).modSlot n fun x => { x with ejected := 0 })) := by
  have hno : ¬ (1 ≤ (s.devices[d]'d.isLt).live.owed ∧ 1 ≤ (s.devices[d]'d.isLt).live.occupancy) := by omega
  simp only [takeOrder]
  rw [takeOrderFuel]
  simp only [hi, ne_eq, not_true_eq_false, if_false, if_neg hno, hq, if_pos hb]

/-! ### EJECT (R26) -/

theorem State.idleSlot_eq_none {s : State} : s.idleSlot = none ↔ ∀ n : SlotNo, (s.slots[n]'n.isLt).state ≠ .idle := by
  simp [State.idleSlot, List.find?_eq_none]

theorem State.idleSlot_eq_some {s : State} {n : SlotNo} (hn : (s.slots[n]'n.isLt).state = .idle)
    (h : ∀ m : SlotNo, m < n → (s.slots[m]'m.isLt).state ≠ .idle) : s.idleSlot = some n := by
  rw [State.idleSlot, indices, ← Fin.find?_eq_find?_finRange, Fin.find?_eq_some_iff]
  exact ⟨beq_iff_eq.mpr hn, fun m hm => beq_eq_false_iff_ne.mpr (h m hm)⟩

section
variable {d : DevNo} {n : SlotNo} {count : Byte} {s : State}

theorem eject_disabled (h : (s.devices[d]'d.isLt).live.state = .disabled) :
    eject [byte d.val, count] s = refuse s .refusedState := by
  simp only [eject, indexOf_byte d, h, if_true]

theorem eject_zero (h : (s.devices[d]'d.isLt).live.state ≠ .disabled) : eject [byte d.val, 0] s = refuse s .badValue := by
  simp only [eject, indexOf_byte d, if_neg h, if_true]

theorem eject_full (h : (s.devices[d]'d.isLt).live.state ≠ .disabled) (hc : count ≠ 0) (hi : s.idleSlot = none) :
    eject [byte d.val, count] s = refuse s .refusedFull := by
  simp only [eject, indexOf_byte d, if_neg h, if_neg hc, hi]

theorem eject_issues (h : (s.devices[d]'d.isLt).live.state ≠ .disabled) (hc : count ≠ 0) (hi : s.idleSlot = some n) :
    eject [byte d.val, count] s = ok (takeOrder d (issueSlot n d count.toNat s)) [byte n.val] := by
  simp only [eject, indexOf_byte d, if_neg h, if_neg hc, hi]

theorem issueSlot_get (m : SlotNo) (k : Nat) : (issueSlot n d k s).slots[m] = if m = n then
    { state := .queued, device := d, requested := min 8 k, ejected := 0, result := .none, issue := s.queuedCount d }
    else (s.slots[m]'m.isLt) := State.modSlot_get s n m _

/-- A slot as its device takes it. -/
def Slot.served (d : DevNo) (k : Nat) : Slot :=
  { state := .active, device := d, requested := min 8 k, ejected := 0, result := .none, issue := 0 }

/-- A device's live part when it has taken a slot order that ends at once. -/
def DeviceLive.unordered (l : DeviceLive) : DeviceLive :=
  { l with order := .none, exitsInOrder := 0, stopPending := false }

/-- The slots once the issued slot has been taken, its queue having been empty. -/
theorem issueSlot_taken (k : Nat) (hn : (s.slots[n]'n.isLt).state ≠ .queued) (hq : s.queuedCount d = 0) :
    (issueSlot n d k s).oldestQueued d = some n ∧
      (leaveQueue n (issueSlot n d k s)).modSlot n (fun x => { x with state := .active }) = s.modSlot n fun _ => .served d k := by
  have hself : (issueSlot n d k s).slots[n] =
      { state := .queued, device := d, requested := min 8 k, ejected := 0, result := .none,
        issue := s.queuedCount d } := by rw [issueSlot_get, if_pos rfl]
  have hothers (m : SlotNo) (hm : m ≠ n) : ¬ ((issueSlot n d k s).slots[m].state = .queued ∧
      (issueSlot n d k s).slots[m].device = d) := by
    rw [issueSlot_get, if_neg hm]
    exact State.queuedCount_eq_zero.mp hq m
  refine ⟨State.oldestQueued_alone (by rw [hself]) (by rw [hself]) (by rw [hself]; exact hq) hothers, ?_⟩
  rw [leaveQueue_alone fun m hm => by rw [hself]; exact hothers m hm, issueSlot, State.modSlot_modSlot, hq]
  rfl

/-- An IDLE device with a ball and nothing else to do takes the slot at once. -/
theorem takeOrder_issued (k : Nat) (hn : (s.slots[n]'n.isLt).state ≠ .queued) (hq : s.queuedCount d = 0)
    (hi : (s.devices[d]'d.isLt).live.state = .idle) (hw : (s.devices[d]'d.isLt).live.owed = 0)
    (hb : 1 ≤ (s.devices[d]'d.isLt).live.occupancy) : takeOrder d (issueSlot n d k s) =
      { s with slots := s.slots.set n
                  { state := .active, device := d, requested := min 8 k, ejected := 0, result := .none, issue := 0 },
               devices := s.devices.set d
                  { (s.devices[d]'d.isLt) with
                    live := { (s.devices[d]'d.isLt).live with
                                state := .ejecting, order := .slot n, exitsInOrder := 0, stopPending := false,
                                attemptCount := 1, attemptExits := 0, attemptConfirmed := false,
                                intended := if s.profile d = .holdRelease then min 8 k else 1 } },
               coils := s.coils.set (s.devices[d]'d.isLt).cfg.coil
                  { s.coils[(s.devices[d]'d.isLt).cfg.coil] with
                    live := s.coils[(s.devices[d]'d.isLt).cfg.coil].live.asked d s } } := by
  obtain ⟨holdest, htaken⟩ := issueSlot_taken k hn hq
  have hneeds : (s.modSlot n fun _ => .served d k).needsOf d (.slot n) = min 8 k := by
    rw [State.needsOf, State.modSlot_get, if_pos rfl]
    rfl
  rw [takeOrder_slot (s := issueSlot n d k s) hi hw holdest (by exact Nat.one_le_iff_ne_zero.mp hb), htaken,
    startBall_beginOrder, hneeds]
  rfl

/-- At an IDLE device without a ball the slot ends SHORT at once. -/
theorem takeOrder_issued_short (k : Nat) (hn : (s.slots[n]'n.isLt).state ≠ .queued) (hq : s.queuedCount d = 0)
    (hi : (s.devices[d]'d.isLt).live.state = .idle) (hb : (s.devices[d]'d.isLt).live.occupancy = 0) :
    takeOrder d (issueSlot n d k s) = State.raise
      { s with slots := s.slots.set n
                  { state := .idle, device := d, requested := min 8 k, ejected := 0, result := .short, issue := 0 },
               devices := s.devices.set d
                  { (s.devices[d]'d.isLt) with
                    live := { (s.devices[d]'d.isLt).live with order := .none, exitsInOrder := 0, stopPending := false } } }
        .ejectFinished := by
  obtain ⟨holdest, htaken⟩ := issueSlot_taken k hn hq
  rw [takeOrder_short (s := issueSlot n d k s) hi holdest hb, htaken]
  have hbegun : (beginOrder d .none (s.modSlot n fun _ => .served d k)).modSlot n (fun x => { x with ejected := 0 }) =
      (s.modSlot n fun _ => .served d k).modLive d DeviceLive.unordered :=
    congrArg (State.modLive · d DeviceLive.unordered)
      (State.modSlot_modSlot s n (fun _ => .served d k) fun x => { x with ejected := 0 })
  rw [hbegun]
  generalize hu : State.modLive _ d _ = u
  have hslot : (u.slots[n]'n.isLt) = .served d k := by
    rw [← hu, State.modLive_slots, State.modSlot_get, if_pos rfl]
  have hactive : (u.slots[n]'n.isLt).state ≠ .queued := by
    rw [hslot]
    exact SlotState.noConfusion
  have hempty : u.queuedCount d = 0 := by
    refine State.queuedCount_eq_zero.mpr fun m hm => ?_
    rw [← hu, State.modLive_slots, State.modSlot_get] at hm
    split at hm
    · exact SlotState.noConfusion hm.1
    · exact State.queuedCount_eq_zero.mp hq m hm
  have hocc : (u.devices[d]'d.isLt).live.occupancy = 0 := by
    rw [← hu, State.modLive_get, if_pos rfl]
    exact hb
  rw [takeOrderFuel_rests (.inr (by rw [finishSlot_devices]; exact hocc)) (finishSlot_queuedCount hactive hempty),
    finishSlot_active hactive, ← hu]
  exact congrArg (fun t => State.raise (State.modLive t d DeviceLive.unordered) .ejectFinished)
    (State.modSlot_modSlot s n (fun _ => .served d k) fun x => { x with state := .idle, result := .short })

end

/-- Settles O10. -/
theorem ejectIssuesASlot : Obligations.EjectIssuesASlot := by
  unfold Obligations.EjectIssuesASlot
  refine fun s count h => ⟨fun d hd => ?_, fun d hoff => ?_, fun d hon hc => ?_, fun d hon hc hfull => ?_,
    fun d n hon hc hn hlow => ?_⟩
  · refine request_refused (run := eject) h rfl ?_
    simp only [eject, indexOf_none (n := 8) (Nat.succ_le_of_lt hd)]
  · exact request_refused (run := eject) h rfl (eject_disabled (s := s.begun 2) hoff)
  · subst hc
    exact request_refused (run := eject) h rfl (eject_zero (s := s.begun 2) hon)
  · exact request_refused (run := eject) h rfl
      (eject_full (s := s.begun 2) hon hc (State.idleSlot_eq_none (s := s.begun 2).mpr hfull))
  · intro link
    have hissue := eject_issues (s := s.begun 2) (d := d) (n := n) (count := count) hon hc
      (State.idleSlot_eq_some (s := s.begun 2) hn hlow)
    have hfree : (s.begun 2).slots[n].state ≠ .queued := hn.trans_ne SlotState.noConfusion
    refine ⟨fun hst => ?_, fun hst hw hq hb => ?_, fun hst hq hb => ?_⟩
    · rw [takeOrder_busy (s := issueSlot n d count.toNat (s.begun 2)) hst] at hissue
      exact request_done (run := eject) h rfl hissue rfl
    · rw [takeOrder_issued (s := s.begun 2) count.toNat hfree hq hst hw hb] at hissue
      exact request_done (run := eject) h rfl hissue rfl
    · rw [takeOrder_issued_short (s := s.begun 2) count.toNat hfree hq hst hb] at hissue
      exact request_done (run := eject) h rfl hissue rfl

end Sys2Proof.Machine

/-! CANCEL_EJECTS (R38): the queued slots of the device, its owed ejects, and its order by the stage of the current
ball. -/

namespace Sys2Proof.Machine

/-! ### Finished slots (R26) -/

theorem finishSlot_queued {n : SlotNo} {r : SlotResult} {s : State} (h : (s.slots[n]'n.isLt).state = .queued) :
    finishSlot n r s =
      ((leaveQueue n s).modSlot n fun x => { x with state := .idle, result := r }).raise .ejectFinished := by
  simp only [finishSlot, if_pos h]

theorem finishSlot_get (n m : SlotNo) (r : SlotResult) (s : State) : (finishSlot n r s).slots[m] =
    if m = n then { (s.slots[n]'n.isLt) with state := .idle, result := r }
    else if (s.slots[n]'n.isLt).state = .queued ∧ (s.slots[m]'m.isLt).state = .queued ∧ (s.slots[m]'m.isLt).device = (s.slots[n]'n.isLt).device ∧
        (s.slots[n]'n.isLt).issue < (s.slots[m]'m.isLt).issue then { (s.slots[m]'m.isLt) with issue := (s.slots[m]'m.isLt).issue - 1 }
    else (s.slots[m]'m.isLt) := by
  by_cases hq : (s.slots[n]'n.isLt).state = .queued
  · have hself := leaveQueue_self n s
    rw [finishSlot_queued hq, State.raise_slots, State.modSlot_get, hself, leaveQueue_get]
    simp only [hq, true_and]
  · rw [finishSlot_active hq, State.raise_slots, State.modSlot_get]
    simp only [hq, false_and, if_false]

/-- A slot that stands as before, but for its place in its queue. -/
def Slot.stays (x y : Slot) : Prop := y = { x with issue := y.issue }

theorem Slot.stays.trans {x y z : Slot} (h : x.stays y) (g : y.stays z) : x.stays z := by
  unfold Slot.stays at *
  rw [g, h]

theorem finishSlot_stays {n m : SlotNo} (r : SlotResult) (s : State) (h : m ≠ n) :
    (s.slots[m]'m.isLt).stays (finishSlot n r s).slots[m] := by
  rw [finishSlot_get, if_neg h]
  split <;> rfl

theorem finishSlot_pending (n : SlotNo) (r : SlotResult) (s : State) :
    (finishSlot n r s).isPending .ejectFinished = true := by
  simp only [finishSlot]
  rw [isPending_raise]
  simp

/-- No slot is QUEUED for a device after a slot has ended when none was. -/
theorem finishSlot_unqueued (n : SlotNo) (r : SlotResult) {s : State} {d : DevNo} (hq : s.queuedCount d = 0) :
    (finishSlot n r s).queuedCount d = 0 := by
  refine State.queuedCount_eq_zero.mpr fun m hm => ?_
  by_cases h : m = n
  · rw [finishSlot_get, if_pos h] at hm
    exact SlotState.noConfusion hm.1
  · have hs := finishSlot_stays r s h
    rw [hs] at hm
    exact State.queuedCount_eq_zero.mp hq m hm

/-! ### Queued slots cancelled (R38) -/

/-- What the cancelling of the QUEUED slots of device `d` does. -/
structure Emptied (d : DevNo) (l : List SlotNo) (s t : State) : Prop where
  frame : ∃ (v : Vector Slot 8) (b : Bool), t = State.raiseIf { s with slots := v } b .ejectFinished
  kept : ∀ n : SlotNo, ¬ ((s.slots[n]'n.isLt).state = .queued ∧ (s.slots[n]'n.isLt).device = d) → (t.slots[n]'n.isLt) = (s.slots[n]'n.isLt)
  ended : ∀ n ∈ l, (s.slots[n]'n.isLt).state = .queued → (s.slots[n]'n.isLt).device = d →
    ({ (s.slots[n]'n.isLt) with state := .idle, result := .cancelled } : Slot).stays (t.slots[n]'n.isLt) ∧
      t.isPending .ejectFinished = true

theorem slots_frame_trans {s t u : State} (h : ∃ (v : Vector Slot 8) (b : Bool), t = State.raiseIf { s with slots := v } b .ejectFinished)
    (g : ∃ (v : Vector Slot 8) (b : Bool), u = State.raiseIf { t with slots := v } b .ejectFinished) :
    ∃ (v : Vector Slot 8) (b : Bool), u = State.raiseIf { s with slots := v } b .ejectFinished := by
  obtain ⟨v, b, rfl⟩ := h
  obtain ⟨w, c, rfl⟩ := g
  refine ⟨w, b || c, ?_⟩
  cases b <;> cases c <;> simp [State.raiseIf, State.raise, BitVec.or_assoc]

theorem finishSlot_slots_frame (n : SlotNo) (r : SlotResult) (s : State) :
    ∃ (v : Vector Slot 8) (b : Bool), finishSlot n r s = State.raiseIf { s with slots := v } b .ejectFinished := by
  simp only [finishSlot]
  split <;> exact ⟨_, true, rfl⟩

/-- Cancels one slot when it is QUEUED for the device. -/
def cancelStep (d : DevNo) (s : State) (n : SlotNo) : State :=
  if (s.slots[n]'n.isLt).state = .queued ∧ (s.slots[n]'n.isLt).device = d then finishSlot n .cancelled s else s

theorem cancelSteps_emptied (d : DevNo) (l : List SlotNo) (s : State) : Emptied d l s (l.foldl (cancelStep d) s) := by
  induction l generalizing s with
  | nil => exact ⟨⟨s.slots, false, rfl⟩, fun _ _ => rfl, fun n hn => absurd hn List.not_mem_nil⟩
  | cons m l ih =>
    obtain ⟨hframe, hkept, hended⟩ := ih (cancelStep d s m)
    rw [List.foldl_cons]
    generalize l.foldl (cancelStep d) (cancelStep d s m) = t at hframe hkept hended ⊢
    by_cases hm : (s.slots[m]'m.isLt).state = .queued ∧ (s.slots[m]'m.isLt).device = d
    · rw [cancelStep, if_pos hm] at hframe hkept hended
      have hpending := finishSlot_pending m .cancelled s
      have hself : (finishSlot m .cancelled s).slots[m] = { (s.slots[m]'m.isLt) with state := .idle, result := .cancelled } := by
        rw [finishSlot_get, if_pos rfl]
      have hother (n : SlotNo) (hn : n ≠ m) := finishSlot_stays .cancelled s hn
      have hsame (n : SlotNo) (hn : ¬ ((s.slots[n]'n.isLt).state = .queued ∧ (s.slots[n]'n.isLt).device = d)) :
          (finishSlot m .cancelled s).slots[n] = (s.slots[n]'n.isLt) := by
        rw [finishSlot_get, if_neg fun h => hn (by rw [h]; exact hm), if_neg fun h => hn ⟨h.2.1, h.2.2.1.trans hm.2⟩]
      have hfirst := finishSlot_slots_frame m .cancelled s
      generalize finishSlot m .cancelled s = u at *
      have hraised : t.isPending .ejectFinished = true := by
        obtain ⟨v, b, rfl⟩ := hframe
        rw [isPending_raiseIf]
        exact Bool.or_eq_true_iff.mpr (.inl hpending)
      refine ⟨slots_frame_trans hfirst hframe, fun n hn => ?_, fun n hn hq hd => ⟨?_, hraised⟩⟩
      · rw [hkept n (by rw [hsame n hn]; exact hn), hsame n hn]
      · by_cases hnm : n = m
        · subst hnm
          rw [hkept n (by rw [hself]; exact fun h => SlotState.noConfusion h.1), hself]
          rfl
        · have hs := hother n hnm
          obtain ⟨hstays, -⟩ := hended n ((List.mem_cons.mp hn).resolve_left hnm) (by rw [hs]; exact hq) (by rw [hs]; exact hd)
          rw [hs] at hstays
          exact hstays
    · rw [cancelStep, if_neg hm] at hframe hkept hended
      refine ⟨hframe, hkept, fun n hn hq hd => ?_⟩
      obtain rfl | hn := List.mem_cons.mp hn
      · exact (hm ⟨hq, hd⟩).elim
      · exact hended n hn hq hd

theorem cancelQueued_emptied (d : DevNo) (s : State) : Emptied d (indices 8) s (cancelQueued d s) :=
  cancelSteps_emptied d (indices 8) s

theorem Emptied.unqueued {d : DevNo} {s t : State} (h : Emptied d (indices 8) s t) : t.queuedCount d = 0 := by
  refine State.queuedCount_eq_zero.mpr fun n hn => ?_
  by_cases hq : (s.slots[n]'n.isLt).state = .queued ∧ (s.slots[n]'n.isLt).device = d
  · obtain ⟨hstays, -⟩ := h.ended n (mem_indices n) hq.1 hq.2
    rw [hstays] at hn
    exact SlotState.noConfusion hn.1
  · rw [h.kept n hq] at hn
    exact hq hn

/-! ### An order that ends with nothing to follow (R33) -/

/-- The slot of a device's order ends. -/
def finishOrder (d : DevNo) (r : Slot → SlotResult) (s : State) : State :=
  match (s.devices[d]'d.isLt).live.order with
  | .slot n => finishSlot n (r (s.slots[n]'n.isLt)) s
  | _ => s

theorem endOrder_eq (d : DevNo) (r : Slot → SlotResult) (s : State) :
    endOrder d r s = takeOrder d ((finishOrder d r s).modLive d DeviceLive.ended) := rfl

theorem finishOrder_frame (d : DevNo) (r : Slot → SlotResult) (s : State) :
    ∃ (v : Vector Slot 8) (b : Bool), finishOrder d r s = State.raiseIf { s with slots := v } b .ejectFinished := by
  unfold finishOrder
  split
  · exact finishSlot_slots_frame _ _ s
  · exact ⟨s.slots, false, rfl⟩

theorem finishOrder_devices (d : DevNo) (r : Slot → SlotResult) (s : State) :
    (finishOrder d r s).devices = s.devices := by
  obtain ⟨v, b, h⟩ := finishOrder_frame d r s
  rw [h, State.raiseIf_devices]

theorem finishOrder_coils (d : DevNo) (r : Slot → SlotResult) (s : State) :
    (finishOrder d r s).coils = s.coils := by
  obtain ⟨v, b, h⟩ := finishOrder_frame d r s
  rw [h, State.raiseIf_coils]

theorem finishOrder_stays {d : DevNo} (r : Slot → SlotResult) {s : State} {n : SlotNo}
    (h : (s.devices[d]'d.isLt).live.order ≠ .slot n) : (s.slots[n]'n.isLt).stays (finishOrder d r s).slots[n] := by
  unfold finishOrder
  split
  · next m hm => exact finishSlot_stays _ s fun he => h (by rw [hm, he])
  · rfl

theorem finishOrder_unqueued (d : DevNo) (r : Slot → SlotResult) {s : State} (hq : s.queuedCount d = 0) :
    (finishOrder d r s).queuedCount d = 0 := by
  unfold finishOrder
  split
  · exact finishSlot_unqueued _ _ hq
  · exact hq

theorem takeOrder_slots {d : DevNo} {s : State} (hq : s.queuedCount d = 0) : (takeOrder d s).slots = s.slots := by
  simp only [takeOrder]
  rw [takeOrderFuel]
  simp only [State.oldestQueued_none hq]
  split
  · rfl
  · split
    · rw [startBall_beginOrder]
      rfl
    · rfl

/-- The end of an order of a device with nothing queued. -/
structure EndsOrder (d : DevNo) (s t : State) : Prop where
  others : ∀ e : DevNo, e ≠ d → (t.devices[e]'e.isLt) = (s.devices[e]'e.isLt)
  cfg : (t.devices[d]'d.isLt).cfg = (s.devices[d]'d.isLt).cfg
  occupancy : (t.devices[d]'d.isLt).live.occupancy = (s.devices[d]'d.isLt).live.occupancy
  owed : (t.devices[d]'d.isLt).live.owed = (s.devices[d]'d.isLt).live.owed
  slots : ∀ n : SlotNo, (s.devices[d]'d.isLt).live.order ≠ .slot n → (s.slots[n]'n.isLt).stays (t.slots[n]'n.isLt)
  rests : (s.devices[d]'d.isLt).live.owed = 0 → (t.devices[d]'d.isLt).live = (s.devices[d]'d.isLt).live.ended
  coils : (s.devices[d]'d.isLt).live.owed = 0 → t.coils = s.coils

theorem endOrder_ends {d : DevNo} (r : Slot → SlotResult) {s : State} (hq : s.queuedCount d = 0) :
    EndsOrder d s (endOrder d r s) := by
  have d_lt := d.isLt
  have hcount : ((finishOrder d r s).modLive d DeviceLive.ended).queuedCount d = 0 :=
    (State.queuedCount_of_slots d (State.modLive_slots _ d _)).trans (finishOrder_unqueued d r hq)
  have hget (e : DevNo) : ((finishOrder d r s).modLive d DeviceLive.ended).devices[e] =
      if e = d then { (s.devices[d]'d.isLt) with live := (s.devices[d]'d.isLt).live.ended } else (s.devices[e]'e.isLt) := by
    rw [State.modLive_get, finishOrder_devices]
  have hcoils : ((finishOrder d r s).modLive d DeviceLive.ended).coils = s.coils := finishOrder_coils d r s
  have hstays (n : SlotNo) (hn : (s.devices[d]'d.isLt).live.order ≠ .slot n) :
      (s.slots[n]'n.isLt).stays ((finishOrder d r s).modLive d DeviceLive.ended).slots[n] := finishOrder_stays r hn
  rw [endOrder_eq]
  generalize (finishOrder d r s).modLive d DeviceLive.ended = u at *
  have hself := hget d
  rw [if_pos rfl] at hself
  have hordered := takeOrder_ordered d u
  have hrests (h : (s.devices[d]'d.isLt).live.owed = 0) : takeOrder d u = u :=
    takeOrder_rests (.inl (by rw [hself]; exact h)) hcount
  refine ⟨fun e he => ?_, ?_, ?_, ?_, fun n hn => ?_, fun h => ?_, fun h => ?_⟩
  · rw [hordered.others e he, hget, if_neg he]
  · rw [hordered.cfg, hself]
  · rw [hordered.occupancy, hself]
    rfl
  · rw [hordered.owed, hself]
    rfl
  · rw [takeOrder_slots hcount]
    exact hstays n hn
  · rw [hrests h, hself]
  · rw [hrests h, hcoils]

/-! ### The current order by its stage (R38, R54) -/

theorem enterRecovering_other {c e : CoilNo} (s : State) (h : e ≠ c) : (enterRecovering c s).coils[e] = (s.coils[e]'e.isLt) := by
  simp only [enterRecovering]
  split
  · rw [enterIdle_other _ h, State.modCoilLive_get, if_neg h]
  · rw [State.modCoilLive_get, if_neg h]

/-- A request that is not the device's is left alone. -/
theorem endRequest_foreign {c : CoilNo} {d : DevNo} {s : State} (hh : (s.coils[c]'c.isLt).live.held ≠ some d)
    (ho : (s.coils[c]'c.isLt).live.owner ≠ some (.device d)) : endRequest c d s = s :=
  (if_neg hh).trans (if_pos ho)

section
variable {c : CoilNo} {d : DevNo} {s : State}

theorem endRequest_held (hh : (s.coils[c]'c.isLt).live.held = some d) :
    endRequest c d s = s.modCoilLive c fun l => { l with held := none } := if_pos hh

variable (hh : (s.coils[c]'c.isLt).live.held ≠ some d) (ho : (s.coils[c]'c.isLt).live.owner = some (.device d))
include hh ho

theorem endRequest_waiting (h : (s.coils[c]'c.isLt).live.state = .waiting) : endRequest c d s =
    if (s.coils[c]'c.isLt).live.pulses = 0 then enterIdle c s else enterRecovering c s := by
  simp only [endRequest, if_neg hh, ho, h, ne_eq, not_true_eq_false, if_false]

theorem endRequest_firing (h : (s.coils[c]'c.isLt).live.state = .firing) :
    endRequest c d s = s.modCoilLive c fun l => { l with ending := true } := by
  simp only [endRequest, if_neg hh, ho, h, ne_eq, not_true_eq_false, if_false]

theorem endRequest_holding (h : (s.coils[c]'c.isLt).live.state = .holding) : endRequest c d s = enterRecovering c s := by
  simp only [endRequest, if_neg hh, ho, h, ne_eq, not_true_eq_false, if_false]

theorem endRequest_recovering (h : (s.coils[c]'c.isLt).live.state = .recovering) : endRequest c d s =
    if (s.coils[c]'c.isLt).live.interval then enterRecovering c s else s := by
  simp only [endRequest, if_neg hh, ho, h, ne_eq, not_true_eq_false, if_false]

theorem endRequest_idle (h : (s.coils[c]'c.isLt).live.state = .idle) : endRequest c d s = s := by
  simp only [endRequest, if_neg hh, ho, h, ne_eq, not_true_eq_false, if_false]

end

/-- The end of a request writes one coil alone. -/
theorem endRequest_step (c : CoilNo) (d : DevNo) (s : State) : endRequest c d s = s ∨ endRequest c d s = enterIdle c s ∨
    endRequest c d s = enterRecovering c s ∨ ∃ f : CoilLive → CoilLive, endRequest c d s = s.modCoilLive c f := by
  by_cases hh : (s.coils[c]'c.isLt).live.held = some d
  · exact .inr (.inr (.inr ⟨_, endRequest_held hh⟩))
  by_cases ho : (s.coils[c]'c.isLt).live.owner = some (.device d)
  · cases hs : (s.coils[c]'c.isLt).live.state with
    | idle => exact .inl (endRequest_idle hh ho hs)
    | waiting =>
      rw [endRequest_waiting hh ho hs]
      split
      · exact .inr (.inl rfl)
      · exact .inr (.inr (.inl rfl))
    | firing => exact .inr (.inr (.inr ⟨_, endRequest_firing hh ho hs⟩))
    | holding => exact .inr (.inr (.inl (endRequest_holding hh ho hs)))
    | recovering =>
      rw [endRequest_recovering hh ho hs]
      split
      · exact .inr (.inr (.inl rfl))
      · exact .inl rfl
  · exact .inl (endRequest_foreign hh ho)

theorem endRequest_other {c e : CoilNo} (d : DevNo) (s : State) (h : e ≠ c) : (endRequest c d s).coils[e] = (s.coils[e]'e.isLt) := by
  obtain hr | hr | hr | ⟨f, hr⟩ := endRequest_step c d s <;> rw [hr]
  · exact enterIdle_other s h
  · exact enterRecovering_other s h
  · rw [State.modCoilLive_get, if_neg h]

theorem endRequest_coils {c e : CoilNo} {d : DevNo} {s : State} (hh : (s.coils[e]'e.isLt).live.held ≠ some d)
    (ho : (s.coils[e]'e.isLt).live.owner ≠ some (.device d)) : (endRequest c d s).coils[e] = (s.coils[e]'e.isLt) := by
  by_cases h : e = c
  · subst h
    rw [endRequest_foreign hh ho]
  · exact endRequest_other d s h

theorem endRequest_slots (c : CoilNo) (d : DevNo) (s : State) : (endRequest c d s).slots = s.slots := by
  obtain ⟨v, h⟩ := endRequest_frame c d s
  rw [h]

theorem enterConfirming_get (d e : DevNo) (s : State) : (enterConfirming d s).devices[e] = if e = d then
    { (s.devices[d]'d.isLt) with live := { (s.devices[d]'d.isLt).live with
        state := .confirming, confirm := .load (s.devices[d]'d.isLt).cfg.confirmTimeout } } else (s.devices[e]'e.isLt) :=
  State.modDevice_get s d e _

theorem restartSettle_get (d e : DevNo) (s : State) : (restartSettle d s).devices[e] = if e = d then
    { (s.devices[d]'d.isLt) with live := { (s.devices[d]'d.isLt).live with settle := .load (s.devices[d]'d.isLt).cfg.settleTime } }
    else (s.devices[e]'e.isLt) :=
  State.modDevice_get s d e _

/-- What the treatment of the current order leaves, of a device with nothing queued. -/
structure CancelsOrder (d : DevNo) (s t : State) : Prop where
  others : ∀ e : DevNo, e ≠ d → (t.devices[e]'e.isLt) = (s.devices[e]'e.isLt)
  cfg : (t.devices[d]'d.isLt).cfg = (s.devices[d]'d.isLt).cfg
  occupancy : (t.devices[d]'d.isLt).live.occupancy = (s.devices[d]'d.isLt).live.occupancy
  owed : (t.devices[d]'d.isLt).live.owed = (s.devices[d]'d.isLt).live.owed
  slots : ∀ n : SlotNo, (s.devices[d]'d.isLt).live.order ≠ .slot n → (s.slots[n]'n.isLt).stays (t.slots[n]'n.isLt)
  coils : (s.devices[d]'d.isLt).live.owed = 0 → ∀ e : CoilNo, (s.coils[e]'e.isLt).live.held ≠ some d →
    (s.coils[e]'e.isLt).live.owner ≠ some (.device d) → (t.coils[e]'e.isLt) = (s.coils[e]'e.isLt)

/-- A treatment that writes the device's record and its coil alone. -/
theorem CancelsOrder.of_live {d : DevNo} {s t : State} {l : DeviceLive} (hslots : t.slots = s.slots)
    (hget : ∀ e : DevNo, (t.devices[e]'e.isLt) = if e = d then { (s.devices[d]'d.isLt) with live := l } else (s.devices[e]'e.isLt))
    (hocc : l.occupancy = (s.devices[d]'d.isLt).live.occupancy) (howed : l.owed = (s.devices[d]'d.isLt).live.owed)
    (hcoils : ∀ e : CoilNo, (s.coils[e]'e.isLt).live.held ≠ some d → (s.coils[e]'e.isLt).live.owner ≠ some (.device d) →
      (t.coils[e]'e.isLt) = (s.coils[e]'e.isLt)) : CancelsOrder d s t where
  others e he := by rw [hget, if_neg he]
  cfg := by rw [hget, if_pos rfl]
  occupancy := by rw [hget, if_pos rfl]; exact hocc
  owed := by rw [hget, if_pos rfl]; exact howed
  slots n _ := by rw [hslots]; rfl
  coils _ := hcoils

section
variable {d : DevNo} {s : State}

theorem cancelOrder_still (h : (s.devices[d]'d.isLt).live.state = .idle ∨ (s.devices[d]'d.isLt).live.state = .jammed ∨
    (s.devices[d]'d.isLt).live.state = .disabled) : cancelOrder d s = s := by
  obtain h | h | h := h <;> simp only [cancelOrder, h]

theorem cancelOrder_confirming (h : (s.devices[d]'d.isLt).live.state = .confirming) : cancelOrder d s = setStopPending d s := by
  simp only [cancelOrder, h]

theorem cancelOrder_firing (h : (s.devices[d]'d.isLt).live.state = .ejecting)
    (hs : s.stage (s.devices[d]'d.isLt).cfg.coil d = .firing) :
    cancelOrder d s = endRequest (s.devices[d]'d.isLt).cfg.coil d (setStopPending d s) := by
  simp only [cancelOrder, h, hs]

theorem cancelOrder_between (h : (s.devices[d]'d.isLt).live.state = .ejecting)
    (hs : s.stage (s.devices[d]'d.isLt).cfg.coil d = .between) :
    cancelOrder d s = enterConfirming d (endRequest (s.devices[d]'d.isLt).cfg.coil d (setStopPending d s)) := by
  simp only [cancelOrder, h, hs]

theorem cancelOrder_holding (h : (s.devices[d]'d.isLt).live.state = .ejecting)
    (hs : s.stage (s.devices[d]'d.isLt).cfg.coil d = .holding) :
    cancelOrder d s = deviceRelease true d (endRequest (s.devices[d]'d.isLt).cfg.coil d (setStopPending d s)) := by
  simp only [cancelOrder, h, hs]

theorem cancelOrder_queued (h : (s.devices[d]'d.isLt).live.state = .ejecting)
    (hs : s.stage (s.devices[d]'d.isLt).cfg.coil d = .queued) :
    cancelOrder d s = endOrder d resultAtCancel (endRequest (s.devices[d]'d.isLt).cfg.coil d s) := by
  simp only [cancelOrder, h, hs]

theorem cancelOrder_closed (h : (s.devices[d]'d.isLt).live.state = .ejecting)
    (hs : s.stage (s.devices[d]'d.isLt).cfg.coil d = .closed) : cancelOrder d s = endOrder d resultAtCancel s := by
  simp only [cancelOrder, h, hs]

end

/-- The device once its order is marked and its request ended. -/
theorem stopped_get (c : CoilNo) (d e : DevNo) (s : State) : (endRequest c d (setStopPending d s)).devices[e] =
    if e = d then { (s.devices[d]'d.isLt) with live := { (s.devices[d]'d.isLt).live with stopPending := true } } else (s.devices[e]'e.isLt) := by
  rw [endRequest_devices]
  exact State.modLive_get s d e _

theorem stopped_coils {c e : CoilNo} {d : DevNo} {s : State} (hh : (s.coils[e]'e.isLt).live.held ≠ some d)
    (ho : (s.coils[e]'e.isLt).live.owner ≠ some (.device d)) :
    (endRequest c d (setStopPending d s)).coils[e] = (s.coils[e]'e.isLt) :=
  endRequest_coils (s := setStopPending d s) hh ho

theorem deviceRelease_ejecting {d : DevNo} {s : State} (h : (s.devices[d]'d.isLt).live.state = .ejecting) :
    deviceRelease true d s = enterConfirming d (restartSettle d s) := by
  have hstate : (restartSettle d s).devices[d].live.state = .ejecting := by
    rw [restartSettle_get, if_pos rfl]
    exact h
  simp only [deviceRelease, h, hstate, reduceCtorEq, if_false, and_self, if_true]

theorem released_get (d e : DevNo) (s : State) : (enterConfirming d (restartSettle d s)).devices[e] = if e = d then
    { (s.devices[d]'d.isLt) with live := { (s.devices[d]'d.isLt).live with
        state := .confirming, settle := .load (s.devices[d]'d.isLt).cfg.settleTime,
        confirm := .load (s.devices[d]'d.isLt).cfg.confirmTimeout } } else (s.devices[e]'e.isLt) := by
  rw [enterConfirming_get, restartSettle_get, restartSettle_get, if_pos rfl]
  split <;> rfl

theorem cancelOrder_cancels {d : DevNo} {s : State} (hq : s.queuedCount d = 0) : CancelsOrder d s (cancelOrder d s) := by
  have d_lt := d.isLt
  have hstill : CancelsOrder d s s := .of_live rfl (l := (s.devices[d]'d.isLt).live) (fun e => by
    split
    · next h => rw [h]
    · rfl) rfl rfl fun _ _ _ => rfl
  cases hst : (s.devices[d]'d.isLt).live.state with
  | idle => rw [cancelOrder_still (.inl hst)]; exact hstill
  | jammed => rw [cancelOrder_still (.inr (.inl hst))]; exact hstill
  | disabled => rw [cancelOrder_still (.inr (.inr hst))]; exact hstill
  | confirming =>
    rw [cancelOrder_confirming hst]
    exact .of_live rfl (fun e => State.modLive_get s d e _) rfl rfl fun _ _ _ => rfl
  | ejecting =>
    have hslots := endRequest_slots (s.devices[d]'d.isLt).cfg.coil d (setStopPending d s)
    have hget (e : DevNo) := stopped_get (s.devices[d]'d.isLt).cfg.coil d e s
    have hcoils (e : CoilNo) (hh : (s.coils[e]'e.isLt).live.held ≠ some d) (ho : (s.coils[e]'e.isLt).live.owner ≠ some (.device d)) :=
      stopped_coils (c := (s.devices[d]'d.isLt).cfg.coil) hh ho
    cases hsg : s.stage (s.devices[d]'d.isLt).cfg.coil d with
    | queued =>
      rw [cancelOrder_queued hst hsg]
      have hdevices := endRequest_devices (s.devices[d]'d.isLt).cfg.coil d s
      have hslots := endRequest_slots (s.devices[d]'d.isLt).cfg.coil d s
      have hcoils (e : CoilNo) (hh : (s.coils[e]'e.isLt).live.held ≠ some d) (ho : (s.coils[e]'e.isLt).live.owner ≠ some (.device d)) :=
        endRequest_coils (c := (s.devices[d]'d.isLt).cfg.coil) hh ho
      generalize endRequest (s.devices[d]'d.isLt).cfg.coil d s = u at *
      obtain ⟨h1, h2, h3, h4, h5, -, h7⟩ :=
        endOrder_ends resultAtCancel (s := u) (d := d) ((State.queuedCount_of_slots d hslots).trans hq)
      rw [hdevices] at h1 h2 h3 h4 h5 h7
      rw [hslots] at h5
      exact ⟨h1, h2, h3, h4, h5, fun hw e hh ho => by rw [h7 hw]; exact hcoils e hh ho⟩
    | closed =>
      rw [cancelOrder_closed hst hsg]
      obtain ⟨h1, h2, h3, h4, h5, -, h7⟩ := endOrder_ends resultAtCancel hq
      exact ⟨h1, h2, h3, h4, h5, fun hw e _ _ => by rw [h7 hw]⟩
    | between =>
      rw [cancelOrder_between hst hsg]
      refine .of_live hslots (fun e => ?_) (l := { (s.devices[d]'d.isLt).live with
        stopPending := true, state := .confirming, confirm := .load (s.devices[d]'d.isLt).cfg.confirmTimeout }) rfl rfl hcoils
      rw [enterConfirming_get, hget, hget, if_pos rfl]
      split <;> rfl
    | firing =>
      rw [cancelOrder_firing hst hsg]
      exact .of_live hslots hget rfl rfl hcoils
    | holding =>
      rw [cancelOrder_holding hst hsg, deviceRelease_ejecting (by rw [hget, if_pos rfl]; exact hst)]
      refine .of_live hslots (fun e => ?_) (l := { (s.devices[d]'d.isLt).live with
        stopPending := true, state := .confirming, settle := .load (s.devices[d]'d.isLt).cfg.settleTime,
        confirm := .load (s.devices[d]'d.isLt).cfg.confirmTimeout }) rfl rfl hcoils
      rw [released_get, hget, hget, if_pos rfl]
      split <;> rfl

/-! ### CANCEL_EJECTS (R38) -/

/-- The device with its queued slots cancelled and, when asked, its owed ejects dropped. -/
def State.emptied (s : State) (d : DevNo) (owed : Bool) : State :=
  if owed then (cancelQueued d s).modLive d fun l => { l with owed := 0 } else cancelQueued d s

theorem cancelEjects_eq (d : DevNo) (owed : Bool) (s : State) :
    cancelEjects d owed s = cancelOrder d (s.emptied d owed) := rfl

/-- What is left to do of an order before it is treated. -/
structure EmptiedOwed (d : DevNo) (owed : Bool) (s t : State) : Prop where
  devices : ∀ e : DevNo, (t.devices[e]'e.isLt) = if e = d then
    { (s.devices[d]'d.isLt) with live := { (s.devices[d]'d.isLt).live with owed := if owed then 0 else (s.devices[d]'d.isLt).live.owed } }
    else (s.devices[e]'e.isLt)
  coils : t.coils = s.coils
  unqueued : t.queuedCount d = 0
  kept : ∀ n : SlotNo, ¬ ((s.slots[n]'n.isLt).state = .queued ∧ (s.slots[n]'n.isLt).device = d) → (t.slots[n]'n.isLt) = (s.slots[n]'n.isLt)
  ended : ∀ n : SlotNo, (s.slots[n]'n.isLt).state = .queued → (s.slots[n]'n.isLt).device = d →
    ({ (s.slots[n]'n.isLt) with state := .idle, result := .cancelled } : Slot).stays (t.slots[n]'n.isLt) ∧
      t.isPending .ejectFinished = true

theorem emptied_empties (d : DevNo) (owed : Bool) (s : State) : EmptiedOwed d owed s (s.emptied d owed) := by
  have h := cancelQueued_emptied d s
  have hcount := h.unqueued
  obtain ⟨⟨v, b, hframe⟩, hkept, hended⟩ := h
  have hdevices : (cancelQueued d s).devices = s.devices := by rw [hframe, State.raiseIf_devices]
  have hcoils : (cancelQueued d s).coils = s.coils := by rw [hframe, State.raiseIf_coils]
  unfold State.emptied
  generalize cancelQueued d s = u at *
  cases owed with
  | true =>
    refine ⟨fun e => ?_, hcoils, (State.queuedCount_of_slots d (State.modLive_slots u d fun l => { l with owed := 0 })).trans hcount, hkept,
      fun n => hended n (mem_indices n)⟩
    rw [if_pos rfl, State.modLive_get, hdevices]
    rfl
  | false =>
    refine ⟨fun e => ?_, hcoils, hcount, hkept, fun n => hended n (mem_indices n)⟩
    rw [if_neg Bool.false_ne_true, hdevices]
    split
    · next he => rw [he]; rfl
    · rfl

/-- What CANCEL_EJECTS does to a device and to the slots. -/
structure Cancelled (d : DevNo) (owed : Bool) (s t : State) : Prop where
  others : ∀ e : DevNo, e ≠ d → (t.devices[e]'e.isLt) = (s.devices[e]'e.isLt)
  cfg : (t.devices[d]'d.isLt).cfg = (s.devices[d]'d.isLt).cfg
  occupancy : (t.devices[d]'d.isLt).live.occupancy = (s.devices[d]'d.isLt).live.occupancy
  owes : (t.devices[d]'d.isLt).live.owed = if owed then 0 else (s.devices[d]'d.isLt).live.owed
  queued : ∀ n : SlotNo, (s.slots[n]'n.isLt).state = .queued → (s.slots[n]'n.isLt).device = d → (s.devices[d]'d.isLt).live.order ≠ .slot n →
    ({ (s.slots[n]'n.isLt) with state := .idle, result := .cancelled } : Slot).stays (t.slots[n]'n.isLt) ∧
      t.isPending .ejectFinished = true
  slots : ∀ n : SlotNo, ¬ ((s.slots[n]'n.isLt).state = .queued ∧ (s.slots[n]'n.isLt).device = d) → (s.devices[d]'d.isLt).live.order ≠ .slot n →
    (s.slots[n]'n.isLt).stays (t.slots[n]'n.isLt)
  coils : owed = true → ∀ e : CoilNo, (s.coils[e]'e.isLt).live.held ≠ some d → (s.coils[e]'e.isLt).live.owner ≠ some (.device d) →
    (t.coils[e]'e.isLt) = (s.coils[e]'e.isLt)

theorem cancelEjects_cancels (d : DevNo) (owed : Bool) (s : State) : Cancelled d owed s (cancelEjects d owed s) := by
  obtain ⟨hdevices, hcoils, hcount, hkept, hended⟩ := emptied_empties d owed s
  rw [cancelEjects_eq]
  generalize s.emptied d owed = u at *
  have hself := hdevices d
  rw [if_pos rfl] at hself
  have hpending := (cancelOrder_quiet (fun _ => False) d u).pending .ejectFinished
  obtain ⟨h1, h2, h3, h4, h5, h6⟩ := cancelOrder_cancels hcount
  rw [hself] at h2 h3 h4 h5 h6
  rw [hcoils] at h6
  refine ⟨fun e he => ?_, h2, h3, h4, fun n hq hd ho => ?_, fun n hn ho => ?_, fun howed => ?_⟩
  · rw [h1 e he, hdevices, if_neg he]
  · obtain ⟨hstays, hp⟩ := hended n hq hd
    exact ⟨hstays.trans (h5 n ho), hpending hp⟩
  · have := h5 n ho
    rw [hkept n hn] at this
    exact this
  · subst howed
    exact h6 rfl

theorem cancel_unknown {d : Byte} {owed : Bool} {s : State} (h : 7 < d.toNat) :
    cancel [d, flagByte owed] s = refuse s .notFound := by
  simp only [cancel, indexOf_none (n := 8) (Nat.succ_le_of_lt h), flagOf_flagByte, Option.isSome_some,
    Option.isSome_none, Bool.false_eq_true, if_false, withEncodingCheck_true]

theorem cancel_accepted (d : DevNo) (owed : Bool) (s : State) :
    cancel [byte d.val, flagByte owed] s = ok (event (cancelEjects d owed) s) [] := by
  have hflag : (flagByte owed == 1) = owed := by cases owed <;> rfl
  simp only [cancel, indexOf_byte d, flagOf_flagByte, Option.isSome_some, if_true, withEncodingCheck_true, hflag]

/-- A coil whose request is queued and not held goes to IDLE when the request is withdrawn (R54). -/
theorem endRequest_withdrawn {c : CoilNo} {d : DevNo} {s : State} (hw : (s.coils[c]'c.isLt).live.state = .waiting)
    (ho : (s.coils[c]'c.isLt).live.owner = some (.device d)) (hp : (s.coils[c]'c.isLt).live.pulses = 0)
    (hh : (s.coils[c]'c.isLt).live.held = none) : endRequest c d s = s.modCoilLive c CoilLive.idled := by
  rw [endRequest_waiting (by rw [hh]; exact Option.some_ne_none d |>.symm) ho hw, if_pos hp, enterIdle_of_none hh]

theorem stage_queued {c : CoilNo} {d : DevNo} {s : State} (hw : (s.coils[c]'c.isLt).live.state = .waiting)
    (ho : (s.coils[c]'c.isLt).live.owner = some (.device d)) (hp : (s.coils[c]'c.isLt).live.pulses = 0) : s.stage c d = .queued := by
  simp only [State.stage, hw, ho, hp, ne_eq, not_true_eq_false, if_false, if_true, ite_self]

theorem stage_congr {s t : State} {c : CoilNo} {d : DevNo} (h : t.coils = s.coils) : t.stage c d = s.stage c d := by
  simp only [State.stage, h]

/-- A device's live part with its owed ejects dropped when asked. -/
def DeviceLive.forgiven (l : DeviceLive) (owed : Bool) : DeviceLive := { l with owed := if owed then 0 else l.owed }

/-- What CANCEL_EJECTS makes of the current order, by its stage (R38's table). -/
structure CancelStages (d : DevNo) (owed : Bool) (s t : State) : Prop where
  still : (s.devices[d]'d.isLt).live.state = .idle ∨ (s.devices[d]'d.isLt).live.state = .jammed ∨ (s.devices[d]'d.isLt).live.state = .disabled →
    (t.devices[d]'d.isLt).live = (s.devices[d]'d.isLt).live.forgiven owed
  marked : (s.devices[d]'d.isLt).live.state = .confirming ∨
    ((s.devices[d]'d.isLt).live.state = .ejecting ∧ s.stage (s.devices[d]'d.isLt).cfg.coil d = .firing) →
    (t.devices[d]'d.isLt).live = { (s.devices[d]'d.isLt).live.forgiven owed with stopPending := true }
  between : (s.devices[d]'d.isLt).live.state = .ejecting → s.stage (s.devices[d]'d.isLt).cfg.coil d = .between →
    (t.devices[d]'d.isLt).live = { (s.devices[d]'d.isLt).live.forgiven owed with
      stopPending := true, state := .confirming, confirm := ⟨(s.devices[d]'d.isLt).cfg.confirmTimeout, true, false⟩ }
  holding : (s.devices[d]'d.isLt).live.state = .ejecting → s.stage (s.devices[d]'d.isLt).cfg.coil d = .holding →
    (t.devices[d]'d.isLt).live = { (s.devices[d]'d.isLt).live.forgiven owed with
      stopPending := true, state := .confirming, settle := ⟨(s.devices[d]'d.isLt).cfg.settleTime, true, false⟩,
      confirm := ⟨(s.devices[d]'d.isLt).cfg.confirmTimeout, true, false⟩ }
  queued : (s.devices[d]'d.isLt).live.state = .ejecting → s.stage (s.devices[d]'d.isLt).cfg.coil d = .queued →
    owed = true ∨ (s.devices[d]'d.isLt).live.owed = 0 → (t.devices[d]'d.isLt).live = ((s.devices[d]'d.isLt).live.forgiven owed).ended

theorem cancelEjects_stages (d : DevNo) (owed : Bool) (s : State) : CancelStages d owed s (cancelEjects d owed s) := by
  have d_lt := d.isLt
  obtain ⟨hdevices, hcoils, hcount, -, -⟩ := emptied_empties d owed s
  rw [cancelEjects_eq]
  generalize s.emptied d owed = u at *
  have hself : (u.devices[d]'d.isLt) = { (s.devices[d]'d.isLt) with live := (s.devices[d]'d.isLt).live.forgiven owed } := by
    rw [hdevices, if_pos rfl]
    rfl
  have hstate : (u.devices[d]'d.isLt).live.state = (s.devices[d]'d.isLt).live.state := by rw [hself]; rfl
  have hstage : u.stage (u.devices[d]'d.isLt).cfg.coil d = s.stage (s.devices[d]'d.isLt).cfg.coil d := by rw [hself, stage_congr hcoils]
  have hstop (c : CoilNo) : (endRequest c d (setStopPending d u)).devices[d] =
      { (s.devices[d]'d.isLt) with live := { (s.devices[d]'d.isLt).live.forgiven owed with stopPending := true } } := by
    rw [stopped_get, if_pos rfl, hself]
  refine ⟨fun h => ?_, fun h => ?_, fun h hs => ?_, fun h hs => ?_, fun h hs hw => ?_⟩
  · rw [cancelOrder_still (by rw [hstate]; exact h), hself]
  · obtain h | ⟨h, hs⟩ := h
    · rw [cancelOrder_confirming (hstate.trans h), setStopPending, State.modLive_get, if_pos rfl, hself]
    · rw [cancelOrder_firing (hstate.trans h) (hstage.trans hs), hstop]
  · rw [cancelOrder_between (hstate.trans h) (hstage.trans hs), enterConfirming_get, if_pos rfl, hstop]
    rfl
  · rw [cancelOrder_holding (hstate.trans h) (hstage.trans hs), deviceRelease_ejecting (by rw [hstop]; exact h),
      released_get, if_pos rfl, hstop]
    rfl
  · have hslots := endRequest_slots (u.devices[d]'d.isLt).cfg.coil d u
    have howed : ((s.devices[d]'d.isLt).live.forgiven owed).owed = 0 := by
      obtain rfl | hw := hw
      · rfl
      · rw [DeviceLive.forgiven, hw]
        exact ite_self 0
    rw [cancelOrder_queued (hstate.trans h) (hstage.trans hs),
      (endOrder_ends resultAtCancel ((State.queuedCount_of_slots d hslots).trans hcount)).rests
        (by rw [endRequest_devices, hself]; exact howed), endRequest_devices, hself]

/-- A slot order whose ball still waits, with nothing owed afterwards, ends at once (R38). -/
structure CancelsWaiting (d : DevNo) (n : SlotNo) (s t : State) : Prop where
  slot : (t.slots[n]'n.isLt) = { (s.slots[n]'n.isLt) with
    state := .idle, result := if (s.slots[n]'n.isLt).ejected = (s.slots[n]'n.isLt).requested then .done else .cancelled }
  pending : t.isPending .ejectFinished = true
  coil : t.coils[(s.devices[d]'d.isLt).cfg.coil].live.state = .idle ∧ t.coils[(s.devices[d]'d.isLt).cfg.coil].live.owner = none
  live : (t.devices[d]'d.isLt).live = ((s.devices[d]'d.isLt).live.forgiven true).ended

theorem cancelEjects_waiting {d : DevNo} {n : SlotNo} {s : State} (hst : (s.devices[d]'d.isLt).live.state = .ejecting)
    (ho : (s.devices[d]'d.isLt).live.order = .slot n) (ha : (s.slots[n]'n.isLt).state = .active)
    (hw : s.coils[(s.devices[d]'d.isLt).cfg.coil].live.state = .waiting)
    (hown : s.coils[(s.devices[d]'d.isLt).cfg.coil].live.owner = some (.device d))
    (hp : s.coils[(s.devices[d]'d.isLt).cfg.coil].live.pulses = 0)
    (hh : s.coils[(s.devices[d]'d.isLt).cfg.coil].live.held = none) : CancelsWaiting d n s (cancelEjects d true s) := by
  have d_lt := d.isLt
  have n_lt := n.isLt
  have hlive := (cancelEjects_stages d true s).queued hst (stage_queued hw hown hp) (.inl rfl)
  obtain ⟨hdevices, hcoils, hcount, hkept, -⟩ := emptied_empties d true s
  rw [cancelEjects_eq] at hlive ⊢
  generalize s.emptied d true = u at *
  have hself : (u.devices[d]'d.isLt) = { (s.devices[d]'d.isLt) with live := (s.devices[d]'d.isLt).live.forgiven true } := by
    rw [hdevices, if_pos rfl]
    rfl
  have hslot : (u.slots[n]'n.isLt) = (s.slots[n]'n.isLt) := hkept n fun h => SlotState.noConfusion (ha.symm.trans h.1)
  have hcoil : (u.devices[d]'d.isLt).cfg.coil = (s.devices[d]'d.isLt).cfg.coil := by rw [hself]
  have hcancel : cancelOrder d u =
      (((u.modCoilLive (s.devices[d]'d.isLt).cfg.coil CoilLive.idled).modSlot n fun x =>
        { x with state := .idle, result := resultAtCancel x }).modLive d DeviceLive.ended).raise .ejectFinished := by
    rw [cancelOrder_queued (by rw [hself]; exact hst) (by rw [hcoil, stage_congr hcoils]; exact stage_queued hw hown hp),
      hcoil, endRequest_withdrawn (by rw [hcoils]; exact hw) (by rw [hcoils]; exact hown) (by rw [hcoils]; exact hp)
      (by rw [hcoils]; exact hh)]
    refine endOrder_slot (s := u.modCoilLive (s.devices[d]'d.isLt).cfg.coil CoilLive.idled) ?_ ?_ (.inl ?_) hcount
    · rw [State.modCoilLive_devices, hself]
      exact ho
    · rw [State.modCoilLive_slots, hslot, ha]
      exact SlotState.noConfusion
    · rw [State.modCoilLive_devices, hself]
      rfl
  refine ⟨?_, ?_, ?_, hlive⟩
  · rw [hcancel, State.raise_slots, State.modLive_slots, State.modSlot_get, if_pos rfl, State.modCoilLive_slots, hslot]
    rfl
  · rw [hcancel, isPending_raise]
    simp
  · rw [hcancel, State.raise_coils, State.modLive_coils, State.modSlot_coils, State.modCoilLive_get, if_pos rfl]
    exact ⟨rfl, rfl⟩

/-- Settles O11. -/
theorem cancelEjectsOutcome : Obligations.CancelEjectsOutcome := by
  unfold Obligations.CancelEjectsOutcome
  refine ⟨fun s d owed h => ?_, fun s h => ⟨fun d owed hd => ?_, fun d n hst ho ha hw hown hp hh => ?_⟩⟩
  · have d_lt := d.isLt
    have hdone := request_ok (len := 2) (run := cancel) h rfl (cancel_accepted d owed (s.begun 2))
    have hlink : (event (cancelEjects d owed) (s.begun 2)).link = (s.begun 2).link :=
      congrArg Kept.link ((event_quiet (cancelEjects_quiet (fun _ => False) d owed (s.begun 2))).kept)
    have hclosing : Closing (cancelEjects d owed (s.begun 2)) (event (cancelEjects d owed) (s.begun 2)) :=
      closeEvent_closing (s.begun 2) (cancelEjects d owed (s.begun 2))
    have hcancels := cancelEjects_cancels d owed (s.begun 2)
    have hstages := cancelEjects_stages d owed (s.begun 2)
    generalize event (cancelEjects d owed) (s.begun 2) = t at *
    generalize cancelEjects d owed (s.begun 2) = u at *
    have hget : t.devices = u.devices := hclosing.devices
    have hslots : t.slots = u.slots := hclosing.slots
    have hpending := hclosing.pending .ejectFinished rfl
    obtain ⟨h1, h2, h3, h4, h5, -, -⟩ := hcancels
    obtain ⟨hstill, hmarked, hbetween, hholding, hqueued⟩ := hstages
    rw [← hget] at h1 h2 h3 h4 hstill hmarked hbetween hholding hqueued
    rw [← hslots, ← hpending] at h5
    refine ⟨_, hdone, prepare_link 2 _ hlink, h1, h2, h3, h4, fun n hq hd ho => ?_, hstill, fun hst => hmarked (.inl hst),
      fun hst hs => hmarked (.inr ⟨hst, hs⟩), fun hst hs => ?_, fun hst hs => ?_, fun hst hs hw => ?_⟩
    · have n_lt := n.isLt
      obtain ⟨hstays, hraised⟩ := h5 n hq hd ho
      unfold Slot.stays at hstays
      change (t.slots[n]'n.isLt).state = _ ∧ (t.slots[n]'n.isLt).result = _ ∧ (t.slots[n]'n.isLt).ejected = _ ∧ (t.slots[n]'n.isLt).requested = _ ∧ _
      rw [hstays]
      exact ⟨rfl, rfl, rfl, rfl, hraised⟩
    · have hlive := hbetween hst hs
      change (t.devices[d]'d.isLt).live.state = _ ∧ (t.devices[d]'d.isLt).live.stopPending = _ ∧ (t.devices[d]'d.isLt).live.confirm = _
      rw [hlive]
      exact ⟨rfl, rfl, rfl⟩
    · have hlive := hholding hst hs
      change (t.devices[d]'d.isLt).live.state = _ ∧ (t.devices[d]'d.isLt).live.stopPending = _ ∧ (t.devices[d]'d.isLt).live.settle = _ ∧
        (t.devices[d]'d.isLt).live.confirm = _
      rw [hlive]
      exact ⟨rfl, rfl, rfl, rfl⟩
    · have hlive := hqueued hst hs hw
      change (t.devices[d]'d.isLt).live.state = _ ∧ (t.devices[d]'d.isLt).live.order = _
      rw [hlive]
      exact ⟨rfl, rfl⟩
  · exact request_refused (run := cancel) h rfl (cancel_unknown hd)
  · have d_lt := d.isLt
    have n_lt := n.isLt
    have hdone := request_ok (len := 2) (run := cancel) h rfl (cancel_accepted d true (s.begun 2))
    have hclosing : Closing (cancelEjects d true (s.begun 2)) (event (cancelEjects d true) (s.begun 2)) :=
      closeEvent_closing (s.begun 2) (cancelEjects d true (s.begun 2))
    obtain ⟨hslot, hpending, ⟨hidle, howner⟩, hlive⟩ := cancelEjects_waiting (s := s.begun 2) hst ho ha hw hown hp hh
    generalize event (cancelEjects d true) (s.begun 2) = t at *
    generalize cancelEjects d true (s.begun 2) = u at *
    have hcoil : t.coils[(s.devices[d]'d.isLt).cfg.coil]'(Fin.isLt _) = u.coils[(s.devices[d]'d.isLt).cfg.coil]'(Fin.isLt _) :=
      hclosing.coils _ (.inl fun hc => CoilState.noConfusion (hidle.symm.trans hc))
    have hget : t.devices = u.devices := hclosing.devices
    rw [← hget] at hlive
    refine ⟨_, hdone, (congrArg (·[n]) hclosing.slots).trans hslot, (hclosing.pending .ejectFinished rfl).trans hpending,
      (congrArg (·.live.state) hcoil).trans hidle, (congrArg (·.live.owner) hcoil).trans howner, ?_⟩
    change (t.devices[d]'d.isLt).live.state = _ ∧ (t.devices[d]'d.isLt).live.order = _ ∧ (t.devices[d]'d.isLt).live.attemptCount = _ ∧
      (t.devices[d]'d.isLt).live.exitsInOrder = _
    rw [hlive]
    exact ⟨rfl, rfl, rfl, rfl⟩

end Sys2Proof.Machine

/-! GAME_RESET (R171): what each block's own effect leaves. -/

namespace Sys2Proof.Machine

/-! ### The devices' part (R43) -/

theorem OrderFrame.of_slots {s t : State}
    (h : ∃ (v : Vector Slot 8) (b : Bool), t = State.raiseIf { s with slots := v } b .ejectFinished) : OrderFrame s t := by
  obtain ⟨v, b, rfl⟩ := h
  exact ⟨s.devices, s.coils, v, b, rfl⟩

theorem OrderFrame.of_endRequest (c : CoilNo) (d : DevNo) (s : State) : OrderFrame s (endRequest c d s) := by
  obtain ⟨v, h⟩ := endRequest_frame c d s
  exact ⟨s.devices, v, s.slots, false, h⟩

theorem OrderFrame.of_devices (s : State) (v : Vector Device 8) : OrderFrame s { s with devices := v } :=
  ⟨v, s.coils, s.slots, false, rfl⟩

theorem OrderFrame.of_deviceRelease (own : Bool) (d : DevNo) (s : State) : OrderFrame s (deviceRelease own d s) := by
  simp only [deviceRelease]
  split
  · exact .refl s
  · split
    · exact OrderFrame.trans (.of_devices s _) (.of_devices _ _)
    · exact .of_devices s _

theorem OrderFrame.of_cancelOrder (d : DevNo) (s : State) : OrderFrame s (cancelOrder d s) := by
  have hstop : OrderFrame s (setStopPending d s) := .of_modLive d _ s
  cases hst : (s.devices[d]'d.isLt).live.state with
  | idle => rw [cancelOrder_still (.inl hst)]; exact .refl s
  | jammed => rw [cancelOrder_still (.inr (.inl hst))]; exact .refl s
  | disabled => rw [cancelOrder_still (.inr (.inr hst))]; exact .refl s
  | confirming => rw [cancelOrder_confirming hst]; exact hstop
  | ejecting =>
    have hend := hstop.trans (.of_endRequest (s.devices[d]'d.isLt).cfg.coil d (setStopPending d s))
    cases hsg : s.stage (s.devices[d]'d.isLt).cfg.coil d with
    | queued =>
      rw [cancelOrder_queued hst hsg]
      exact (OrderFrame.of_endRequest _ d s).trans (.of_endOrder d _ _)
    | closed => rw [cancelOrder_closed hst hsg]; exact .of_endOrder d _ s
    | between => rw [cancelOrder_between hst hsg]; exact hend.trans (.of_devices _ _)
    | firing => rw [cancelOrder_firing hst hsg]; exact hend
    | holding => rw [cancelOrder_holding hst hsg]; exact hend.trans (.of_deviceRelease true d _)

theorem OrderFrame.of_cancelEjects (d : DevNo) (owed : Bool) (s : State) : OrderFrame s (cancelEjects d owed s) := by
  have hempty : OrderFrame s (s.emptied d owed) := by
    have hq := OrderFrame.of_slots (cancelQueued_emptied d s).frame
    unfold State.emptied
    split
    · exact hq.trans (.of_modLive d _ _)
    · exact hq
  exact hempty.trans (.of_cancelOrder d _)

/-- CANCEL_EJECTS of several devices, one after another. -/
def cancelEach (l : List DevNo) (s : State) : State := l.foldl (fun s d => cancelEjects d true s) s

theorem resetDevices_eq (s : State) : resetDevices s = cancelEach (indices 8) s := rfl

theorem cancelEach_cons (d : DevNo) (l : List DevNo) (s : State) :
    cancelEach (d :: l) s = cancelEach l (cancelEjects d true s) := by
  rw [cancelEach, List.foldl_cons, cancelEach]

theorem cancelEach_frame (l : List DevNo) (s : State) : OrderFrame s (cancelEach l s) := by
  induction l generalizing s with
  | nil => exact .refl s
  | cons d l ih =>
    rw [cancelEach_cons]
    exact (OrderFrame.of_cancelEjects d true s).trans (ih _)

theorem cancelEach_other {l : List DevNo} {d : DevNo} (h : d ∉ l) (s : State) :
    (cancelEach l s).devices[d] = (s.devices[d]'d.isLt) := by
  induction l generalizing s with
  | nil => rfl
  | cons e l ih =>
    rw [List.mem_cons, not_or] at h
    rw [cancelEach_cons, ih h.2, (cancelEjects_cancels e true s).others d h.1]

/-- Each device stands as its own cancelling left it. -/
theorem cancelEach_device {l : List DevNo} (hl : l.Nodup) {d : DevNo} (h : d ∈ l) (s : State) :
    ∃ u : State, (u.devices[d]'d.isLt) = (s.devices[d]'d.isLt) ∧ (cancelEach l s).devices[d] = (cancelEjects d true u).devices[d] := by
  induction l generalizing s with
  | nil => exact absurd h List.not_mem_nil
  | cons e l ih =>
    obtain ⟨hel, hl⟩ := List.nodup_cons.mp hl
    rw [cancelEach_cons]
    obtain rfl | hd := List.mem_cons.mp h
    · exact ⟨s, rfl, cancelEach_other hel _⟩
    · obtain ⟨u, hu, ht⟩ := ih hl hd (cancelEjects e true s)
      rw [(cancelEjects_cancels e true s).others d fun he => hel (he ▸ hd)] at hu
      exact ⟨u, hu, ht⟩

theorem cancelEach_stays {l : List DevNo} (hl : l.Nodup) {n : SlotNo} {s : State}
    (ho : ∀ d ∈ l, (s.devices[d]'d.isLt).live.order ≠ .slot n)
    (hq : ∀ d ∈ l, ¬ ((s.slots[n]'n.isLt).state = .queued ∧ (s.slots[n]'n.isLt).device = d)) :
    (s.slots[n]'n.isLt).stays (cancelEach l s).slots[n] := by
  induction l generalizing s with
  | nil => rfl
  | cons e l ih =>
    obtain ⟨hel, hl⟩ := List.nodup_cons.mp hl
    have hc := cancelEjects_cancels e true s
    rw [cancelEach_cons]
    generalize cancelEjects e true s = u at *
    have hstays := hc.slots n (hq e List.mem_cons_self) (ho e List.mem_cons_self)
    refine hstays.trans (ih hl (fun d hd => ?_) fun d hd => ?_)
    · rw [hc.others d fun he => hel (he ▸ hd)]
      exact ho d (List.mem_cons_of_mem e hd)
    · rw [hstays]
      exact hq d (List.mem_cons_of_mem e hd)

theorem cancelEach_slot {l : List DevNo} (hl : l.Nodup) {n : SlotNo} {s : State}
    (ho : ∀ d ∈ l, (s.devices[d]'d.isLt).live.order ≠ .slot n) (hq : (s.slots[n]'n.isLt).state = .queued) (hd : (s.slots[n]'n.isLt).device ∈ l) :
    (cancelEach l s).slots[n].state = .idle ∧ (cancelEach l s).slots[n].result = .cancelled := by
  induction l generalizing s with
  | nil => exact absurd hd List.not_mem_nil
  | cons e l ih =>
    obtain ⟨hel, hl⟩ := List.nodup_cons.mp hl
    have hc := cancelEjects_cancels e true s
    rw [cancelEach_cons]
    generalize cancelEjects e true s = u at *
    have horders (d : DevNo) (hd : d ∈ l) : (u.devices[d]'d.isLt).live.order ≠ .slot n := by
      rw [hc.others d fun he => hel (he ▸ hd)]
      exact ho d (List.mem_cons_of_mem e hd)
    by_cases he : (s.slots[n]'n.isLt).device = e
    · obtain ⟨hstays, -⟩ := hc.queued n hq he (ho e List.mem_cons_self)
      have hrest := hstays.trans (cancelEach_stays hl horders fun d _ h => by
        rw [hstays] at h
        exact SlotState.noConfusion h.1)
      rw [hrest]
      exact ⟨rfl, rfl⟩
    · have hstays := hc.slots n (fun h => he h.2) (ho e List.mem_cons_self)
      refine ih hl horders ?_ ?_
      · rw [hstays]
        exact hq
      · rw [hstays]
        exact (List.mem_cons.mp hd).resolve_left he

theorem cancelEach_coil {c : CoilNo} {s : State} (l : List DevNo) (hh : (s.coils[c]'c.isLt).live.held = none)
    (ho : ∀ d : DevNo, (s.coils[c]'c.isLt).live.owner ≠ some (.device d)) : (cancelEach l s).coils[c] = (s.coils[c]'c.isLt) := by
  induction l generalizing s with
  | nil => rfl
  | cons d l ih =>
    have hc := (cancelEjects_cancels d true s).coils rfl c (by rw [hh]; exact (Option.some_ne_none d).symm) (ho d)
    rw [cancelEach_cons]
    generalize cancelEjects d true s = u at *
    rw [ih (by rw [hc]; exact hh) (by rw [hc]; exact ho), hc]

/-! ### The arbiter's part (R60) -/

/-- One coil's waiting request is withdrawn when its class is one of those named. -/
def withdrawStep (classes : List ReqClass) (s : State) (c : CoilNo) : State :=
  if (s.coils[c]'c.isLt).live.state = .waiting ∧ classes.any (fun k => (s.coils[c]'c.isLt).live.cls == some k) then enterIdle c s else s

theorem withdrawWaiting_eq (classes : List ReqClass) (s : State) :
    withdrawWaiting classes s = (indices 24).foldl (withdrawStep classes) s := rfl

theorem withdrawSteps_idle {classes : List ReqClass} {c : CoilNo} (l : List CoilNo) {s : State}
    (h : (s.coils[c]'c.isLt).live.state = .idle) : (l.foldl (withdrawStep classes) s).coils[c] = (s.coils[c]'c.isLt) := by
  have c_lt := c.isLt
  induction l generalizing s with
  | nil => rfl
  | cons e l ih =>
    have hstep : (withdrawStep classes s e).coils[c] = (s.coils[c]'c.isLt) := by
      unfold withdrawStep
      split
      · next he =>
        exact enterIdle_other s fun hc => CoilState.noConfusion (h.symm.trans (hc ▸ he.1))
      · rfl
    rw [List.foldl_cons, ih (by rw [hstep]; exact h), hstep]

/-- A waiting request of one of the classes is withdrawn; with nothing held its coil goes to IDLE. -/
theorem withdrawSteps_withdrawn {classes : List ReqClass} {c : CoilNo} {l : List CoilNo} (hl : c ∈ l) {s : State}
    {k : ReqClass} (hk : k ∈ classes) (hw : (s.coils[c]'c.isLt).live.state = .waiting) (hc : (s.coils[c]'c.isLt).live.cls = some k)
    (hh : (s.coils[c]'c.isLt).live.held = none) :
    (l.foldl (withdrawStep classes) s).coils[c] = { (s.coils[c]'c.isLt) with live := (s.coils[c]'c.isLt).live.idled } := by
  have c_lt := c.isLt
  induction l generalizing s with
  | nil => exact absurd hl List.not_mem_nil
  | cons e l ih =>
    rw [List.foldl_cons]
    by_cases he : e = c
    · subst he
      have hstep : (withdrawStep classes s e).coils[e] = { (s.coils[e]'e.isLt) with live := (s.coils[e]'e.isLt).live.idled } := by
        rw [withdrawStep, if_pos ⟨hw, List.any_eq_true.mpr ⟨k, hk, beq_iff_eq.mpr hc⟩⟩, enterIdle_of_none hh,
          State.modCoilLive_get, if_pos rfl]
      rw [withdrawSteps_idle l (by rw [hstep]; rfl), hstep]
    · have hstep : (withdrawStep classes s e).coils[c] = (s.coils[c]'c.isLt) := by
        unfold withdrawStep
        split
        · exact enterIdle_other s fun hce => he hce.symm
        · rfl
      rw [ih ((List.mem_cons.mp hl).resolve_left fun h => he h.symm) (by rw [hstep]; exact hw) (by rw [hstep]; exact hc)
        (by rw [hstep]; exact hh), hstep]

theorem withdrawWaiting_withdrawn {classes : List ReqClass} {c : CoilNo} {s : State} {k : ReqClass} (hk : k ∈ classes)
    (hw : (s.coils[c]'c.isLt).live.state = .waiting) (hc : (s.coils[c]'c.isLt).live.cls = some k) (hh : (s.coils[c]'c.isLt).live.held = none) :
    (withdrawWaiting classes s).coils[c] = { (s.coils[c]'c.isLt) with live := (s.coils[c]'c.isLt).live.idled } :=
  withdrawSteps_withdrawn (mem_indices c) hk hw hc hh

/-! ### The whole effect before the modes close (R171) -/

/-- What the devices' part leaves. -/
structure DevicesReset (s t : State) : Prop where
  device : ∀ d : DevNo, (t.devices[d]'d.isLt).cfg = (s.devices[d]'d.isLt).cfg ∧
    (t.devices[d]'d.isLt).live.occupancy = (s.devices[d]'d.isLt).live.occupancy ∧ (t.devices[d]'d.isLt).live.owed = 0 ∧
    ((s.devices[d]'d.isLt).live.state = .jammed → (t.devices[d]'d.isLt).live = (s.devices[d]'d.isLt).live.forgiven true) ∧
    ((s.devices[d]'d.isLt).live.state = .confirming →
      (t.devices[d]'d.isLt).live = { (s.devices[d]'d.isLt).live.forgiven true with stopPending := true })
  slot : ∀ n : SlotNo, (s.slots[n]'n.isLt).state = .queued → (∀ d : DevNo, (s.devices[d]'d.isLt).live.order ≠ .slot n) →
    (t.slots[n]'n.isLt).state = .idle ∧ (t.slots[n]'n.isLt).result = .cancelled
  coil : ∀ c : CoilNo, (s.coils[c]'c.isLt).live.held = none → (∀ d : DevNo, (s.coils[c]'c.isLt).live.owner ≠ some (.device d)) →
    (t.coils[c]'c.isLt) = (s.coils[c]'c.isLt)

theorem resetDevices_resets (s : State) : DevicesReset s (resetDevices s) := by
  rw [resetDevices_eq]
  refine ⟨fun d => ?_, fun n hq ho => ?_, fun c => cancelEach_coil _⟩
  · obtain ⟨u, hu, ht⟩ := cancelEach_device (nodup_indices 8) (mem_indices d) s
    obtain ⟨-, hcfg, hocc, howed, -, -, -⟩ := cancelEjects_cancels d true u
    obtain ⟨hstill, hmarked, -, -, -⟩ := cancelEjects_stages d true u
    rw [hu] at hcfg hocc hstill hmarked
    rw [ht]
    generalize cancelEjects d true u = w at *
    exact ⟨hcfg, hocc, howed, fun h => hstill (.inr (.inl h)), fun h => hmarked (.inl h)⟩
  · exact cancelEach_slot (nodup_indices 8) (fun d _ => ho d) hq (mem_indices _)

/-- The records of a game reset before the accounting's part and the modes'. -/
def State.gameCancelled (s : State) : State :=
  withdrawWaiting [.search, .direct] (resetDevices { resetSession s with activity := 0, awardHits := 0 })

/-- What a reset leaves before the accounting's part. -/
structure GameCancelled (s t : State) : Prop where
  frame : ∃ (devices : Vector Device 8) (coils : Vector Coil 24) (slots : Vector Slot 8) (b : Bool),
    t = State.raiseIf { resetSession s with
      activity := 0, awardHits := 0, devices := devices, coils := coils, slots := slots } b .ejectFinished
  device : ∀ d : DevNo, (t.devices[d]'d.isLt).cfg = (s.devices[d]'d.isLt).cfg ∧
    (t.devices[d]'d.isLt).live.occupancy = (s.devices[d]'d.isLt).live.occupancy ∧ (t.devices[d]'d.isLt).live.owed = 0 ∧
    ((s.devices[d]'d.isLt).live.state = .jammed → (t.devices[d]'d.isLt).live = (s.devices[d]'d.isLt).live.forgiven true) ∧
    ((s.devices[d]'d.isLt).live.state = .confirming →
      (t.devices[d]'d.isLt).live = { (s.devices[d]'d.isLt).live.forgiven true with stopPending := true })
  slot : ∀ n : SlotNo, (s.slots[n]'n.isLt).state = .queued → (∀ d : DevNo, (s.devices[d]'d.isLt).live.order ≠ .slot n) →
    (t.slots[n]'n.isLt).state = .idle ∧ (t.slots[n]'n.isLt).result = .cancelled
  coilCfg : ∀ c : CoilNo, (t.coils[c]'c.isLt).cfg = (s.coils[c]'c.isLt).cfg
  coil : ∀ c : CoilNo, (s.coils[c]'c.isLt).live.state = .waiting → (s.coils[c]'c.isLt).live.held = none →
    (s.coils[c]'c.isLt).live.cls = some .search ∨ (s.coils[c]'c.isLt).live.cls = some .direct →
    (∀ d : DevNo, (s.coils[c]'c.isLt).live.owner ≠ some (.device d)) →
    (t.coils[c]'c.isLt) = { (s.coils[c]'c.isLt) with live := (s.coils[c]'c.isLt).live.idled }

theorem gameCancelled_cancels (s : State) : GameCancelled s s.gameCancelled := by
  unfold State.gameCancelled
  obtain ⟨hdevice, hslot, hcoil⟩ := resetDevices_resets { resetSession s with activity := 0, awardHits := 0 }
  have hframe : OrderFrame { resetSession s with activity := 0, awardHits := 0 }
      (resetDevices { resetSession s with activity := 0, awardHits := 0 }) := by
    rw [resetDevices_eq]
    exact cancelEach_frame _ _
  have hcfg := (resetDevices_quiet (fun _ => False) { resetSession s with activity := 0, awardHits := 0 }).coilCfg
  generalize resetDevices { resetSession s with activity := 0, awardHits := 0 } = u at *
  obtain ⟨v, hv⟩ := withdrawWaiting_frame [.search, .direct] u
  have hcfg' := (withdrawWaiting_quiet (fun _ => False) [.search, .direct] u).coilCfg
  have hdevices : (withdrawWaiting [.search, .direct] u).devices = u.devices := by rw [hv]
  have hslots : (withdrawWaiting [.search, .direct] u).slots = u.slots := by rw [hv]
  refine ⟨?_, ?_, ?_, fun c => (hcfg' c).trans (hcfg c), fun c hw hh hc ho => ?_⟩
  · obtain ⟨devices, coils, slots, b, rfl⟩ := hframe
    refine ⟨devices, v, slots, b, ?_⟩
    rw [hv]
    cases b <;> rfl
  · rw [hdevices]
    exact hdevice
  · rw [hslots]
    exact hslot
  · have hsame : (u.coils[c]'c.isLt) = (s.coils[c]'c.isLt) := hcoil c hh ho
    rw [← hsame] at hw hh hc ⊢
    obtain hc | hc := hc
    · exact withdrawWaiting_withdrawn (k := .search) (by simp) hw hc hh
    · exact withdrawWaiting_withdrawn (k := .direct) (by simp) hw hc hh

/-- What a reset leaves before the modes close. -/
structure ResetWork (s t : State) : Prop where
  cancelled : ∃ u : State, GameCancelled s u ∧ t.devices = u.devices ∧ t.slots = u.slots ∧
    (∀ c : CoilNo, (t.coils[c]'c.isLt).cfg = (u.coils[c]'c.isLt).cfg) ∧
    (∀ c : CoilNo, (u.coils[c]'c.isLt).live.state = .idle → (t.coils[c]'c.isLt) = (u.coils[c]'c.isLt))
  kept : t.kept = s.kept
  session : t.session = { s.session with state := .closed, tilt := .normal, warnings := 0, swing := ⟨0, false, false⟩ }
  game : t.activity = 0 ∧ t.awardHits = 0 ∧ t.pfMult = 1 ∧ t.pfTimer = 0
  counts : t.acct.installed = s.acct.installed ∧ t.acct.live = 0 ∧ t.acct.flights = [] ∧
    t.acct.missing = s.acct.missing + s.acct.live + s.acct.flights.length
  play : t.acct.phase = .noPlay ∧ t.acct.multiball = false ∧ t.acct.saveState = .off ∧ t.acct.savesUsed = 0 ∧
    t.acct.search = .idle
  page : ∀ p : PlayerNo, (t.pages[p]'p.isLt) = (s.pages[p]'p.isLt).gameReset
  notices : t.notices.enable = s.notices.enable ∧ t.notices.route = s.notices.route

theorem resetBeforeModes_work (s : State) : ResetWork s (resetBeforeModes s) := by
  have hcancel := gameCancelled_cancels s
  have hkept : s.gameCancelled.kept = s.kept :=
    (((resetDevices_quiet (fun _ => False) { resetSession s with activity := 0, awardHits := 0 }).trans
      (withdrawWaiting_quiet _ [.search, .direct] _)).kept)
  have hreset : resetBeforeModes s = resetPages (setPfMult 1 0 (resetAccounting s.gameCancelled)) := rfl
  rw [hreset]
  generalize s.gameCancelled = u at *
  have hcoils := (endSearch_closing u).coils
  have hcfg := (endSearch_quiet (fun _ => False) u).coilCfg
  have hinstalled := (endSearch_closing u).installed
  obtain ⟨coils, acct, hend, hsearch, -, -, -, hlive, hmissing, hflights⟩ := endSearch_acct u
  rw [hend] at hcoils hcfg hinstalled
  have hframe := hcancel.frame
  simp only [resetAccounting, hend]
  have hacct : u.acct = s.acct := by
    obtain ⟨devices, coils', slots, b, h⟩ := hframe
    rw [h, State.raiseIf_acct]
    rfl
  have hsession : u.session = (resetSession s).session := by
    obtain ⟨devices, coils', slots, b, h⟩ := hframe
    rw [h, State.raiseIf_session]
  have hgame : u.activity = 0 ∧ u.awardHits = 0 ∧ u.pages = s.pages := by
    obtain ⟨devices, coils', slots, b, h⟩ := hframe
    rw [h, State.raiseIf_activity, State.raiseIf_awardHits, State.raiseIf_pages]
    exact ⟨rfl, rfl, rfl⟩
  have hnotices : u.notices.enable = s.notices.enable ∧ u.notices.route = s.notices.route := by
    obtain ⟨devices, coils', slots, b, h⟩ := hframe
    rw [h]
    cases b <;> exact ⟨rfl, rfl⟩
  obtain ⟨hactivity, hhits, hpages⟩ := hgame
  rw [hacct] at hlive hmissing hflights hinstalled
  refine ⟨⟨u, hcancel, rfl, rfl, hcfg, fun c hc => hcoils c (.inl (by rw [hc]; exact CoilState.noConfusion))⟩, hkept,
    hsession, ⟨hactivity, hhits, rfl, rfl⟩, ⟨hinstalled, rfl, rfl, ?_⟩, ⟨rfl, rfl, rfl, rfl, hsearch⟩, fun p => ?_, hnotices⟩
  · change acct.missing + acct.flights.length + acct.live = _
    rw [hmissing, hflights, hlive]
    omega
  · rw [resetPages_get, ← hpages]
    rfl

theorem closeModes_game (s : State) : (closeModes s).kept = s.kept ∧ (closeModes s).activity = s.activity ∧
    (closeModes s).awardHits = s.awardHits ∧ (closeModes s).pfMult = s.pfMult ∧ (closeModes s).pfTimer = s.pfTimer ∧
    (closeModes s).notices.enable = s.notices.enable ∧ (closeModes s).notices.route = s.notices.route := by
  rw [closeModes_eq]
  cases s.anyMode <;> exact ⟨rfl, rfl, rfl, rfl, rfl, rfl, rfl⟩

/-- A reset ends with the balls in play formed and every timer held. -/
theorem gameReset_closed {s : State} {w : State} (hw : closeModes (resetBeforeModes s) = w) (hp : w.acct.phase = .noPlay) :
    gameReset s = holdTimers (w.modAcct fun a => { a with inPlay := w.ballsInPlay }) := by
  rw [gameReset_eq, hw]
  simp only [formPlay, State.modAcct_acct, hp]

/-- Settles O46. -/
theorem gameResetKeepsTheConfiguration : Obligations.GameResetKeepsTheConfiguration := by
  unfold Obligations.GameResetKeepsTheConfiguration
  intro s h
  have hdone := request_ok (len := 0) (body := []) (run := fun _ s => ok (gameReset s) []) h rfl rfl
  obtain ⟨⟨u, hu, hdevices, hslots, hcfg, hidle⟩, hkept, hsession, ⟨hactivity, hhits, hmult, htimer⟩, hcounts, hplay, hpage,
    henable, hroute⟩ := resetBeforeModes_work (s.begun 0)
  have hclosed := gameReset_closed (s := s.begun 0) rfl ((congrArg (·.phase) (closeModes_frame _).2.1).trans hplay.1)
  rw [hclosed] at hdone
  generalize resetBeforeModes (s.begun 0) = v at *
  obtain ⟨hs1, hacct, hd1, hsl1, hc1, hlink⟩ := closeModes_frame v
  obtain ⟨hk1, ha1, hh1, hm1, ht1, he1, hr1⟩ := closeModes_game v
  have hheld := closeModes_held_page v (t := (closeModes v).modAcct fun a =>
    { a with inPlay := (closeModes v).ballsInPlay }) rfl
  have hraised := closeModes_isPending v .modeEnded
  generalize closeModes v = w at *
  have hwkept : w.kept = (s.begun 0).kept := hk1.trans hkept
  obtain ⟨hinstalled, hlive, hflights, hmissing⟩ := hcounts
  obtain ⟨hphase, hmulti, hsave, hused, hsearch⟩ := hplay
  rw [← hacct] at hinstalled hlive hflights hmissing hphase hmulti hsave hused hsearch
  have hdevs : w.devices = u.devices := hd1.trans hdevices
  have hslts : w.slots = u.slots := hsl1.trans hslots
  refine ⟨_, hdone, prepare_link 0 _ (congrArg Kept.link hwkept), hs1.trans hsession, ha1.trans hactivity, hh1.trans hhits,
    hm1.trans hmult, ht1.trans htimer, fun d => ?_, fun n hq ho => ?_, fun c => ?_, hinstalled, hlive, hflights, hmissing,
    hphase, hmulti, hsave, hused, hsearch, rfl, fun p => ?_, fun hp => ?_, congrArg Kept.switches hwkept,
    congrArg Kept.windows hwkept, congrArg Kept.awards hwkept, congrArg Kept.templates hwkept,
    congrArg Kept.options hwkept, he1.trans henable, hr1.trans hroute⟩
  · have hdevice := hu.device d
    rw [← hdevs] at hdevice
    exact hdevice
  · have hslot := hu.slot n hq ho
    rw [← hslts] at hslot
    exact hslot
  · have c_lt := c.isLt
    refine ⟨(congrArg (·[c].cfg) hc1).trans ((hcfg c).trans (hu.coilCfg c)), fun hw hh hcls ho => ?_⟩
    have hcoil := hu.coil c hw hh hcls ho
    have hsame : (w.coils[c]'c.isLt) = (u.coils[c]'c.isLt) := (congrArg (·[c]) hc1).trans (hidle c (by rw [hcoil]; rfl))
    exact ⟨(congrArg (·.live.state) (hsame.trans hcoil)), congrArg (·.live.owner) (hsame.trans hcoil)⟩
  · obtain ⟨hstack, hscore, hroll, hlit, hcredits, hsame, hlast⟩ := hheld p
    rw [hpage p] at hscore hroll hlit hcredits hsame hlast
    have p_lt := p.isLt
    refine ⟨hscore, hroll, hstack, fun k => ⟨?_, ?_⟩, fun hnil => (hsame hnil).trans ?_, fun c hc => hlast c hc⟩
    · refine (congrArg (·[k]'k.2) hlit).trans ?_
      simp [Page.gameReset]
    · refine (congrArg (·[k]'k.2) hcredits).trans ?_
      simp [Page.gameReset]
    · have hnone : (s.pages[p]'p.isLt).stack.isEmpty = true := List.isEmpty_iff.mpr hnil
      exact if_pos hnone
  · have hany : v.anyMode = true := v.anyMode_iff.mpr (by
      obtain ⟨p, hp⟩ := hp
      exact ⟨p, fun hnil => hp ((congrArg Page.stack (hpage p)).symm.trans hnil)⟩)
    refine hraised.trans ?_
    rw [hany]
    simp

end Sys2Proof.Machine

/-! ### The ticks of a scan frame (spec/00_scope.md, "Time") -/

namespace Sys2Proof.Machine

/-- Whether the frame that begins carries a 10 ms tick. -/
def State.tenth (s : State) : Bool := decide ((s.tickPhase + 1) % 100 % 10 = 0)

/-- Whether the frame that begins carries a 100 ms tick. -/
def State.hundredth (s : State) : Bool := decide ((s.tickPhase + 1) % 100 = 0)

/-- The frame count and the 1 ms tick of a scan frame. -/
def startTick1 (s : State) : State :=
  tick1 { s with frameCount := s.frameCount + 1, tickPhase := (s.tickPhase + 1) % 100 }

/-- Every 100 ms tick falls on a 10 ms tick. -/
theorem startFrame_cases (s : State) :
    (s.tenth = false ∧ s.hundredth = false ∧ startFrame s = startTick1 s) ∨
      (s.tenth = true ∧ s.hundredth = false ∧ startFrame s = tick10 (startTick1 s)) ∨
      (s.tenth = true ∧ s.hundredth = true ∧ startFrame s = tick100 (tick10 (startTick1 s))) := by
  by_cases h100 : (s.tickPhase + 1) % 100 = 0
  · have h10 : (s.tickPhase + 1) % 100 % 10 = 0 := by rw [h100]
    exact .inr (.inr ⟨decide_eq_true h10, decide_eq_true h100, (if_pos h100).trans (congrArg tick100 (if_pos h10))⟩)
  · by_cases h10 : (s.tickPhase + 1) % 100 % 10 = 0
    · exact .inr (.inl ⟨decide_eq_true h10, decide_eq_false h100, (if_neg h100).trans (if_pos h10)⟩)
    · exact .inl ⟨decide_eq_false h10, decide_eq_false h100, (if_neg h100).trans (if_neg h10)⟩

/-! #### One timer, one coil, one record, one context -/

theorem Timer.tick_eq (r : Timer) : r.tick =
    if r.running = false ∨ r.due = true then r else if r.count ≤ 1 then { r with due := true }
    else { r with count := r.count - 1 } := by
  have hiff : (!r.running || r.due) = true ↔ (r.running = false ∨ r.due = true) := by simp
  rw [Timer.tick]
  exact if_congr hiff rfl rfl

/-- What a 1 ms tick leaves of a waiting coil. -/
def CoilLive.aged (l : CoilLive) : CoilLive :=
  { l with age := if l.ageDue = true ∨ 7 ≤ l.age then l.age else l.age + 1, ageDue := l.ageDue || decide (7 ≤ l.age) }

theorem CoilLive.aged_due {l : CoilLive} (h : l.ageDue = true) : l.aged = l := by
  have hage : (if l.ageDue = true ∨ 7 ≤ l.age then l.age else l.age + 1) = l.age := if_pos (.inl h)
  have hdue : (l.ageDue || decide (7 ≤ l.age)) = l.ageDue := by simp [h]
  rw [CoilLive.aged, hage, hdue]

theorem CoilLive.aged_old {l : CoilLive} (h : 7 ≤ l.age) : l.aged = { l with ageDue := true } := by
  have hage : (if l.ageDue = true ∨ 7 ≤ l.age then l.age else l.age + 1) = l.age := if_pos (.inr h)
  have hdue : (l.ageDue || decide (7 ≤ l.age)) = true := by simp [h]
  rw [CoilLive.aged, hage, hdue]

theorem CoilLive.aged_young {l : CoilLive} (hd : ¬ l.ageDue = true) (h : ¬ 7 ≤ l.age) :
    l.aged = { l with age := l.age + 1 } := by
  have hage : (if l.ageDue = true ∨ 7 ≤ l.age then l.age else l.age + 1) = l.age + 1 := if_neg (by simp [hd, h])
  have hdue : (l.ageDue || decide (7 ≤ l.age)) = l.ageDue := by simp [h]
  rw [CoilLive.aged, hage, hdue]

theorem Coil.tick1_waiting {v : Coil} (h : v.live.state = .waiting) : v.tick1 = { v with live := v.live.aged } := by
  unfold Coil.tick1
  split
  · by_cases hdue : v.live.ageDue = true
    · rw [if_pos hdue, CoilLive.aged_due hdue]
    · by_cases hage : 7 ≤ v.live.age
      · rw [if_neg hdue, if_pos hage, CoilLive.aged_old hage]
      · rw [if_neg hdue, if_neg hage, CoilLive.aged_young hdue hage]
  · next hs => exact absurd (h.symm.trans hs) CoilState.noConfusion
  · next hs _ => exact (hs h).elim

theorem Coil.tick1_holding {v : Coil} (h : v.live.state = .holding) : v.tick1 = v := by
  simp only [Coil.tick1, h]

theorem Coil.tick10_of_ne {v : Coil} (h : v.live.state ≠ .holding) : v.tick10 = v := if_neg h

/-- A coil after the ticks of a frame that carries a 10 ms tick (`ten`) or does not (R45, R49, R53). -/
def Coil.ticked (ten : Bool) (v : Coil) : Coil := if ten then v.tick1.tick10 else v.tick1

theorem Coil.ticked_of_ne {v : Coil} (ten : Bool) (h : v.live.state ≠ .holding) : v.ticked ten = v.tick1 := by
  rw [Coil.ticked, Coil.tick10_of_ne (by rwa [Coil.tick1_state]), ite_self]

theorem Coil.ticked_eq (ten : Bool) (v : Coil) : v.ticked ten =
    { v with live := match v.live.state with
        | .waiting => v.live.aged
        | .holding => { v.live with timer := if ten then v.live.timer.tick else v.live.timer }
        | _ => { v.live with timer := v.live.timer.tick } } := by
  split
  · next hw => rw [Coil.ticked_of_ne ten (hw ▸ CoilState.noConfusion), Coil.tick1_waiting hw]
  · next hh =>
    rw [Coil.ticked, Coil.tick1_holding hh, Coil.tick10, if_pos hh]
    cases ten with
    | true => rfl
    | false => rfl
  · next hw hh =>
    rw [Coil.ticked_of_ne ten hh, Coil.tick1]
    split
    · next hs => exact absurd hs hw
    · next hs => exact absurd hs hh
    · rfl

theorem FlightRec.tick_eq (r : FlightRec) : r.tick =
    if r.due = true then r else if r.remaining ≤ 1 then { r with due := true }
    else { r with remaining := r.remaining - 1 } := rfl

/-- A RUNNING context after a 10 ms tick (R132, R146). -/
def Context.counted (c : Context) : Context :=
  let period : Bool := decide (c.tpl.hurryFloor < c.hurry ∧ 0 < c.tpl.hurryStep)
  { c with
    timer := if c.timed = true ∧ c.timerDue = false ∧ 2 ≤ c.timer then c.timer - 1 else c.timer,
    timerDue := c.timerDue || (c.timed && decide (c.timer ≤ 1)),
    hurryRemaining := if period ∧ c.hurryDue = false ∧ 2 ≤ c.hurryRemaining then c.hurryRemaining - 1
      else c.hurryRemaining,
    hurryDue := c.hurryDue || (period && decide (c.hurryRemaining ≤ 1)) }

/-- A context after the timer's part of a tick. -/
def Context.timerCounted (c : Context) : Context :=
  { c with
    timer := if c.timed = true ∧ c.timerDue = false ∧ 2 ≤ c.timer then c.timer - 1 else c.timer,
    timerDue := c.timerDue || (c.timed && decide (c.timer ≤ 1)) }

theorem Context.timerCounted_eq (c : Context) :
    (if !c.timed || c.timerDue then c
      else if c.timer ≤ 1 then { c with timerDue := true } else { c with timer := c.timer - 1 }) = c.timerCounted := by
  unfold Context.timerCounted
  obtain ⟨id, tpl, timed, timer, due⟩ := c
  cases timed with
  | false => simp
  | true =>
    cases due with
    | true => simp
    | false =>
      by_cases hle : timer ≤ 1
      · simp [hle, show ¬ 2 ≤ timer by omega]
      · simp [hle, show 2 ≤ timer by omega]

/-- The hurry period's part of a tick. -/
theorem Context.hurry_part (c : Context) (runs : Bool) :
    (if !runs || c.hurryDue then c
      else if c.hurryRemaining ≤ 1 then { c with hurryDue := true }
      else { c with hurryRemaining := c.hurryRemaining - 1 }) =
      { c with
        hurryRemaining := if runs = true ∧ c.hurryDue = false ∧ 2 ≤ c.hurryRemaining then c.hurryRemaining - 1
          else c.hurryRemaining,
        hurryDue := c.hurryDue || (runs && decide (c.hurryRemaining ≤ 1)) } := by
  obtain ⟨id, tpl, timed, timer, due, paused, progress, jackpot, hurry, remaining, hdue⟩ := c
  cases runs with
  | false => simp
  | true =>
    cases hdue with
    | true => simp
    | false =>
      by_cases hle : remaining ≤ 1
      · simp [hle, show ¬ 2 ≤ remaining by omega]
      · simp [hle, show 2 ≤ remaining by omega]

theorem Context.hurryRuns_eq (c : Context) :
    c.hurryRuns = decide (c.tpl.hurryFloor < c.hurry ∧ 0 < c.tpl.hurryStep) := by simp [Context.hurryRuns]

theorem Context.tick10_eq (c : Context) : c.tick10 = c.counted := by
  have hruns : c.timerCounted.hurryRuns = decide (c.tpl.hurryFloor < c.hurry ∧ 0 < c.tpl.hurryStep) :=
    c.timerCounted.hurryRuns_eq
  unfold Context.tick10
  rw [Context.timerCounted_eq]
  refine (c.timerCounted.hurry_part c.timerCounted.hurryRuns).trans ?_
  rw [hruns]
  rfl

/-- A context of a stack that counts, after the tick. -/
theorem tickStack_getElem? (beneath above : List Context) (c : Context) :
    (tickStack (beneath ++ c :: above))[beneath.length]? =
      some (if c.paused = true ∨ ∃ x ∈ above, x.tpl.stacking = .exclusive then c else c.counted) := by
  rw [tickStack, List.getElem?_map, derived_append, Option.map_some, runState_eq]
  simp only [Context.tick10_eq]
  by_cases hp : c.paused = true
  · rw [if_pos hp, if_pos (Or.inl hp)]
    rfl
  · by_cases hx : ∃ x ∈ above, x.tpl.stacking = .exclusive
    · rw [if_neg hp, if_pos hx, if_pos (Or.inr hx)]
      rfl
    · rw [if_neg hp, if_neg hx, if_neg (not_or.mpr ⟨hp, hx⟩)]
      rfl

/-! #### The records of the state after the ticks -/

section
variable (s : State)

theorem startFrame_coil (c : CoilNo) : (startFrame s).coils[c]'c.isLt = (s.coils[c]'c.isLt).ticked s.tenth := by
  have hone : (startTick1 s).coils[c]'c.isLt = (s.coils[c]'c.isLt).tick1 := by simp [startTick1, tick1]
  have hten : (tick10 (startTick1 s)).coils[c]'c.isLt = (s.coils[c]'c.isLt).tick1.tick10 := by
    simp [tick10, startTick1, tick1]
  obtain ⟨ht, -, he⟩ | ⟨ht, -, he⟩ | ⟨ht, -, he⟩ := startFrame_cases s
  · rw [he, ht, hone]
    rfl
  · rw [he, ht, hten]
    rfl
  · rw [he, ht]
    exact hten

theorem startFrame_device (d : DevNo) : (startFrame s).devices[d]'d.isLt =
    if s.tenth then (s.devices[d]'d.isLt).tick10 else s.devices[d]'d.isLt := by
  have hten : (tick10 (startTick1 s)).devices[d]'d.isLt = (s.devices[d]'d.isLt).tick10 := by
    simp [tick10, startTick1, tick1]
  obtain ⟨ht, -, he⟩ | ⟨ht, -, he⟩ | ⟨ht, -, he⟩ := startFrame_cases s
  · rw [he, ht]
    rfl
  · rw [he, ht, hten, if_pos rfl]
  · rw [he, ht, if_pos rfl]
    exact hten

theorem startFrame_acct : (startFrame s).acct =
    { s.acct with
      flights := if s.hundredth then s.acct.flights.map FlightRec.tick else s.acct.flights,
      saveTimer := if s.tenth ∧ s.saveCounts then s.acct.saveTimer.tick else s.acct.saveTimer,
      idleTimer := if s.hundredth ∧ s.idleCounts then s.acct.idleTimer.tick else s.acct.idleTimer,
      searchTimer := if (if s.acct.searchSlow then s.hundredth else s.tenth) then s.acct.searchTimer.tick
        else s.acct.searchTimer } := by
  have hten : (tick10 (startTick1 s)).acct = { s.acct with
      saveTimer := if s.saveCounts then s.acct.saveTimer.tick else s.acct.saveTimer,
      searchTimer := if s.acct.searchSlow then s.acct.searchTimer else s.acct.searchTimer.tick } := rfl
  have hidle : (tick10 (startTick1 s)).idleCounts = s.idleCounts := rfl
  obtain ⟨ht, hh, he⟩ | ⟨ht, hh, he⟩ | ⟨ht, hh, he⟩ := startFrame_cases s
  · rw [he, ht, hh]
    simp only [Bool.false_eq_true, false_and, if_false, ite_self]
    rfl
  · rw [he, ht, hh, hten]
    cases s.acct.searchSlow with
    | true => simp
    | false => simp
  · rw [he, ht, hh]
    simp only [tick100, State.modAcct, hidle, hten]
    cases s.acct.searchSlow with
    | true => simp
    | false => simp

theorem startFrame_session : (startFrame s).session =
    { s.session with swing := if s.tenth then s.session.swing.tick else s.session.swing } := by
  obtain ⟨ht, -, he⟩ | ⟨ht, -, he⟩ | ⟨ht, -, he⟩ := startFrame_cases s <;> rw [he, ht] <;> rfl

theorem startFrame_groups : (startFrame s).groupA = { s.groupA with gap := s.groupA.gap.tick } ∧
    (startFrame s).groupB = { s.groupB with gap := s.groupB.gap.tick } := by
  obtain ⟨-, -, he⟩ | ⟨-, -, he⟩ | ⟨-, -, he⟩ := startFrame_cases s <;> rw [he] <;> exact ⟨rfl, rfl⟩

theorem startFrame_clock : (startFrame s).frameCount = s.frameCount + 1 ∧
    (startFrame s).tickPhase = (s.tickPhase + 1) % 100 := by
  obtain ⟨-, -, he⟩ | ⟨-, -, he⟩ | ⟨-, -, he⟩ := startFrame_cases s <;> rw [he] <;> exact ⟨rfl, rfl⟩

theorem startFrame_pf :
    (startFrame s).pfTimer = (if (s.tenth && s.pfCounts) ∧ 2 ≤ s.pfTimer then s.pfTimer - 1 else s.pfTimer) ∧
      (startFrame s).pfDue = (s.pfDue || ((s.tenth && s.pfCounts) && decide (s.pfTimer = 1))) := by
  have hten : (tick10 (startTick1 s)).pfTimer = (if s.pfCounts && decide (2 ≤ s.pfTimer) then s.pfTimer - 1
      else s.pfTimer) ∧ (tick10 (startTick1 s)).pfDue = (s.pfDue || (s.pfCounts && s.pfTimer == 1)) := ⟨rfl, rfl⟩
  have hcounts (b : Bool) : (b && decide (2 ≤ s.pfTimer)) = true ↔ (true && b) = true ∧ 2 ≤ s.pfTimer := by simp
  have hdone : (tick10 (startTick1 s)).pfTimer = (if (true && s.pfCounts) ∧ 2 ≤ s.pfTimer then s.pfTimer - 1
      else s.pfTimer) ∧
      (tick10 (startTick1 s)).pfDue = (s.pfDue || ((true && s.pfCounts) && decide (s.pfTimer = 1))) :=
    ⟨hten.1.trans (if_congr (hcounts _) rfl rfl), hten.2⟩
  obtain ⟨ht, -, he⟩ | ⟨ht, -, he⟩ | ⟨ht, -, he⟩ := startFrame_cases s
  · rw [he, ht]
    simp only [Bool.false_and, Bool.or_false, Bool.false_eq_true, false_and, if_false]
    exact ⟨rfl, rfl⟩
  · rw [he, ht]
    exact hdone
  · rw [he, ht]
    exact hdone

theorem startFrame_pages : (startFrame s).pages = if s.tenth ∧ s.modesCount
    then s.pages.set s.session.current { s.page with stack := tickStack s.page.stack } else s.pages := by
  have hten : (tick10 (startTick1 s)).pages = if s.modesCount
      then s.pages.set s.session.current { s.page with stack := tickStack s.page.stack } else s.pages := rfl
  have hcounts : s.modesCount = true ↔ (true = true ∧ s.modesCount = true) := by simp
  obtain ⟨ht, -, he⟩ | ⟨ht, -, he⟩ | ⟨ht, -, he⟩ := startFrame_cases s
  · rw [he, ht, if_neg (by simp)]
    rfl
  · rw [he, ht]
    exact hten.trans (if_congr hcounts rfl rfl)
  · rw [he, ht]
    exact hten.trans (if_congr hcounts rfl rfl)

theorem startFrame_rest : (startFrame s).slots = s.slots ∧ (startFrame s).notices = s.notices ∧
    (startFrame s).link = s.link := by
  obtain ⟨-, -, he⟩ | ⟨-, -, he⟩ | ⟨-, -, he⟩ := startFrame_cases s <;> rw [he] <;> exact ⟨rfl, rfl, rfl⟩

end

/-! #### The counting conditions -/

theorem State.saveCounts_iff (s : State) : s.saveCounts = true ↔
    (s.acct.saveState = .active ∧ 1 ≤ s.acct.live ∧ s.session.tilt ≠ .tilted) ∨ s.acct.saveState = .grace := by
  unfold State.saveCounts
  cases s.acct.saveState <;> simp [State.isTilted]

theorem State.idleCounts_iff (s : State) : s.idleCounts = true ↔
    s.acct.phase = .play ∧ s.acct.search = .idle ∧ 1 ≤ s.acct.live + s.acct.missing := by
  simp [State.idleCounts, and_assoc]

theorem State.pfCounts_eq (s : State) :
    s.pfCounts = (decide (1 ≤ s.acct.live) && decide (s.session.tilt ≠ .tilted)) := by
  simp [State.pfCounts, State.isTilted, Bool.beq_eq_decide_eq]

theorem State.modesCount_iff (s : State) : s.modesCount = true ↔
    s.session.state = .opened ∧ s.acct.phase = .play ∧ 1 ≤ s.acct.live ∧ s.session.tilt ≠ .tilted := by
  simp [State.modesCount, State.isOpen, State.isTilted, and_assoc]

theorem flights_ticked (hundred : Bool) (l : List FlightRec) :
    (if hundred then l.map FlightRec.tick else l) = l.map fun r =>
      if hundred = false ∨ r.due = true then r else if r.remaining ≤ 1 then { r with due := true }
      else { r with remaining := r.remaining - 1 } := by
  cases hundred with
  | false => simp
  | true =>
    refine List.map_congr_left fun r _ => ?_
    rw [FlightRec.tick_eq]
    exact if_congr (by simp) rfl rfl

/-! #### A frame that reads every level as it stands (R3) -/

theorem debounce_of_level {r : SwitchRec} {closed : Bool} (h : closed = true ↔ r.level = .closed) (stamp : Stamp) :
    r.debounce closed stamp = ({ r with pendingFrames := 0 }, none) := by
  have hlevel : levelOf closed = r.level := by
    cases closed with
    | true => exact (h.mp rfl).symm
    | false =>
      cases hl : r.level with
      | closed => exact absurd (h.mpr hl) Bool.false_ne_true
      | opened => rfl
  rw [SwitchRec.debounce, if_pos hlevel]

section
variable {s : State} {raw : BitVec 128}
  (h : ∀ n : SwitchNo, raw.getLsbD n.val = true ↔ (s.switches[n]'n.isLt).level = .closed)
include h

theorem acceptedEdges_quiet : acceptedEdges raw s = [] := by
  refine List.filterMap_eq_nil_iff.mpr fun n _ => ?_
  rw [debounce_of_level (h n)]
  rfl

theorem debounceAll_quiet : debounceAll raw s =
    { s with switches := s.switches.map fun r => { r with pendingFrames := 0 } } := by
  have hvec : (Vector.ofFn fun n : Fin 128 => ((s.switches[n]'n.isLt).debounce (raw.getLsbD n.val) s.frameCount).1) =
      s.switches.map fun r => { r with pendingFrames := 0 } := by
    refine Vector.ext fun n hn => ?_
    rw [Vector.getElem_ofFn, debounce_of_level (h ⟨n, hn⟩), Vector.getElem_map]
    rfl
  rw [debounceAll, hvec]

theorem readSwitches_quiet : readSwitches raw s =
    { s with switches := s.switches.map fun r => { r with pendingFrames := 0 } } := by
  rw [readSwitches, acceptedEdges_quiet h, debounceAll_quiet h]
  rfl

end

/-- Settles O4. -/
theorem timersCount : Obligations.TimersCount := by
  unfold Obligations.TimersCount
  refine ⟨fun s => ?_, fun s raw h => ?_⟩
  · intro count phase ten hundred untilted t
    have hcount (r : Timer) : r.tick = count r := r.tick_eq
    obtain ⟨hframe, hphase⟩ := startFrame_clock s
    obtain ⟨hA, hB⟩ := startFrame_groups s
    obtain ⟨hslots, hnotices, hlink⟩ := startFrame_rest s
    refine ⟨hframe, hphase, fun c => ?_, ?_, ?_, fun d => ?_, ?_, ?_, ?_, ?_, startFrame_switches s, hslots, hnotices,
      hlink⟩
    · intro l
      refine ((startFrame_coil s c).trans (Coil.ticked_eq _ _)).trans ?_
      simp only [hcount]
      rfl
    · exact hA.trans (by rw [hcount])
    · exact hB.trans (by rw [hcount])
    · intro l
      refine (startFrame_device s d).trans (if_congr Iff.rfl ?_ rfl)
      simp only [Device.tick10, hcount]
      rfl
    · have hsave : (s.tenth = true ∧ s.saveCounts = true) ↔ (ten = true ∧
          ((s.acct.saveState = .active ∧ 1 ≤ s.acct.live ∧ untilted = true) ∨ s.acct.saveState = .grace)) :=
        and_congr Iff.rfl (s.saveCounts_iff.trans (by rw [show untilted = true ↔ _ from decide_eq_true_iff]))
      have hidle : (s.hundredth = true ∧ s.idleCounts = true) ↔ (hundred = true ∧
          s.acct.phase = .play ∧ s.acct.search = .idle ∧ 1 ≤ s.acct.live + s.acct.missing) :=
        and_congr Iff.rfl s.idleCounts_iff
      refine (startFrame_acct s).trans ?_
      simp only [flights_ticked, hcount, hsave, hidle]
      rfl
    · exact (startFrame_session s).trans (by rw [hcount]; rfl)
    · intro counts
      have hcounts : counts = (s.tenth && s.pfCounts) := by
        rw [State.pfCounts_eq, ← Bool.and_assoc]
        rfl
      rw [hcounts]
      exact startFrame_pf s
    · intro counts
      have hcounts : counts ↔ (s.tenth = true ∧ s.modesCount = true) :=
        and_congr Iff.rfl (Iff.trans (by rw [show untilted = true ↔ _ from decide_eq_true_iff]) s.modesCount_iff.symm)
      have hpages := startFrame_pages s
      refine ⟨fun p hp => ?_, fun hc => ⟨tickStack s.page.stack, ?_, ?_, fun beneath above c hstack => ?_⟩⟩
      · by_cases hc : counts
        · have hne : s.session.current ≠ p := fun he => hp.elim (fun g => g he.symm) fun g => g hc
          have hv : s.session.current.val ≠ p.val := fun he => hne (Fin.ext he)
          rw [hpages, if_pos (hcounts.mp hc)]
          exact Vector.getElem_set_ne _ _ hv
        · rw [hpages, if_neg (mt hcounts.mpr hc)]
      · simp [tickStack, State.page]
      · rw [hpages, if_pos (hcounts.mp hc)]
        exact Vector.getElem_set_self _
      · rw [State.page, hstack]
        exact tickStack_getElem? beneath above c
  · have hsw := startFrame_switches s
    have hquiet (n : SwitchNo) : raw.getLsbD n.val = true ↔ ((startFrame s).switches[n]'n.isLt).level = .closed := by
      rw [h n, hsw]
    refine (congrArg Host.Outcome.next (readSwitches_quiet hquiet)).trans ?_
    rw [hsw]

end Sys2Proof.Machine

/-! ### What a device leaves alone while it acts on what it counted (R27 to R34) -/

namespace Sys2Proof.Machine

/-- Between two states only devices, coils, slots and notices differ. -/
abbrev WorkFrame (s t : State) : Prop :=
  ∃ (devices : Vector Device 8) (coils : Vector Coil 24) (slots : Vector Slot 8) (notices : Notices),
    t = { s with devices := devices, coils := coils, slots := slots, notices := notices }

theorem WorkFrame.trans {s t u : State} (h : WorkFrame s t) (g : WorkFrame t u) : WorkFrame s u := by
  obtain ⟨v, c, x, n, rfl⟩ := h
  obtain ⟨v', c', x', n', rfl⟩ := g
  exact ⟨v', c', x', n', rfl⟩

theorem WorkFrame.of_order {s t : State} (h : OrderFrame s t) : WorkFrame s t := by
  obtain ⟨v, c, x, b, rfl⟩ := h
  cases b with
  | false => exact ⟨v, c, x, s.notices, rfl⟩
  | true => exact ⟨v, c, x, _, rfl⟩

theorem WorkFrame.raise (s : State) (k : Notice) : WorkFrame s (s.raise k) := ⟨s.devices, s.coils, s.slots, _, rfl⟩

theorem WorkFrame.raiseIf (s : State) (b : Bool) (k : Notice) : WorkFrame s (s.raiseIf b k) := by
  cases b with
  | false => exact ⟨s.devices, s.coils, s.slots, s.notices, rfl⟩
  | true => exact .raise s k

/-- Whether work at the orders of a device raises a kind. -/
def Notice.ofWork (k : Notice) : Bool := k ∈ [.ejectFinished, .deviceJammed, .doubleEject]

/-- Between two states only notices of such work were raised. -/
def State.Hushed (s t : State) : Prop := ∀ k : Notice, k.ofWork = false → t.isPending k = s.isPending k

theorem State.Hushed.raiseIf (s : State) (b : Bool) {k : Notice} (hk : k.ofWork = true) : s.Hushed (s.raiseIf b k) := by
  intro j hj
  have hne : j ≠ k := fun he => Bool.false_ne_true (hj.symm.trans (he ▸ hk))
  rw [isPending_raiseIf, decide_eq_false hne, Bool.and_false, Bool.or_false]

theorem State.Hushed.of_order {s t : State} (h : OrderFrame s t) : s.Hushed t := by
  obtain ⟨v, c, x, b, rfl⟩ := h
  exact fun k hk => (Hushed.raiseIf { s with devices := v, coils := c, slots := x } b (by decide) k hk)

/-- What an evaluation counts and starts at a device, apart from its orders. -/
def DeviceLive.counts (l : DeviceLive) : Nat × Nat × Bool × Timer := (l.occupancy, l.entriesSeen, l.countFault, l.hold)

/-- Work at the orders of device `d` that leaves what it has counted. -/
structure Serving (d : DevNo) (s t : State) : Prop where
  frame : WorkFrame s t
  others : ∀ e : DevNo, e ≠ d → t.devices[e]'e.isLt = s.devices[e]'e.isLt
  cfg : (t.devices[d]'d.isLt).cfg = (s.devices[d]'d.isLt).cfg
  counts : (t.devices[d]'d.isLt).live.counts = (s.devices[d]'d.isLt).live.counts
  hushed : s.Hushed t

theorem Serving.trans {d : DevNo} {s t u : State} (h : Serving d s t) (g : Serving d t u) : Serving d s u where
  frame := h.frame.trans g.frame
  others e he := (g.others e he).trans (h.others e he)
  cfg := g.cfg.trans h.cfg
  counts := g.counts.trans h.counts
  hushed k hk := (g.hushed k hk).trans (h.hushed k hk)

theorem Serving.of_devices {s t : State} (d : DevNo) (hf : WorkFrame s t) (hq : s.Hushed t) (h : t.devices = s.devices) :
    Serving d s t where
  frame := hf
  others e _ := by rw [h]
  cfg := by rw [h]
  counts := by rw [h]
  hushed := hq

theorem Serving.refl (d : DevNo) (s : State) : Serving d s s :=
  .of_devices d ⟨s.devices, s.coils, s.slots, s.notices, rfl⟩ (fun _ _ => rfl) rfl

theorem Serving.modLive (d : DevNo) (f : DeviceLive → DeviceLive) (s : State) (hf : ∀ l, (f l).counts = l.counts) :
    Serving d s (s.modLive d f) where
  frame := ⟨_, s.coils, s.slots, s.notices, rfl⟩
  others e he := by rw [State.modLive_get, if_neg he]
  cfg := State.modLive_cfg s d d f
  counts := by
    rw [State.modLive_get, if_pos rfl]
    exact hf _
  hushed _ _ := rfl

theorem Serving.modSlot (d : DevNo) (n : SlotNo) (f : Slot → Slot) (s : State) : Serving d s (s.modSlot n f) :=
  .of_devices d ⟨s.devices, s.coils, _, s.notices, rfl⟩ (fun _ _ => rfl) rfl

theorem Serving.raiseIf (d : DevNo) (s : State) (b : Bool) {k : Notice} (hk : k.ofWork = true) :
    Serving d s (s.raiseIf b k) :=
  .of_devices d (.raiseIf s b k) (.raiseIf s b hk) (State.raiseIf_devices s b k)

theorem Serving.ite (d : DevNo) {s t u : State} (c : Prop) [Decidable c] (h : Serving d s t) (g : Serving d s u) :
    Serving d s (if c then t else u) := by
  split
  · exact h
  · exact g

/-- Any further step that serves, where it is taken. -/
theorem Serving.after_ite {d : DevNo} {s t : State} {f : State → State} (c : Prop) [Decidable c]
    (hf : ∀ s, Serving d s (f s)) (h : Serving d s t) : Serving d s (if c then f t else t) :=
  .ite d c (h.trans (hf t)) h

theorem DeviceLive.counts_of_rested {l m : DeviceLive} (h : m.rested = l.rested) : m.counts = l.counts :=
  show m.rested.counts = l.rested.counts from congrArg DeviceLive.counts h

theorem Ordered.serving {d : DevNo} {s t : State} (h : Ordered d s t) (hf : OrderFrame s t) : Serving d s t where
  frame := .of_order hf
  others := h.others
  cfg := h.cfg
  counts := DeviceLive.counts_of_rested h.rested
  hushed := .of_order hf

theorem startBall_serving (d : DevNo) (n : Nat) (s : State) : Serving d s (startBall d n s) :=
  (startBall_ordered d n s).serving (.of_startBall d n s)

theorem takeOrder_serving (d : DevNo) (s : State) : Serving d s (takeOrder d s) :=
  (takeOrder_ordered d s).serving (.of_takeOrderFuel 9 d s)

theorem endRequest_serving (c : CoilNo) (d : DevNo) (s : State) : Serving d s (endRequest c d s) :=
  .of_devices d (.of_order (.of_endRequest c d s)) (.of_order (.of_endRequest c d s)) (endRequest_devices c d s)

theorem finishSlot_serving (d : DevNo) (n : SlotNo) (r : SlotResult) (s : State) : Serving d s (finishSlot n r s) :=
  .of_devices d (.of_order (.of_finishSlot n r s)) (.of_order (.of_finishSlot n r s)) (finishSlot_devices n r s)

theorem restartSettle_serving (d : DevNo) (s : State) : Serving d s (restartSettle d s) := by
  rw [restartSettle_eq]
  exact .modLive d _ s fun _ => rfl

theorem enterConfirming_serving (d : DevNo) (s : State) : Serving d s (enterConfirming d s) := by
  rw [enterConfirming_eq]
  exact .modLive d _ s fun _ => rfl

theorem deviceRelease_serving (own : Bool) (d : DevNo) (s : State) : Serving d s (deviceRelease own d s) :=
  .ite d _ (.refl d s) (.after_ite _ (enterConfirming_serving d) (restartSettle_serving d s))

theorem finishOrder_serving (d : DevNo) (r : Slot → SlotResult) (s : State) : Serving d s (finishOrder d r s) := by
  obtain ⟨v, b, h⟩ := finishOrder_frame d r s
  have hframe : OrderFrame s (finishOrder d r s) := ⟨s.devices, s.coils, v, b, h⟩
  exact .of_devices d (.of_order hframe) (.of_order hframe) (finishOrder_devices d r s)

theorem endOrder_serving (d : DevNo) (r : Slot → SlotResult) (s : State) : Serving d s (endOrder d r s) := by
  rw [endOrder_eq]
  exact ((finishOrder_serving d r s).trans (.modLive d DeviceLive.ended _ fun _ => rfl)).trans (takeOrder_serving d _)

theorem jam_serving (d : DevNo) (s : State) : Serving d s (jam d s) := by
  simp only [jam]
  refine .trans (.trans (.raiseIf d s true (k := .deviceJammed) (by decide)) ?_) (.modLive d _ _ ?_)
  · split
    · exact finishSlot_serving d _ _ _
    · exact .refl d _
  · exact fun _ => rfl

theorem failedAttempt_serving (d : DevNo) (s : State) : Serving d s (failedAttempt d s) :=
  .ite d _ (endOrder_serving d _ s) (.ite d _ (startBall_serving d _ s) (jam_serving d s))

theorem confirmExits_serving (d : DevNo) (exits : Nat) (s : State) : Serving d s (confirmExits d exits s) := by
  simp only [confirmExits]
  refine .trans (.trans ?_ (.modLive d _ _ ?_)) (.raiseIf d _ _ (by decide))
  · split
    · exact .modSlot d _ _ s
    · exact .modLive d _ s fun _ => rfl
    · exact .refl d s
  · exact fun _ => rfl

theorem uncountExit_serving (d : DevNo) (s : State) : Serving d s (uncountExit d s) := by
  simp only [uncountExit]
  refine .trans ?_ (.modLive d _ _ ?_)
  · split
    · exact .modSlot d _ _ s
    · exact .modLive d _ s fun _ => rfl
    · exact .refl d s
  · exact fun _ => rfl

theorem nextBall_serving (d : DevNo) (s : State) : Serving d s (nextBall d s) :=
  .ite d _ (startBall_serving d 1 s) (.refl d s)

theorem reuseRequest_serving (d : DevNo) (s : State) : Serving d s (reuseRequest d s) :=
  .modLive d _ s fun l => by
    cases hs : l.stopPending with
    | true => rfl
    | false => rfl

theorem actEjecting_serving (d : DevNo) (s : State) : Serving d s (actEjecting d s) := by
  have hend := endRequest_serving (s.devices[d]'d.isLt).cfg.coil d s
  simp only [actEjecting]
  split
  · exact .ite d _ (hend.trans (enterConfirming_serving d _)) (reuseRequest_serving d s)
  · exact (hend.trans (enterConfirming_serving d _)).trans (nextBall_serving d _)
  · split
    · exact .ite d _ (.refl d s) (reuseRequest_serving d s)
    · exact .ite d _ hend (reuseRequest_serving d s)
    · exact .ite d _ hend (.refl d s)
  · exact .ite d _ (hend.trans (deviceRelease_serving true d _)) (.refl d s)
  · exact .refl d s

theorem actFallback_serving (d : DevNo) (s : State) : Serving d s (actFallback d s) :=
  .after_ite _ (failedAttempt_serving d) (uncountExit_serving d s)

theorem actOnOrder_serving (d : DevNo) (exits : Nat) (fallback : Bool) (s : State) :
    Serving d s (actOnOrder d exits fallback s) := by
  simp only [actOnOrder]
  have hconfirmed := Serving.after_ite ((s.devices[d]'d.isLt).live.order ≠ .none ∧ 1 ≤ exits)
    (confirmExits_serving d exits) (.refl d s)
  split
  · exact (Serving.after_ite _ (uncountExit_serving d) hconfirmed).trans (endOrder_serving d _ _)
  · exact .after_ite _ (actFallback_serving d) (.after_ite _ (nextBall_serving d)
      (.after_ite _ (actEjecting_serving d) hconfirmed))

/-! ### What the exits and the entries of an evaluation leave alone (R22 to R24, R66, R67) -/

/-- The accounting record apart from the counts and the phase. -/
def Accounting.books (a : Accounting) : Accounting :=
  { a with installed := 0, live := 0, missing := 0, flights := [], phase := .noPlay, savesUsed := 0 }

/-- The work of a device apart from its owed ejects. -/
def DeviceLive.unhanded (l : DeviceLive) : DeviceLive := { l with owed := 0 }

/-- Balls handed into or out of device `d`. -/
structure Handing (d : DevNo) (s t : State) : Prop where
  books : t.acct.books = s.acct.books
  options : t.options = s.options
  cfg : (t.devices[d]'d.isLt).cfg = (s.devices[d]'d.isLt).cfg
  live : (t.devices[d]'d.isLt).live.unhanded = (s.devices[d]'d.isLt).live.unhanded

theorem Handing.trans {d : DevNo} {s t u : State} (h : Handing d s t) (g : Handing d t u) : Handing d s u where
  books := g.books.trans h.books
  options := g.options.trans h.options
  cfg := g.cfg.trans h.cfg
  live := g.live.trans h.live

theorem Handing.of_device (d : DevNo) {s t : State} (hd : t.devices[d]'d.isLt = s.devices[d]'d.isLt)
    (ho : t.options = s.options) (hb : t.acct.books = s.acct.books) : Handing d s t where
  books := hb
  options := ho
  cfg := by rw [hd]
  live := by rw [hd]

theorem Handing.refl (d : DevNo) (s : State) : Handing d s s := .of_device d rfl rfl rfl

theorem Handing.modAcct (d : DevNo) (s : State) (f : Accounting → Accounting) (hf : (f s.acct).books = s.acct.books) :
    Handing d s (s.modAcct f) := .of_device d rfl rfl hf

theorem Handing.raise (d : DevNo) (s : State) (k : Notice) : Handing d s (s.raise k) := .of_device d rfl rfl rfl

theorem Handing.modLive (d : DevNo) (f : DeviceLive → DeviceLive) (s : State) (hf : ∀ l, (f l).unhanded = l.unhanded) :
    Handing d s (s.modLive d f) where
  books := rfl
  options := rfl
  cfg := State.modLive_cfg s d d f
  live := by
    rw [State.modLive_get, if_pos rfl]
    exact hf _

theorem Handing.after_ite {d : DevNo} {s t : State} {f : State → State} (c : Prop) [Decidable c]
    (hf : c → Handing d t (f t)) (h : Handing d s t) : Handing d s (if c then f t else t) := by
  split
  · next hc => exact h.trans (hf hc)
  · exact h

theorem addOwedCount_handing (d : DevNo) (s : State) : Handing d s (addOwedCount d s) :=
  .modLive d _ s fun l => by split <;> rfl

theorem drain_handing (s : State) : Handing trough s (drain s) := by
  unfold drain
  split
  · refine (addOwedCount_handing trough s).trans (.trans (.modAcct trough _ _ ?_) (.raise trough _ _))
    rfl
  · exact .refl trough s

theorem setPhase_handing (d : DevNo) (p : PlayPhase) (s : State) : Handing d s (setPhase p s) :=
  .modAcct d s _ rfl

theorem shooterEntry_handing (fallback : Bool) (s : State) : Handing shooter s (shooterEntry fallback s) := by
  unfold shooterEntry
  split
  · exact .after_ite _ (fun _ => addOwedCount_handing shooter _) (setPhase_handing shooter .launchWait s)
  · split
    · exact .refl shooter s
    · exact addOwedCount_handing shooter s
  · exact .refl shooter s

/-- A LOCK stands at a device above the shooter lane. -/
theorem State.lockOf_above {s : State} {d : DevNo} {k : LockNo} (h : s.lockOf d = some k) : trough ≠ d := by
  rintro rfl
  exact absurd ((State.lockOf_eq_none (.inl (by decide))).symm.trans h) (Option.some_ne_none k).symm

theorem capture_handing {d : DevNo} (k : LockNo) (s : State) (hd : trough ≠ d) : Handing d s (capture k s) := by
  rw [capture_eq]
  have hlit : Handing d s (s.withCapture k) := .of_device d rfl rfl rfl
  refine .after_ite _ (fun _ => ?_) hlit
  obtain ⟨v, c, x, b, hf⟩ := OrderFrame.of_addOwed trough (s.withCapture k)
  refine .of_device d ((addOwed_owes trough _).others d hd.symm) ?_ ?_
  · rw [hf, State.raiseIf_options]
  · rw [hf, State.raiseIf_acct]

theorem captureDecision_handing (d : DevNo) (s : State) : Handing d s (captureDecision d s) := by
  unfold captureDecision
  split
  · exact .refl d s
  · next k hk =>
    split
    · exact capture_handing k s (State.lockOf_above hk)
    · next reason _ =>
      exact Handing.trans (t := (recordDecision k .rejected reason s).raise .lockRejected) (.of_device d rfl rfl rfl)
        (addOwedCount_handing d _)

theorem entryRules_handing (d : DevNo) (fallback : Bool) (x : Supply) (s : State) :
    Handing d s (entryRules d fallback x s) := by
  simp only [entryRules]
  have hdrain : Handing d s (if d = trough ∧ (x = .live ∨ x = .playfield) then drain s else s) :=
    .after_ite _ (fun h => h.1 ▸ drain_handing s) (.refl d s)
  have hshoot := Handing.after_ite (d = shooter) (fun h => h ▸ shooterEntry_handing fallback _) hdrain
  split
  · exact hshoot
  · exact hshoot.trans (captureDecision_handing d _)

/-! ### The place that supplies an entry -/

/-- What the supply of one entry does to the counts: the records of the evaluation left, and the installed balls. -/
structure Taking (d : DevNo) (own : Nat) (s : State) (r : State × Nat × Supply) : Prop extends Handing d s r.1 where
  devices : r.1.devices = s.devices
  step : own ≤ r.2.1 + 1
  fewer : r.2.1 ≤ own
  installed : r.1.acct.installed = s.acct.installed ∨ (own = 0 ∧ r.1.acct.installed = s.acct.installed + 1)
  full : r.2.2 = .unattributed → own = 0 ∧ Config.maxInstalled ≤ s.acct.installed ∧ r.1.acct.installed = s.acct.installed

theorem removeFlight_handing (d : DevNo) (i : Nat) (s : State) : Handing d s (removeFlight i s) :=
  .modAcct d s (fun a => { a with flights := a.flights.eraseIdx i }) rfl

theorem takeFlight_taking (d : DevNo) (i own : Nat) (s : State) {x : Supply} (hx : x ≠ .unattributed) :
    Taking d own s ((takeFlight i own s).1, (takeFlight i own s).2, x) where
  toHanding := removeFlight_handing d i s
  devices := rfl
  step := by
    simp only [takeFlight]
    split <;> omega
  fewer := by
    simp only [takeFlight]
    split <;> omega
  installed := .inl rfl
  full h := absurd h hx

theorem supplyEntry_taking (d : DevNo) (fallback : Bool) (own : Nat) (s : State) :
    Taking d own s (supplyEntry d fallback own s) := by
  have hgive (f : Accounting → Accounting) (hf : (f s.acct).books = s.acct.books)
      (hi : (f s.acct).installed = s.acct.installed) {x : Supply} (hx : x ≠ .unattributed) :
      Taking d own s (s.modAcct f, own, x) :=
    { toHanding := .modAcct d s f hf, devices := rfl, step := Nat.le_succ own, fewer := le_rfl, installed := .inl hi,
      full := fun h => absurd h hx }
  simp only [supplyEntry]
  split
  · exact takeFlight_taking d _ own s Supply.noConfusion
  · split
    · exact takeFlight_taking d _ own s Supply.noConfusion
    · split
      · exact hgive _ rfl rfl Supply.noConfusion
      · split
        · exact takeFlight_taking d _ own s Supply.noConfusion
        · split
          · have h := hgive (fun a => { a with missing := a.missing - 1 }) rfl rfl (x := .missing) Supply.noConfusion
            exact { h with toHanding := h.toHanding.trans (.raise d _ _), devices := rfl }
          · split
            · exact { toHanding := removeFlight_handing d _ s, devices := rfl, step := show own ≤ own - 1 + 1 by omega, fewer := Nat.sub_le own 1,
                      installed := .inl rfl, full := fun h => Supply.noConfusion h }
            · next hown =>
              have hzero : own = 0 := by omega
              split
              · exact { toHanding := .trans (.modAcct d s _ rfl) (.raise d _ _), devices := rfl,
                        step := Nat.le_succ own, fewer := le_rfl, installed := .inr ⟨hzero, rfl⟩,
                        full := fun h => Supply.noConfusion h }
              · next hlim =>
                exact { toHanding := .refl d s, devices := rfl, step := Nat.le_succ own, fewer := le_rfl,
                        installed := .inl rfl, full := fun _ => ⟨hzero, Nat.not_lt.mp hlim, rfl⟩ }

/-! ### Entries that are all attributed -/

/-- Entries handed with room for every ball that came in. -/
structure Attributed (d : DevNo) (n : Nat) (fallback : Bool) (t : Tally) (s : State) (r : State × Tally) : Prop
    extends Handing d s r.1 where
  all : r.2.unattributed = t.unattributed
  ordinary : fallback = false → r.2.ordinary = t.ordinary + n

theorem handEntry_attributed {d : DevNo} {n : Nat} (fallback : Bool) {t : Tally} {s : State}
    (h : s.acct.installed + (n + 1 - t.own) ≤ Config.maxInstalled) :
    Attributed d 1 fallback t s (handEntry d fallback t s) ∧
      (handEntry d fallback t s).1.acct.installed + (n - (handEntry d fallback t s).2.own) ≤ Config.maxInstalled := by
  have hs := supplyEntry_taking d fallback t.own s
  simp only [handEntry]
  generalize supplyEntry d fallback t.own s = r at hs ⊢
  obtain ⟨s', own, x⟩ := r
  obtain ⟨hhand, -, hstep, -, hin, hfull⟩ := hs
  dsimp only at hhand hstep hin hfull ⊢
  split
  · next hx =>
    obtain ⟨h0, hlim, -⟩ := hfull hx
    omega
  · have hquiet := (entryRules_quiet (fun _ => False) d fallback x s').installed
    refine ⟨{ toHanding := hhand.trans (entryRules_handing d fallback x s'), all := rfl, ordinary := fun hf => ?_ }, ?_⟩
    · rw [hf]
      rfl
    · dsimp only
      omega

theorem handEntries_attributed {d : DevNo} (n : Nat) (fallback : Bool) {t : Tally} {s : State}
    (h : s.acct.installed + (n - t.own) ≤ Config.maxInstalled) :
    Attributed d n fallback t s (handEntries d n fallback t s) := by
  induction n generalizing fallback t s with
  | zero => exact { toHanding := .refl d s, all := rfl, ordinary := fun _ => rfl }
  | succ n ih =>
    obtain ⟨hone, hroom⟩ := handEntry_attributed fallback h
    have hrest := ih false hroom
    simp only [handEntries]
    refine { toHanding := hone.toHanding.trans hrest.toHanding, all := hrest.all.trans hone.all, ordinary := fun hf => ?_ }
    rw [hrest.ordinary rfl, hone.ordinary hf, Nat.add_assoc, Nat.add_comm 1 n]

/-- A device counted anew with every entry attributed. -/
structure Recounted (d : DevNo) (entries c : Nat) (fallback : Bool) (s : State) (r : State × Tally) : Prop where
  books : r.1.acct.books = s.acct.books
  options : r.1.options = s.options
  cfg : (r.1.devices[d]'d.isLt).cfg = (s.devices[d]'d.isLt).cfg
  live : (r.1.devices[d]'d.isLt).live.unhanded =
    { (s.devices[d]'d.isLt).live with entriesSeen := 0, occupancy := c, owed := 0 }
  ordinary : fallback = false → r.2.ordinary = entries

theorem recountDevice_attributed {d : DevNo} (counts : Nat × Nat) (c : Nat) (fallback : Bool) {s : State}
    (h : s.acct.installed + (counts.2 - counts.1) ≤ Config.maxInstalled) :
    Recounted d counts.2 c fallback s (recountDevice d counts c fallback s) := by
  obtain ⟨exits, entries⟩ := counts
  dsimp only at h ⊢
  simp only [recountDevice]
  have hcleared : (s.modLive d fun l => { l with entriesSeen := 0 }).devices[d]'d.isLt =
      { (s.devices[d]'d.isLt) with live := { (s.devices[d]'d.isLt).live with entriesSeen := 0 } } := by
    rw [State.modLive_get, if_pos rfl]
  have hhand := handEntries_attributed (d := d) entries fallback (t := { own := exits, unattributed := 0, ordinary := 0 })
    (s := handExits d exits (s.modLive d fun l => { l with entriesSeen := 0 })) h
  generalize handEntries d entries fallback { own := exits, unattributed := 0, ordinary := 0 }
    (handExits d exits (s.modLive d fun l => { l with entriesSeen := 0 })) = r at hhand ⊢
  obtain ⟨t, tally⟩ := r
  obtain ⟨⟨hbooks, hoptions, hcfg, hlive⟩, hall, hord⟩ := hhand
  have hsame : (handExits d exits (s.modLive d fun l => { l with entriesSeen := 0 })).devices[d]'d.isLt =
      { (s.devices[d]'d.isLt) with live := { (s.devices[d]'d.isLt).live with entriesSeen := 0 } } := hcleared
  rw [hsame] at hcfg hlive
  dsimp only at hbooks hoptions hcfg hlive hall hord ⊢
  rw [hall, Nat.sub_zero]
  refine ⟨hbooks, hoptions, (State.modLive_cfg t d d _).trans hcfg, ?_, fun hf => (hord hf).trans (Nat.zero_add _)⟩
  rw [State.modLive_get, if_pos rfl]
  exact congrArg (fun l : DeviceLive => { l with occupancy := c }) hlive

end Sys2Proof.Machine

/-! ### CLEAR_JAM (R39) -/

namespace Sys2Proof.Machine

/-- A device that looks for an order once finds none, starts a ball, or ends a slot SHORT and looks again. -/
theorem takeOrderFuel_cases (fuel : Nat) {d : DevNo} {s : State} (h : (s.devices[d]'d.isLt).live.state = .idle) :
    takeOrderFuel (fuel + 1) d s = s ∨ (∃ u, takeOrderFuel (fuel + 1) d s = startBall d 1 u) ∨
      ∃ (n : SlotNo) (u : State), takeOrderFuel (fuel + 1) d s = takeOrderFuel fuel d (finishSlot n .short u) ∧
        u.devices = (beginOrder d .none s).devices := by
  have hbusy : ¬ (s.devices[d]'d.isLt).live.state ≠ .idle := fun hn => hn h
  simp only [takeOrderFuel, if_neg hbusy]
  split
  · exact .inr (.inl ⟨_, rfl⟩)
  · cases s.oldestQueued d with
    | none => exact .inl rfl
    | some n =>
      dsimp only
      split
      · exact .inr (.inr ⟨n, _, rfl, rfl⟩)
      · exact .inr (.inl ⟨_, rfl⟩)

theorem startBall_state (d : DevNo) (n : Nat) (s : State) :
    ((startBall d n s).devices[d]'d.isLt).live.state = .ejecting := by
  rw [startBall_eq, State.modCoilLive_devices, State.modLive_get, if_pos rfl]
  rfl

/-- A device that looks for an order keeps its attempt count or starts a ball. -/
def DeviceLive.Starts (l m : DeviceLive) : Prop :=
  (m.state = .idle ∧ m.attemptCount = l.attemptCount) ∨ m.state = .ejecting

theorem takeOrderFuel_starts (fuel : Nat) {d : DevNo} {s : State} (h : (s.devices[d]'d.isLt).live.state = .idle) :
    (s.devices[d]'d.isLt).live.Starts ((takeOrderFuel fuel d s).devices[d]'d.isLt).live := by
  induction fuel generalizing s with
  | zero => exact .inl ⟨h, rfl⟩
  | succ fuel ih =>
    obtain he | ⟨u, he⟩ | ⟨n, u, he, hu⟩ := takeOrderFuel_cases fuel h
    · rw [he]
      exact .inl ⟨h, rfl⟩
    · rw [he]
      exact .inr (startBall_state d 1 u)
    · have hnext : (finishSlot n .short u).devices[d]'d.isLt = { s.devices[d]'d.isLt with
          live := { (s.devices[d]'d.isLt).live with order := .none, exitsInOrder := 0, stopPending := false } } := by
        rw [finishSlot_devices, hu, beginOrder, State.modLive_get, if_pos rfl]
      have hrest := ih (s := finishSlot n .short u) (by rw [hnext]; exact h)
      rw [hnext] at hrest
      rw [he]
      exact hrest

theorem takeOrder_starts {d : DevNo} {s : State} (h : (s.devices[d]'d.isLt).live.state = .idle) :
    (s.devices[d]'d.isLt).live.Starts ((takeOrder d s).devices[d]'d.isLt).live := takeOrderFuel_starts 9 h

theorem enterPlay_devices (c : Prop) [Decidable c] (s : State) : (if c then enterPlay s else s).devices = s.devices := by
  split <;> rfl

/-- CLEAR_JAM up to the change of phase: the device is counted and looks for an order. -/
def State.jamCleared (s : State) (d : DevNo) : State :=
  takeOrder d ((recountDevice d (netCount (s.closedCount d) (s.devices[d]'d.isLt).live.occupancy) (s.closedCount d) false
    (s.modLive d fun l => { l with countFault := false, settle := l.settle.halt })).1.modLive d fun l =>
      { l with attemptCount := 0, state := .idle })

theorem clearJam_devices (d : DevNo) (s : State) : (clearJam d s).devices = (s.jamCleared d).devices := by
  have hclear : clearJam d s = if s.exitStartsPlay d (netCount (s.closedCount d) (s.devices[d]'d.isLt).live.occupancy).1
      then enterPlay (s.jamCleared d) else s.jamCleared d := rfl
  exact (congrArg State.devices hclear).trans (enterPlay_devices _ _)

/-- The device after CLEAR_JAM. -/
structure Cleared (l m : DeviceLive) (c : Nat) : Prop where
  occupancy : m.occupancy = c
  entriesSeen : m.entriesSeen = 0
  countFault : m.countFault = false
  settle : m.settle.running = false
  state : m.state = .idle ∨ m.state = .ejecting
  attempts : m.state = .idle → m.attemptCount = 0

theorem clearJam_cleared {d : DevNo} {s : State}
    (h : s.acct.installed + (s.closedCount d - (s.devices[d]'d.isLt).live.occupancy) ≤ Config.maxInstalled) :
    Cleared (s.devices[d]'d.isLt).live ((clearJam d s).devices[d]'d.isLt).live (s.closedCount d) := by
  rw [clearJam_devices, State.jamCleared]
  generalize s.closedCount d = c at h ⊢
  have hclear : (s.modLive d fun l => { l with countFault := false, settle := l.settle.halt }).devices[d]'d.isLt =
      { s.devices[d]'d.isLt with live :=
          { (s.devices[d]'d.isLt).live with countFault := false, settle := (s.devices[d]'d.isLt).live.settle.halt } } := by
    rw [State.modLive_get, if_pos rfl]
  have hcount := (recountDevice_attributed (d := d) (netCount c (s.devices[d]'d.isLt).live.occupancy) c false
    (s := s.modLive d fun l => { l with countFault := false, settle := l.settle.halt })
    ((Nat.add_le_add_left (Nat.sub_le _ _) _).trans h)).live
  rw [hclear] at hcount
  generalize recountDevice d _ c false _ = r at hcount ⊢
  have hidle : (r.1.modLive d fun l => { l with attemptCount := 0, state := .idle }).devices[d]'d.isLt =
      { r.1.devices[d]'d.isLt with live := { (r.1.devices[d]'d.isLt).live with attemptCount := 0, state := .idle } } := by
    rw [State.modLive_get, if_pos rfl]
  generalize (r.1.modLive d fun l => { l with attemptCount := 0, state := .idle }) = u at hidle ⊢
  have hserve := takeOrder_ordered d u
  have hrested : ((takeOrder d u).devices[d]'d.isLt).live.rested = (u.devices[d]'d.isLt).live.rested := hserve.rested
  have hstarts := takeOrder_starts (d := d) (s := u) (by rw [hidle])
  generalize (takeOrder d u).devices[d]'d.isLt = v at hrested hstarts ⊢
  rw [hidle] at hrested hstarts
  have hkept : ∀ {α : Type} (f : DeviceLive → α), (∀ l, f l.rested = f l) → (∀ l, f l.unhanded = f l) →
      (∀ l : DeviceLive, f { l with attemptCount := 0, state := .idle } = f l) →
      f v.live = f { (s.devices[d]'d.isLt).live with
        countFault := false, settle := (s.devices[d]'d.isLt).live.settle.halt, entriesSeen := 0, occupancy := c,
        owed := 0 } := fun f h1 h2 h3 => by
    rw [← h1 v.live, hrested, h1, h3, ← h2, hcount]
  refine ⟨hkept (·.occupancy) (fun _ => rfl) (fun _ => rfl) fun _ => rfl,
    hkept (·.entriesSeen) (fun _ => rfl) (fun _ => rfl) fun _ => rfl,
    hkept (·.countFault) (fun _ => rfl) (fun _ => rfl) fun _ => rfl,
    hkept (·.settle.running) (fun _ => rfl) (fun _ => rfl) fun _ => rfl, ?_, fun hi => ?_⟩
  · exact hstarts.imp (·.1) id
  · obtain ⟨-, hcnt⟩ | he := hstarts
    · exact hcnt
    · exact absurd (hi.symm.trans he) DeviceState.noConfusion

theorem State.link_of_kept {s t : State} (h : t.kept = s.kept) : t.link = s.link :=
  congrArg Kept.link h

theorem clearable_iff (l : DeviceLive) :
    l.clearable = true ↔ l.state = .jammed ∨ (l.state = .idle ∧ l.countFault = true) := by
  simp [DeviceLive.clearable]

theorem clearJamRequest_known (d : DevNo) (s : State) : clearJamRequest [byte d.val] s =
    if (s.devices[d]'d.isLt).live.clearable then ok (event (clearJam d) s) [] else refuse s .refusedState := by
  simp only [clearJamRequest, indexOf_byte d]

/-- Settles O12. -/
theorem clearJamReturnsToService : Obligations.ClearJamReturnsToService := by
  unfold Obligations.ClearJamReturnsToService
  intro s h
  refine ⟨fun d hd => ?_, fun d hc => ?_, fun d hst hroom => ?_⟩
  · refine request_refused (len := 1) (run := clearJamRequest) h rfl ?_
    simp only [clearJamRequest, indexOf_none (n := 8) (Nat.succ_le_of_lt hd)]
  · refine request_refused (len := 1) (run := clearJamRequest) h rfl ?_
    rw [clearJamRequest_known]
    exact if_neg (by rw [State.begun_devices, hc]; exact Bool.false_ne_true)
  · have haccepts : clearJamRequest [byte d.val] (s.begun 1) = ok (event (clearJam d) (s.begun 1)) [] := by
      rw [clearJamRequest_known]
      exact if_pos ((clearable_iff _).mpr hst)
    refine ⟨_, request_ok (len := 1) (run := clearJamRequest) h rfl haccepts, ?_⟩
    have hcleared := clearJam_cleared (s := s.begun 1) hroom
    have hdevices : (event (clearJam d) (s.begun 1)).devices = (clearJam d (s.begun 1)).devices :=
      (closeEvent_closing _ _).devices
    have hlink : (event (clearJam d) (s.begun 1)).link = (s.begun 1).link :=
      State.link_of_kept ((closeEvent_kept _ _).trans (clearJam_counted d _).kept)
    have hlive : (event (clearJam d) (s.begun 1)).devices[d]'d.isLt = (clearJam d (s.begun 1)).devices[d]'d.isLt := by
      rw [hdevices]
    generalize event (clearJam d) (s.begun 1) = t at hlive hlink ⊢
    rw [← hlive] at hcleared
    obtain ⟨hocc, hseen, hfault, hsettle, hstate, hattempts⟩ := hcleared
    exact ⟨hocc, hseen, hfault, hsettle, hstate, hattempts, prepare_link 1 _ hlink⟩

end Sys2Proof.Machine

/-! ### The end of a pulse and of a hold (R47, R51 to R53), and what the owning device hears (R20, R28 to R30, R41) -/

namespace Sys2Proof.Machine

/-! #### The coil and its group -/

/-- Whether the request of a coil is over with the pulse that ends. -/
def Coil.ends (v : Coil) : Bool :=
  if v.live.cls = some .eject ∧ v.cfg.profile = .repeating then v.live.ending || decide (v.cfg.repeatLimit ≤ v.live.pulses)
  else !decide (v.live.cls = some .eject ∧ v.cfg.profile = .holdRelease)

/-- Whether a pull-in ends without a hold. -/
def Coil.releases (v : Coil) : Bool :=
  decide ((v.live.cls = some .eject ∧ v.cfg.profile = .holdRelease) ∧ (v.live.ending = true ∨ v.cfg.holdWindow = 0))

/-- The work of a coil when its pulse has ended, before the device hears of it. -/
def coilPulseEnd (c : CoilNo) (v : Coil) (s : State) : State :=
  if v.ends || v.releases then enterRecovering c s
  else if v.live.cls = some .eject ∧ v.cfg.profile = .holdRelease then
    s.modCoilLive c fun l => { l with state := .holding, timer := .load v.cfg.holdWindow }
  else
    s.modCoilLive c fun l =>
      { l with state := .recovering, interval := true, timer := .load (v.cfg.repeatPeriod - v.cfg.pulseWidth) }

/-- What the owner hears of a pulse's end. -/
def pulseReport (v : Coil) (own : Bool) (d : DevNo) (s : State) : State :=
  if v.releases then deviceRelease own d (devicePulseEnd (own && v.ends) d s) else devicePulseEnd (own && v.ends) d s

section
variable {s : State} {c : CoilNo}

theorem takePulseEnd_of_due (hf : (s.coils[c]'c.isLt).live.state = .firing)
    (hd : (s.coils[c]'c.isLt).live.timer.due = true) :
    takePulseEnd c s = reportToOwner c (s.coils[c]'c.isLt).live (pulseReport (s.coils[c]'c.isLt))
      (coilPulseEnd c (s.coils[c]'c.isLt) (groupPulseEnd (s.coils[c]'c.isLt).cfg.group s)) :=
  if_pos ⟨hf, hd⟩

theorem coilPulseEnd_frame (v : Coil) : ∃ coils : Vector Coil 24, coilPulseEnd c v s = { s with coils := coils } := by
  unfold coilPulseEnd
  split
  · exact enterRecovering_frame c s
  · split
    · exact ⟨_, rfl⟩
    · exact ⟨_, rfl⟩

theorem coilPulseEnd_other {e : CoilNo} (v : Coil) (h : e ≠ c) :
    (coilPulseEnd c v s).coils[e]'e.isLt = s.coils[e]'e.isLt := by
  unfold coilPulseEnd
  split
  · exact enterRecovering_other s h
  · split
    · exact (State.modCoilLive_get s c e _).trans (if_neg h)
    · exact (State.modCoilLive_get s c e _).trans (if_neg h)

/-- The recovery of a coil whose work is over. -/
def CoilLive.recovered (l : CoilLive) (time : Nat) : CoilLive :=
  { l with state := .recovering, interval := false, ending := false, ageDue := false, timer := .load time }

theorem enterRecovering_of_pos (h : (s.coils[c]'c.isLt).cfg.recovery ≠ 0) :
    enterRecovering c s = s.modCoilLive c fun l => l.recovered (s.coils[c]'c.isLt).cfg.recovery := if_neg h

theorem enterRecovering_of_zero (h : (s.coils[c]'c.isLt).cfg.recovery = 0)
    (hh : (s.coils[c]'c.isLt).live.held = none) :
    ((enterRecovering c s).coils[c]'c.isLt) = { s.coils[c]'c.isLt with
      live := { (s.coils[c]'c.isLt).live with timer := .stopped }.idled } := by
  have hstop : ((s.modCoilLive c fun l => { l with timer := .stopped }).coils[c]'c.isLt) =
      { s.coils[c]'c.isLt with live := { (s.coils[c]'c.isLt).live with timer := .stopped } } :=
    (State.modCoilLive_get s c c _).trans (if_pos rfl)
  have hidle : enterRecovering c s = enterIdle c (s.modCoilLive c fun l => { l with timer := .stopped }) := if_pos h
  rw [hidle, enterIdle_of_none (by rw [hstop]; exact hh), State.modCoilLive_get, if_pos rfl, hstop]

theorem enterRecovering_cfg : ((enterRecovering c s).coils[c]'c.isLt).cfg = (s.coils[c]'c.isLt).cfg := by
  simp only [enterRecovering]
  split
  · exact ((CoilStep.enterIdle c _).cfg_eq c).trans (State.modCoilLive_cfg s c c _)
  · exact State.modCoilLive_cfg s c c _

theorem coilPulseEnd_cfg (v : Coil) : ((coilPulseEnd c v s).coils[c]'c.isLt).cfg = (s.coils[c]'c.isLt).cfg := by
  unfold coilPulseEnd
  split
  · exact enterRecovering_cfg
  · split
    · exact State.modCoilLive_cfg s c c _
    · exact State.modCoilLive_cfg s c c _

theorem coilPulseEnd_over {v : Coil} (h : v.ends = true) : coilPulseEnd c v s = enterRecovering c s :=
  if_pos (by rw [h, Bool.true_or])

theorem Coil.ends_of_pulse {v : Coil} (h : v.live.cls ≠ some .eject ∨ v.cfg.profile = .pulse) : v.ends = true := by
  have hnot (p : Profile) (hp : p ≠ .pulse) : ¬ (v.live.cls = some .eject ∧ v.cfg.profile = p) := fun ⟨h1, h2⟩ =>
    h.elim (fun g => g h1) fun g => hp (h2.symm.trans g)
  rw [Coil.ends, if_neg (hnot .repeating Profile.noConfusion), decide_eq_false (hnot .holdRelease Profile.noConfusion)]
  rfl

theorem Coil.ends_of_repeat {v : Coil} (hc : v.live.cls = some .eject) (hp : v.cfg.profile = .repeating) :
    v.ends = (v.live.ending || decide (v.cfg.repeatLimit ≤ v.live.pulses)) := if_pos ⟨hc, hp⟩

theorem Coil.ends_of_hold {v : Coil} (hc : v.live.cls = some .eject) (hp : v.cfg.profile = .holdRelease) :
    v.ends = false := by
  have hnot : ¬ (v.live.cls = some .eject ∧ v.cfg.profile = .repeating) := fun h =>
    Profile.noConfusion (hp.symm.trans h.2)
  rw [Coil.ends, if_neg hnot, decide_eq_true ⟨hc, hp⟩]
  rfl

theorem Coil.releases_of_ne {v : Coil} (h : v.cfg.profile ≠ .holdRelease) : v.releases = false :=
  decide_eq_false fun g => h g.1.2

theorem coilPulseEnd_interval {v : Coil} (hp : v.cfg.profile = .repeating) (h : v.ends = false) :
    coilPulseEnd c v s = s.modCoilLive c fun l =>
      { l with state := .recovering, interval := true, timer := .load (v.cfg.repeatPeriod - v.cfg.pulseWidth) } := by
  have hne : v.cfg.profile ≠ .holdRelease := fun g => Profile.noConfusion (hp.symm.trans g)
  rw [coilPulseEnd, h, Coil.releases_of_ne hne, if_neg (by decide), if_neg fun g => hne g.2]

theorem coilPulseEnd_holds {v : Coil} (hc : v.live.cls = some .eject) (hp : v.cfg.profile = .holdRelease)
    (he : v.live.ending = false) (hw : v.cfg.holdWindow ≠ 0) : coilPulseEnd c v s =
      s.modCoilLive c fun l => { l with state := .holding, timer := .load v.cfg.holdWindow } := by
  have hrel : v.releases = false := decide_eq_false fun g => g.2.elim (fun h => by simp [he] at h) hw
  rw [coilPulseEnd, Coil.ends_of_hold hc hp, hrel, if_neg (by decide), if_pos ⟨hc, hp⟩]

end

/-! #### The owning device -/

/-- A device whose settle timer has been restarted. -/
def Device.settled (v : Device) : Device := { v with live := { v.live with settle := .load v.cfg.settleTime } }

/-- A device whose settle timer has been restarted and that has entered CONFIRMING. -/
def Device.reported (v : Device) : Device :=
  { v with live := { v.settled.live with state := .confirming, confirm := .load v.cfg.confirmTimeout } }

section
variable {s : State} {d : DevNo}

theorem restartSettle_set : restartSettle d s = { s with devices := s.devices.set d (s.devices[d]'d.isLt).settled } := rfl

theorem reported_set : enterConfirming d (restartSettle d s) =
    { s with devices := s.devices.set d (s.devices[d]'d.isLt).reported } := by
  have hself : (s.devices.set d (s.devices[d]'d.isLt).settled)[d]'d.isLt = (s.devices[d]'d.isLt).settled :=
    Vector.getElem_set_self d.isLt
  rw [restartSettle_set, enterConfirming, State.modDevice]
  simp only [hself, Vector.set_set]
  rfl

theorem restartSettle_twice : restartSettle d (restartSettle d s) = restartSettle d s := by
  have hself : (s.devices.set d (s.devices[d]'d.isLt).settled)[d]'d.isLt = (s.devices[d]'d.isLt).settled :=
    Vector.getElem_set_self d.isLt
  rw [restartSettle_set, restartSettle_set]
  simp only [hself, Vector.set_set]
  rfl

theorem restartSettle_state : ((restartSettle d s).devices[d]'d.isLt).live.state = (s.devices[d]'d.isLt).live.state := by
  rw [restartSettle_get, if_pos rfl]

/-- A release does to its device what the last pulse does. -/
theorem deviceRelease_eq (own : Bool) : deviceRelease own d s = devicePulseEnd own d s := rfl

theorem devicePulseEnd_disabled {last : Bool} (h : (s.devices[d]'d.isLt).live.state = .disabled) :
    devicePulseEnd last d s = s := if_pos h

theorem devicePulseEnd_settles {last : Bool} (h : (s.devices[d]'d.isLt).live.state ≠ .disabled)
    (hl : last = false ∨ (s.devices[d]'d.isLt).live.state ≠ .ejecting) :
    devicePulseEnd last d s = restartSettle d s := by
  obtain ⟨hs, -⟩ | ⟨hs, ht, -⟩ | ⟨-, -, he⟩ := devicePulseEnd_cases last d s
  · exact absurd hs h
  · exact absurd hs (hl.resolve_left (by rw [ht]; exact Bool.noConfusion))
  · exact he

theorem devicePulseEnd_reports (h : (s.devices[d]'d.isLt).live.state = .ejecting) :
    devicePulseEnd true d s = enterConfirming d (restartSettle d s) := by
  obtain ⟨hs, -⟩ | ⟨-, -, he⟩ | ⟨hn, -, -⟩ := devicePulseEnd_cases true d s
  · exact absurd (h.symm.trans hs) DeviceState.noConfusion
  · exact he
  · exact absurd h (hn.resolve_right Bool.noConfusion)

theorem devicePulseEnd_frame (last : Bool) : ∃ devices, devicePulseEnd last d s = { s with devices := devices } := by
  obtain ⟨-, he⟩ | ⟨-, -, he⟩ | ⟨-, -, he⟩ := devicePulseEnd_cases last d s
  · exact ⟨s.devices, he⟩
  · exact ⟨_, he.trans reported_set⟩
  · exact ⟨_, he⟩

theorem pulseReport_disabled {v : Coil} {own : Bool} (h : (s.devices[d]'d.isLt).live.state = .disabled) :
    pulseReport v own d s = s := by
  rw [pulseReport, devicePulseEnd_disabled h, deviceRelease_eq, devicePulseEnd_disabled h, ite_self]

theorem pulseReport_settles {v : Coil} {own : Bool} (h : (s.devices[d]'d.isLt).live.state ≠ .disabled)
    (hl : own = false ∨ (s.devices[d]'d.isLt).live.state ≠ .ejecting) :
    pulseReport v own d s = restartSettle d s := by
  have hlast : (own && v.ends) = false ∨ (s.devices[d]'d.isLt).live.state ≠ .ejecting :=
    hl.imp (fun g => by rw [g, Bool.false_and]) id
  rw [pulseReport, devicePulseEnd_settles h hlast, deviceRelease_eq, devicePulseEnd_settles (by rwa [restartSettle_state])
    (by rwa [restartSettle_state]), restartSettle_twice, ite_self]

theorem pulseReport_confirms {v : Coil} (h : (s.devices[d]'d.isLt).live.state = .ejecting) (hp : v.cfg.profile = .pulse) :
    pulseReport v true d s = enterConfirming d (restartSettle d s) := by
  have hrel : v.releases = false := Coil.releases_of_ne fun g => Profile.noConfusion (hp.symm.trans g)
  rw [pulseReport, hrel, Coil.ends_of_pulse (.inr hp), if_neg Bool.false_ne_true]
  exact devicePulseEnd_reports h

theorem pulseReport_frame (v : Coil) (own : Bool) : ∃ devices, pulseReport v own d s = { s with devices := devices } := by
  obtain ⟨w, hw⟩ := devicePulseEnd_frame (s := s) (d := d) (own && v.ends)
  rw [pulseReport, hw]
  split
  · obtain ⟨x, hx⟩ := devicePulseEnd_frame (s := { s with devices := w }) (d := d) own
    exact ⟨x, hx⟩
  · exact ⟨w, rfl⟩

end

theorem reportToOwner_frame (c : CoilNo) (v : Coil) (s : State) :
    ∃ devices, reportToOwner c v.live (pulseReport v) s = { s with devices := devices } := by
  obtain ⟨d, -, -, he⟩ | ⟨-, he⟩ := reportToOwner_cases c v.live (pulseReport v) s
  · obtain ⟨w, hw⟩ := pulseReport_frame (s := s) (d := d) v (v.live.held != some d)
    exact ⟨w, he.trans hw⟩
  · exact ⟨s.devices, he⟩

section
variable {c : CoilNo} {l : CoilLive} {report : Bool → DevNo → State → State} {s : State} {d : DevNo}

theorem reportToOwner_own (ho : l.owner = some (.device d)) (hc : (s.devices[d]'d.isLt).cfg.coil = c) :
    reportToOwner c l report s = report (l.held != some d) d s := by
  simp only [reportToOwner, ho]
  exact if_pos hc

theorem reportToOwner_foreign (ho : l.owner = some (.device d)) (hc : (s.devices[d]'d.isLt).cfg.coil ≠ c) :
    reportToOwner c l report s = s := by
  simp only [reportToOwner, ho]
  exact if_neg hc

end

/-! #### The end of a pulse as a whole -/

/-- The state a pulse's end hands to the owning device. -/
def State.pulsed (s : State) (c : CoilNo) : State :=
  coilPulseEnd c (s.coils[c]'c.isLt) (groupPulseEnd (s.coils[c]'c.isLt).cfg.group s)

section
variable {s : State} {c : CoilNo}

theorem pulsed_frame : ∃ (coils : Vector Coil 24) (a b : GroupRec),
    s.pulsed c = { s with coils := coils, groupA := a, groupB := b } := by
  obtain ⟨a, b, hg⟩ := groupPulseEnd_frame (s.coils[c]'c.isLt).cfg.group s
  obtain ⟨v, hv⟩ := coilPulseEnd_frame (s := groupPulseEnd (s.coils[c]'c.isLt).cfg.group s) (c := c) (s.coils[c]'c.isLt)
  refine ⟨v, a, b, ?_⟩
  rw [State.pulsed, hv, hg]

theorem pulsed_group : (s.pulsed c).group (s.coils[c]'c.isLt).cfg.group =
    if s.options.groupGap = 0 then { s.group (s.coils[c]'c.isLt).cfg.group with state := .free }
    else { s.group (s.coils[c]'c.isLt).cfg.group with state := .gap, gap := .load s.options.groupGap } := by
  rw [State.pulsed, State.group_of_coils (coilPulseEnd_frame _), groupPulseEnd_group, if_pos rfl]

theorem pulsed_other {e : CoilNo} (h : e ≠ c) : (s.pulsed c).coils[e]'e.isLt = s.coils[e]'e.isLt := by
  rw [State.pulsed, coilPulseEnd_other _ h, groupPulseEnd_coils]

theorem pulsed_cfg : ((s.pulsed c).coils[c]'c.isLt).cfg = (s.coils[c]'c.isLt).cfg := by
  rw [State.pulsed, coilPulseEnd_cfg, groupPulseEnd_coils]

theorem pulsed_recovers (h : (s.coils[c]'c.isLt).ends = true) (hr : (s.coils[c]'c.isLt).cfg.recovery ≠ 0) :
    ((s.pulsed c).coils[c]'c.isLt).live = (s.coils[c]'c.isLt).live.recovered (s.coils[c]'c.isLt).cfg.recovery := by
  rw [State.pulsed, coilPulseEnd_over h, enterRecovering_of_pos (by rwa [groupPulseEnd_coils]), State.modCoilLive_get,
    if_pos rfl, groupPulseEnd_coils]

theorem pulsed_rests (h : (s.coils[c]'c.isLt).ends = true) (hr : (s.coils[c]'c.isLt).cfg.recovery = 0)
    (hh : (s.coils[c]'c.isLt).live.held = none) :
    ((s.pulsed c).coils[c]'c.isLt).live = { (s.coils[c]'c.isLt).live with timer := .stopped }.idled := by
  rw [State.pulsed, coilPulseEnd_over h, enterRecovering_of_zero (by rwa [groupPulseEnd_coils])
    (by rwa [groupPulseEnd_coils]), groupPulseEnd_coils]

theorem pulsed_interval (hp : (s.coils[c]'c.isLt).cfg.profile = .repeating) (h : (s.coils[c]'c.isLt).ends = false) :
    ((s.pulsed c).coils[c]'c.isLt).live = { (s.coils[c]'c.isLt).live with
      state := .recovering, interval := true,
      timer := .load ((s.coils[c]'c.isLt).cfg.repeatPeriod - (s.coils[c]'c.isLt).cfg.pulseWidth) } := by
  rw [State.pulsed, coilPulseEnd_interval hp h, State.modCoilLive_get, if_pos rfl, groupPulseEnd_coils]

theorem pulsed_holds (hc : (s.coils[c]'c.isLt).live.cls = some .eject)
    (hp : (s.coils[c]'c.isLt).cfg.profile = .holdRelease) (he : (s.coils[c]'c.isLt).live.ending = false)
    (hw : (s.coils[c]'c.isLt).cfg.holdWindow ≠ 0) : ((s.pulsed c).coils[c]'c.isLt).live =
      { (s.coils[c]'c.isLt).live with state := .holding, timer := .load (s.coils[c]'c.isLt).cfg.holdWindow } := by
  rw [State.pulsed, coilPulseEnd_holds hc hp he hw, State.modCoilLive_get, if_pos rfl, groupPulseEnd_coils]

theorem pulseEnd_exec (hf : (s.coils[c]'c.isLt).live.state = .firing)
    (hd : (s.coils[c]'c.isLt).live.timer.due = true) : exec (.pulseEnd c) s =
      .next (reportToOwner c (s.coils[c]'c.isLt).live (pulseReport (s.coils[c]'c.isLt)) (s.pulsed c)) :=
  congrArg Host.Outcome.next (takePulseEnd_of_due hf hd)

theorem holdWindow_exec (hh : (s.coils[c]'c.isLt).live.state = .holding)
    (hd : (s.coils[c]'c.isLt).live.timer.due = true) : exec (.holdWindowExpiry c) s =
      .next (reportToOwner c (s.coils[c]'c.isLt).live deviceRelease (enterRecovering c s)) :=
  congrArg Host.Outcome.next (if_pos ⟨hh, hd⟩)

/-- The coil and its group after a pulse's end. -/
theorem pulseEnd_coils (hf : (s.coils[c]'c.isLt).live.state = .firing)
    (hd : (s.coils[c]'c.isLt).live.timer.due = true) : ∃ t : State, exec (.pulseEnd c) s = .next t ∧
      t.coils = (s.pulsed c).coils ∧ ∀ g, t.group g = (s.pulsed c).group g := by
  obtain ⟨w, hw⟩ := reportToOwner_frame c (s.coils[c]'c.isLt) (s.pulsed c)
  refine ⟨_, (pulseEnd_exec hf hd).trans (congrArg _ hw), rfl, fun g => ?_⟩
  cases g with
  | a => rfl
  | b => rfl

end

/-- What the owner of a coil does to its device at a report, by what the device does then and by its request held. -/
structure Hears (c : CoilNo) (d : DevNo) (confirms : Prop) (held : Option DevNo) (v w : Vector Device 8) : Prop where
  confirming : (v[d]'d.isLt).cfg.coil = c → held = none → (v[d]'d.isLt).live.state = .ejecting → confirms →
    w = v.set d (v[d]'d.isLt).reported
  settling : (v[d]'d.isLt).cfg.coil = c → (v[d]'d.isLt).live.state ≠ .disabled →
    held = some d ∨ (v[d]'d.isLt).live.state ≠ .ejecting → w = v.set d (v[d]'d.isLt).settled
  deaf : (v[d]'d.isLt).cfg.coil ≠ c ∨ (v[d]'d.isLt).live.state = .disabled → w = v

section
variable {c : CoilNo} {d : DevNo} {u : State}

theorem pulseReport_hears {v : Coil} (ho : v.live.owner = some (.device d)) :
    Hears c d (v.cfg.profile = .pulse) v.live.held u.devices (reportToOwner c v.live (pulseReport v) u).devices where
  confirming hc hh he hp := by
    rw [reportToOwner_own ho hc, hh, show ((none : Option DevNo) != some d) = true from rfl, pulseReport_confirms he hp,
      reported_set]
  settling hc hn hs := by
    have hown : (v.live.held != some d) = false ∨ (u.devices[d]'d.isLt).live.state ≠ .ejecting :=
      hs.imp (fun g => by rw [g, bne_self_eq_false]) id
    rw [reportToOwner_own ho hc, pulseReport_settles hn hown, restartSettle_set]
  deaf hc := by
    by_cases hcoil : (u.devices[d]'d.isLt).cfg.coil = c
    · rw [reportToOwner_own ho hcoil, pulseReport_disabled (hc.resolve_left fun g => g hcoil)]
    · rw [reportToOwner_foreign ho hcoil]

theorem holdReport_confirms {l : CoilLive} (ho : l.owner = some (.device d)) (hc : (u.devices[d]'d.isLt).cfg.coil = c)
    (hh : l.held = none) (he : (u.devices[d]'d.isLt).live.state = .ejecting) :
    reportToOwner c l deviceRelease u = { u with devices := u.devices.set d (u.devices[d]'d.isLt).reported } := by
  rw [reportToOwner_own ho hc, hh, show ((none : Option DevNo) != some d) = true from rfl, deviceRelease_eq,
    devicePulseEnd_reports he, reported_set]

theorem holdReport_deaf {l : CoilLive} (ho : l.owner = some (.device d))
    (hc : (u.devices[d]'d.isLt).cfg.coil ≠ c ∨ (u.devices[d]'d.isLt).live.state = .disabled) :
    reportToOwner c l deviceRelease u = u := by
  by_cases hcoil : (u.devices[d]'d.isLt).cfg.coil = c
  · rw [reportToOwner_own ho hcoil, deviceRelease_eq, devicePulseEnd_disabled (hc.resolve_left fun g => g hcoil)]
  · rw [reportToOwner_foreign ho hcoil]

end

section
variable {s : State} {c : CoilNo} {d : DevNo}

theorem pulseEnd_devices (hf : (s.coils[c]'c.isLt).live.state = .firing)
    (hd : (s.coils[c]'c.isLt).live.timer.due = true) (ho : (s.coils[c]'c.isLt).live.owner = some (.device d)) :
    ∃ t : State, exec (.pulseEnd c) s = .next t ∧ t.slots = s.slots ∧
      Hears c d ((s.coils[c]'c.isLt).cfg.profile = .pulse) (s.coils[c]'c.isLt).live.held s.devices t.devices := by
  obtain ⟨v, a, b, hp⟩ := pulsed_frame (s := s) (c := c)
  obtain ⟨w, hw⟩ := reportToOwner_frame c (s.coils[c]'c.isLt) (s.pulsed c)
  have hears := pulseReport_hears (c := c) (u := s.pulsed c) ho
  have hdev : (s.pulsed c).devices = s.devices := by rw [hp]
  rw [hdev] at hears
  exact ⟨_, pulseEnd_exec hf hd, by rw [hw, hp], hears⟩

/-- A hold's release, where the coil recovers. -/
theorem released_coils (hr : (s.coils[c]'c.isLt).cfg.recovery ≠ 0) : enterRecovering c s = { s with
    coils := s.coils.set c { s.coils[c]'c.isLt with
      live := (s.coils[c]'c.isLt).live.recovered (s.coils[c]'c.isLt).cfg.recovery } } := enterRecovering_of_pos hr

end

/-- Settles O20. -/
theorem pulseEndsMoveCoilAndDevice : Obligations.PulseEndsMoveCoilAndDevice := by
  unfold Obligations.PulseEndsMoveCoilAndDevice
  refine ⟨fun s c hf hd => ?_, fun s c d ho hd => ?_⟩
  · have c_lt := c.isLt
    obtain ⟨t, ht, hcoils, hgroups⟩ := pulseEnd_coils hf hd
    refine ⟨t, ht, ?_, ?_, ?_, ?_, ?_, ?_, ?_, ?_, ?_, ?_⟩
    · rw [hgroups, pulsed_group]
      split <;> rfl
    · intro hg
      rw [hgroups, pulsed_group, if_neg hg]
      rfl
    · rw [hgroups, pulsed_group]
      split <;> rfl
    · intro e he
      rw [hcoils, pulsed_other he]
    · rw [hcoils, pulsed_cfg]
    · intro hk hr
      rw [hcoils, pulsed_recovers (Coil.ends_of_pulse hk) hr]
      exact ⟨rfl, rfl, rfl, rfl, rfl⟩
    · intro hk hr hh
      rw [hcoils, pulsed_rests (Coil.ends_of_pulse hk) hr hh]
      exact ⟨rfl, rfl, rfl, rfl, rfl⟩
    · intro hk hp he hl
      rw [hcoils, pulsed_interval hp]
      · rfl
      · rw [Coil.ends_of_repeat hk hp, he, decide_eq_false (Nat.not_le.mpr hl)]
        rfl
    · intro hk hp hl hr
      have hends : (s.coils[c]'c.isLt).ends = true := by
        rw [Coil.ends_of_repeat hk hp, Bool.or_eq_true, decide_eq_true_iff]
        exact hl.symm
      rw [hcoils, pulsed_recovers hends hr]
      exact ⟨rfl, rfl, rfl⟩
    · intro hk hp he hw
      rw [hcoils, pulsed_holds hk hp he hw]
      rfl
  · intro settled device
    refine ⟨fun hf => ?_, fun hh hr => ?_⟩
    · obtain ⟨t, ht, hslots, hconfirming, hsettling, hdeaf⟩ := pulseEnd_devices hf hd ho
      refine ⟨t, ht, hslots, fun hc hn he hp => hconfirming hc hn he hp, fun hc hn he => ?_, fun hc hs => ?_, hdeaf⟩
      · exact hsettling hc (fun g => DeviceState.noConfusion (he.symm.trans g)) (.inl hn)
      · have hrest : (s.devices[d]'d.isLt).live.state ≠ .disabled ∧ (s.devices[d]'d.isLt).live.state ≠ .ejecting := by
          obtain h | h | h := hs <;> rw [h] <;> exact ⟨DeviceState.noConfusion, DeviceState.noConfusion⟩
        exact hsettling hc hrest.1 (.inr hrest.2)
    · intro coils
      have hexec := holdWindow_exec hh hd
      rw [released_coils hr] at hexec
      refine ⟨fun hc hn he => ?_, fun hc => ?_⟩
      · exact hexec.trans (congrArg _ (holdReport_confirms ho hc hn he))
      · exact hexec.trans (congrArg _ (holdReport_deaf ho hc))

end Sys2Proof.Machine

/-! ### SERVE (R73) -/

namespace Sys2Proof.Machine

/-! #### The close of an event that leaves the live and missing counts together as they were -/

/-- The close of an event that ends no phase. -/
theorem closeEvent_steady {before s : State} (hl : s.loose = before.loose) (hp : s.acct.phase ≠ .play)
    (hb : s.acct.phase = .serving ∨ s.acct.phase = .launchWait → s.ballsInPlay ≠ 0) :
    closeEvent before s = holdTimers (s.modAcct fun a => { a with inPlay := s.ballsInPlay }) := by
  have hends : ¬ (before.loose ≠ 0 ∧ before.loose = 0) := fun h => h.1 h.2
  have hloads : ¬ (before.loose = 0 ∧ before.loose ≠ 0) := fun h => h.2 h.1
  simp only [closeEvent, hl, if_neg hends, if_neg hloads, formPlay, State.modAcct_acct]
  cases hph : s.acct.phase with
  | play => exact absurd hph hp
  | serving => exact congrArg holdTimers (if_neg (hb (.inl hph)))
  | launchWait => exact congrArg holdTimers (if_neg (hb (.inr hph)))
  | noPlay => rfl
  | ended => rfl

/-- The accounting record when a search ends (R83). -/
def Accounting.unsearched (a : Accounting) (delay : Nat) : Accounting :=
  if a.search = .idle then a
  else { a with search := .idle, round := 0, searchTimer := a.searchTimer.halt, searchSlow := false, lastSearch := none,
                idleTimer := .load delay }

theorem endSearch_unsearched (s : State) : ∃ coils : Vector Coil 24,
    endSearch s = { s with coils := coils, acct := s.acct.unsearched s.options.idleDelay } := by
  unfold endSearch Accounting.unsearched
  split
  · exact ⟨s.coils, rfl⟩
  · obtain ⟨v, hv⟩ := withdrawWaiting_frame [.search] s
    exact ⟨v, by rw [hv]; rfl⟩

/-! #### The ball placed -/

/-- The ball of an accepted SERVE: the shooter lane's, or one that the trough owes. -/
def placeBall (auto : Bool) (s : State) : State :=
  if 1 ≤ (s.devices[shooter]'shooter.isLt).live.occupancy then
    if auto then addOwed shooter (setPhase .launchWait (s.modAcct fun a => { a with serveLaunch := auto }))
    else setPhase .launchWait (s.modAcct fun a => { a with serveLaunch := auto })
  else setPhase .serving (addOwed trough (s.modAcct fun a => { a with serveLaunch := auto }))

/-- Multiplier, ball save, tilt and search as a new ball finds them. -/
def freshBall (saveTime : Nat) (s : State) : State :=
  stopIdle (endSearch ((if saveTime = 0
    then saveOff (setPfMult 1 0 { s with session := { s.session with tilt := .normal, warnings := 0 } })
    else saveActive saveTime (setPfMult 1 0 { s with session := { s.session with tilt := .normal, warnings := 0 } })
    ).modAcct fun a => { a with savesUsed := 0 }))

theorem startBallInPlay_eq (saveTime : Nat) (auto : Bool) (s : State) :
    startBallInPlay saveTime auto s = freshBall saveTime (placeBall auto s) := rfl

/-- The accounting record of a fresh ball. -/
def Accounting.refreshed (a : Accounting) (saveTime : Nat) : Accounting :=
  if saveTime = 0 then { a with saveState := .off, saveTimer := .stopped, savesUsed := 0 }
  else { a with saveState := .active, saveTimer := .load saveTime, savesUsed := 0 }

/-- The records of a fresh ball before the search is ended. -/
def State.refreshed (s : State) (saveTime : Nat) : State :=
  { s with
    session := { s.session with tilt := .normal, warnings := 0 },
    pfMult := (setPfMult 1 0 s).pfMult, pfTimer := (setPfMult 1 0 s).pfTimer, pfDue := (setPfMult 1 0 s).pfDue,
    acct := s.acct.refreshed saveTime }

theorem freshBall_eq (saveTime : Nat) (s : State) :
    freshBall saveTime s = stopIdle (endSearch (s.refreshed saveTime)) := by
  unfold freshBall State.refreshed Accounting.refreshed
  split <;> rfl

theorem freshBall_frame (saveTime : Nat) (s : State) : ∃ coils : Vector Coil 24, freshBall saveTime s = { s with
    coils := coils, session := { s.session with tilt := .normal, warnings := 0 },
    pfMult := (setPfMult 1 0 s).pfMult, pfTimer := (setPfMult 1 0 s).pfTimer, pfDue := (setPfMult 1 0 s).pfDue,
    acct := { (s.acct.refreshed saveTime).unsearched s.options.idleDelay with
      idleTimer := ((s.acct.refreshed saveTime).unsearched s.options.idleDelay).idleTimer.halt } } := by
  obtain ⟨v, hv⟩ := endSearch_unsearched (s.refreshed saveTime)
  rw [freshBall_eq, hv]
  exact ⟨v, rfl⟩

/-- What the ball's place leaves of the records. -/
structure Placed (auto : Bool) (s t : State) : Prop where
  acct : t.acct = { s.acct with
    serveLaunch := auto,
    phase := if 1 ≤ (s.devices[shooter]'shooter.isLt).live.occupancy then .launchWait else .serving }
  session : t.session = s.session
  options : t.options = s.options
  link : t.link = s.link
  cfg : ∀ d : DevNo, (t.devices[d]'d.isLt).cfg = (s.devices[d]'d.isLt).cfg
  occupancy : ∀ d : DevNo, (t.devices[d]'d.isLt).live.occupancy = (s.devices[d]'d.isLt).live.occupancy
  lane : 1 ≤ (s.devices[shooter]'shooter.isLt).live.occupancy →
    (t.devices[shooter]'shooter.isLt).live.owed = (if auto then 1 else 0) ∧
      (t.devices[trough]'trough.isLt).live.owed = 0
  trough : (s.devices[shooter]'shooter.isLt).live.occupancy = 0 →
    (t.devices[trough]'trough.isLt).live.owed = 1 ∧ (t.devices[shooter]'shooter.isLt).live.owed = 0

/-- An owed eject added where none is owed. -/
structure OwesOne (d : DevNo) (s t : State) : Prop where
  frame : OrderFrame s t
  owes : Owes d s t
  owed : (t.devices[d]'d.isLt).live.owed = 1

theorem addOwed_owesOne {d : DevNo} {s : State} (h : (s.devices[d]'d.isLt).live.state ≠ .disabled)
    (h0 : (s.devices[d]'d.isLt).live.owed = 0) : OwesOne d s (addOwed d s) where
  frame := .of_addOwed d s
  owes := addOwed_owes d s
  owed := by rw [addOwed_owed h, h0]; rfl

theorem OwesOne.all {d : DevNo} {s t : State} (h : OwesOne d s t) : t.acct = s.acct ∧ t.session = s.session ∧
    t.options = s.options ∧ t.link = s.link := by
  obtain ⟨v, c, x, b, hf⟩ := h.frame
  rw [hf]
  exact ⟨State.raiseIf_acct _ b _, State.raiseIf_session _ b _, State.raiseIf_options _ b _, State.raiseIf_link _ b _⟩

theorem OwesOne.cfg {d : DevNo} {s t : State} (h : OwesOne d s t) (e : DevNo) :
    (t.devices[e]'e.isLt).cfg = (s.devices[e]'e.isLt).cfg := by
  by_cases he : e = d
  · rw [he, h.owes.cfg]
  · rw [h.owes.others e he]

theorem OwesOne.occupancy {d : DevNo} {s t : State} (h : OwesOne d s t) (e : DevNo) :
    (t.devices[e]'e.isLt).live.occupancy = (s.devices[e]'e.isLt).live.occupancy := by
  by_cases he : e = d
  · rw [he, h.owes.occupancy]
  · rw [h.owes.others e he]

theorem placeBall_placed (auto : Bool) {s : State}
    (ht : (s.devices[trough]'trough.isLt).live.state ≠ .disabled)
    (hs : (s.devices[shooter]'shooter.isLt).live.state ≠ .disabled)
    (howed : ∀ d : DevNo, (s.devices[d]'d.isLt).live.owed = 0) : Placed auto s (placeBall auto s) := by
  have hne : trough ≠ shooter := by decide
  unfold placeBall
  by_cases hocc : 1 ≤ (s.devices[shooter]'shooter.isLt).live.occupancy
  · have hpos : ¬ (s.devices[shooter]'shooter.isLt).live.occupancy = 0 := by omega
    rw [if_pos hocc]
    cases auto with
    | false =>
      rw [if_neg Bool.false_ne_true]
      exact { acct := by rw [if_pos hocc]; rfl, session := rfl, options := rfl, link := rfl, cfg := fun _ => rfl,
              occupancy := fun _ => rfl, lane := fun _ => ⟨howed shooter, howed trough⟩,
              trough := fun h => absurd h hpos }
    | true =>
      rw [if_pos rfl]
      have hone := addOwed_owesOne (d := shooter) (s := setPhase .launchWait (s.modAcct fun a =>
        { a with serveLaunch := true })) hs (howed shooter)
      generalize addOwed shooter (setPhase .launchWait (s.modAcct fun a => { a with serveLaunch := true })) = t at hone ⊢
      obtain ⟨hacct, hsession, hoptions, hlink⟩ := hone.all
      refine ⟨hacct.trans (by rw [if_pos hocc]; rfl), hsession, hoptions, hlink, hone.cfg, hone.occupancy,
        fun _ => ⟨hone.owed, ?_⟩, fun h => absurd h hpos⟩
      rw [hone.owes.others trough hne]
      exact howed trough
  · rw [if_neg hocc]
    have hone := addOwed_owesOne (d := trough) (s := s.modAcct fun a => { a with serveLaunch := auto }) ht (howed trough)
    generalize addOwed trough (s.modAcct fun a => { a with serveLaunch := auto }) = t at hone ⊢
    obtain ⟨hacct, hsession, hoptions, hlink⟩ := hone.all
    refine ⟨?_, hsession, hoptions, hlink, hone.cfg, hone.occupancy, fun h => absurd h hocc, fun _ => ⟨hone.owed, ?_⟩⟩
    · rw [if_neg hocc, setPhase, State.modAcct_acct, hacct]
      rfl
    · have hother : (t.devices[shooter]'shooter.isLt) = s.devices[shooter]'shooter.isLt := hone.owes.others shooter hne.symm
      exact (congrArg (fun v => v.live.owed) hother).trans (howed shooter)

/-! #### The request -/

/-- Whether a session and a phase let a ball be served. -/
def State.ready (s : State) : Prop := s.session.state = .opened ∧ (s.acct.phase = .noPlay ∨ s.acct.phase = .ended)

/-- Whether a ball is under way. -/
def State.rolling (s : State) : Prop :=
  0 < s.acct.live ∨ s.acct.flights ≠ [] ∨ (∃ d : DevNo, 0 < (s.devices[d]'d.isLt).live.owed) ∨
    ∃ n : SlotNo, (s.slots[n]'n.isLt).state = .active

theorem serve_eq (t1 t0 : Byte) (auto : Bool) (s : State) : serve [t1, t0, flagByte auto] s = match s.serveCheck with
    | .ok => ok (event (startBallInPlay (word16 t1 t0) auto) s) []
    | st => refuse s st := by
  have hflag : (flagByte auto == 1) = auto := by cases auto <;> rfl
  simp only [serve, flagOf_flagByte, Option.isSome_some, withEncodingCheck_true, hflag] <;> rfl

section
variable {s : State}

theorem serveCheck_unready (h : ¬ s.ready) : s.serveCheck = .refusedState := by
  unfold State.serveCheck
  by_cases ho : s.session.state = .opened
  · rw [if_neg (by rw [State.isOpen_of_opened ho]; decide), if_pos ⟨fun g => h ⟨ho, .inl g⟩, fun g => h ⟨ho, .inr g⟩⟩]
  · have hopen : s.isOpen = false := by simp [State.isOpen, ho]
    rw [hopen]
    exact if_pos rfl

theorem serveCheck_ready (h : s.ready) : s.serveCheck =
    if 0 < s.acct.live ∨ s.acct.flights ≠ [] then .refusedBusy
    else if (indices 8).any (fun d => decide (0 < (s.devices[d]'d.isLt).live.owed)) ∨
        (indices 8).any (fun n => (s.slots[n]'n.isLt).state == .active) then .refusedBusy
    else if (s.devices[shooter]'shooter.isLt).live.occupancy = 0 ∧ (s.devices[trough]'trough.isLt).live.occupancy = 0
      then .refusedState else .ok := by
  obtain ⟨ho, hp⟩ := h
  unfold State.serveCheck
  rw [if_neg (by rw [State.isOpen_of_opened ho]; decide), if_neg fun g => hp.elim g.1 g.2]

theorem owes_or_active_iff : ((indices 8).any (fun d => decide (0 < (s.devices[d]'d.isLt).live.owed)) = true ∨
    (indices 8).any (fun n => (s.slots[n]'n.isLt).state == .active) = true) ↔
      (∃ d : DevNo, 0 < (s.devices[d]'d.isLt).live.owed) ∨ ∃ n : SlotNo, (s.slots[n]'n.isLt).state = .active := by
  simp [List.any_eq_true, mem_indices]

theorem serveCheck_rolling (h : s.ready) (hr : s.rolling) : s.serveCheck = .refusedBusy := by
  rw [serveCheck_ready h]
  obtain hl | hf | hrest := hr
  · rw [if_pos (.inl hl)]
  · rw [if_pos (.inr hf)]
  · split
    · rfl
    · exact if_pos (owes_or_active_iff.mpr hrest)

theorem serveCheck_still (h : s.ready) (hr : ¬ s.rolling) : s.serveCheck =
    if (s.devices[shooter]'shooter.isLt).live.occupancy = 0 ∧ (s.devices[trough]'trough.isLt).live.occupancy = 0
      then .refusedState else .ok := by
  rw [serveCheck_ready h, if_neg fun g => hr (g.elim .inl fun k => .inr (.inl k)),
    if_neg fun g => hr (.inr (.inr (owes_or_active_iff.mp g)))]

end

/-- What an accepted SERVE leaves. -/
structure Served (saveTime : Nat) (auto : Bool) (s t : State) : Prop where
  lane : 1 ≤ (s.devices[shooter]'shooter.isLt).live.occupancy → t.acct.phase = .launchWait ∧
    (t.devices[shooter]'shooter.isLt).live.owed = (if auto then 1 else 0) ∧
      (t.devices[trough]'trough.isLt).live.owed = 0
  trough : (s.devices[shooter]'shooter.isLt).live.occupancy = 0 → t.acct.phase = .serving ∧
    (t.devices[trough]'trough.isLt).live.owed = 1 ∧ (t.devices[shooter]'shooter.isLt).live.owed = 0
  serveLaunch : t.acct.serveLaunch = auto
  session : t.session = { s.session with tilt := .normal, warnings := 0 }
  pfMult : t.pfMult = 1
  pfTimer : t.pfTimer = 0
  savesUsed : t.acct.savesUsed = 0
  search : t.acct.search = .idle
  round : (s.acct.search = .idle → s.acct.round = 0) → t.acct.round = 0
  idle : t.acct.idleTimer.running = false
  unsaved : saveTime = 0 → t.acct.saveState = .off ∧ t.acct.saveTimer = ⟨0, false, false⟩
  saved : saveTime ≠ 0 → t.acct.saveState = .active ∧ t.acct.saveTimer = ⟨saveTime, true, false⟩
  inPlay : t.acct.inPlay = t.ballsInPlay
  missing : t.acct.missing = s.acct.missing
  live : t.acct.live = s.acct.live
  flights : t.acct.flights = s.acct.flights
  link : t.link = s.link

theorem Accounting.unsearched_fields (a : Accounting) (delay : Nat) :
    (a.unsearched delay).search = .idle ∧ (a.unsearched delay).phase = a.phase ∧
      (a.unsearched delay).serveLaunch = a.serveLaunch ∧ (a.unsearched delay).saveState = a.saveState ∧
      (a.unsearched delay).saveTimer = a.saveTimer ∧ (a.unsearched delay).savesUsed = a.savesUsed ∧
      (a.unsearched delay).live = a.live ∧ (a.unsearched delay).missing = a.missing ∧
      (a.unsearched delay).flights = a.flights ∧ ((a.search = .idle → a.round = 0) → (a.unsearched delay).round = 0) := by
  unfold Accounting.unsearched
  split
  · next h => exact ⟨h, rfl, rfl, rfl, rfl, rfl, rfl, rfl, rfl, fun g => g h⟩
  · exact ⟨rfl, rfl, rfl, rfl, rfl, rfl, rfl, rfl, rfl, fun _ => rfl⟩

theorem Accounting.refreshed_fields (a : Accounting) (saveTime : Nat) :
    (a.refreshed saveTime).search = a.search ∧ (a.refreshed saveTime).phase = a.phase ∧
      (a.refreshed saveTime).serveLaunch = a.serveLaunch ∧ (a.refreshed saveTime).savesUsed = 0 ∧
      (a.refreshed saveTime).live = a.live ∧ (a.refreshed saveTime).missing = a.missing ∧
      (a.refreshed saveTime).flights = a.flights ∧ (a.refreshed saveTime).round = a.round := by
  unfold Accounting.refreshed
  split <;> exact ⟨rfl, rfl, rfl, rfl, rfl, rfl, rfl, rfl⟩

/-- The accounting record after SERVE, before the close of its event. -/
structure FreshBooks (saveTime : Nat) (a b : Accounting) : Prop where
  phase : b.phase = a.phase
  serveLaunch : b.serveLaunch = a.serveLaunch
  savesUsed : b.savesUsed = 0
  search : b.search = .idle
  round : (a.search = .idle → a.round = 0) → b.round = 0
  idle : b.idleTimer.running = false
  unsaved : saveTime = 0 → b.saveState = .off ∧ b.saveTimer = .stopped
  saved : saveTime ≠ 0 → b.saveState = .active ∧ b.saveTimer = .load saveTime
  missing : b.missing = a.missing
  live : b.live = a.live
  flights : b.flights = a.flights

theorem freshBooks (saveTime delay : Nat) (a : Accounting) : FreshBooks saveTime a
    { (a.refreshed saveTime).unsearched delay with
      idleTimer := ((a.refreshed saveTime).unsearched delay).idleTimer.halt } := by
  obtain ⟨hsearch, hphase, hlaunch, hsaves, hlive, hmissing, hflights, hround⟩ := a.refreshed_fields saveTime
  obtain ⟨gsearch, gphase, glaunch, gstate, gtimer, gsaves, glive, gmissing, gflights, ground⟩ :=
    (a.refreshed saveTime).unsearched_fields delay
  refine ⟨gphase.trans hphase, glaunch.trans hlaunch, gsaves.trans hsaves, gsearch,
    fun h => ground (by rw [hsearch, hround]; exact h), rfl, fun h => ⟨gstate.trans ?_, gtimer.trans ?_⟩,
    fun h => ⟨gstate.trans ?_, gtimer.trans ?_⟩, gmissing.trans hmissing, glive.trans hlive, gflights.trans hflights⟩
  · rw [Accounting.refreshed, if_pos h]
  · rw [Accounting.refreshed, if_pos h]
  · rw [Accounting.refreshed, if_neg h]
  · rw [Accounting.refreshed, if_neg h]

theorem Timer.keepIf_of_idle (ok : Bool) {r : Timer} (h : r.due = false) : r.keepIf ok = r := by
  rw [Timer.keepIf, h, Bool.false_and, ← h]

/-- A ball in the shooter lane, or one that the trough owes, is in play (R71). -/
theorem State.ballsInPlay_ne_zero {s : State} (h : 1 ≤ (s.devices[shooter]'shooter.isLt).live.occupancy ∨
    1 ≤ (s.devices[trough]'trough.isLt).live.owed) : s.ballsInPlay ≠ 0 := by
  unfold State.ballsInPlay
  omega

theorem startBallInPlay_served (saveTime : Nat) (auto : Bool) {s : State}
    (ht : (s.devices[trough]'trough.isLt).live.state ≠ .disabled)
    (hs : (s.devices[shooter]'shooter.isLt).live.state ≠ .disabled)
    (howed : ∀ d : DevNo, (s.devices[d]'d.isLt).live.owed = 0) :
    Served saveTime auto s (event (startBallInPlay saveTime auto) s) := by
  have hplaced := placeBall_placed auto ht hs howed
  rw [event, startBallInPlay_eq]
  generalize placeBall auto s = p at hplaced ⊢
  obtain ⟨hacct, hsession, hoptions, hlink, hcfg, hocc, hlane, htrough⟩ := hplaced
  obtain ⟨v, hv⟩ := freshBall_frame saveTime p
  have hbooks := freshBooks saveTime p.options.idleDelay p.acct
  have hfresh : (freshBall saveTime p).devices = p.devices ∧
      (freshBall saveTime p).session = { s.session with tilt := .normal, warnings := 0 } ∧
      (freshBall saveTime p).pfMult = 1 ∧ (freshBall saveTime p).pfTimer = 0 ∧ (freshBall saveTime p).link = s.link ∧
      FreshBooks saveTime p.acct (freshBall saveTime p).acct := by
    rw [hv]
    exact ⟨rfl, by rw [hsession], rfl, rfl, hlink, hbooks⟩
  clear hv hbooks
  generalize freshBall saveTime p = u at hfresh ⊢
  obtain ⟨hdev, husession, hmult, htimer, hulink, hb⟩ := hfresh
  have hphase : u.acct.phase = if 1 ≤ (s.devices[shooter]'shooter.isLt).live.occupancy then .launchWait else .serving := by
    rw [hb.phase, hacct]
  have hballs : u.ballsInPlay ≠ 0 := by
    refine State.ballsInPlay_ne_zero ?_
    rw [hdev, hocc]
    by_cases h1 : 1 ≤ (s.devices[shooter]'shooter.isLt).live.occupancy
    · exact .inl h1
    · exact .inr (htrough (by omega)).1.ge
  have hloose : u.loose = s.loose := by
    rw [State.loose, State.loose, hb.live, hb.missing, hacct]
  have hsteady := closeEvent_steady hloose (by rw [hphase]; split <;> exact PlayPhase.noConfusion) fun _ => hballs
  have hclosed := (closeEvent_closing s u).ballsInPlay
  rw [hsteady] at hclosed ⊢
  refine ⟨fun h => ⟨hphase.trans (if_pos h), ?_⟩, fun h => ⟨hphase.trans (if_neg (by omega)), ?_⟩,
    hb.serveLaunch.trans (by rw [hacct]), husession, hmult, htimer, hb.savesUsed, hb.search, fun h => hb.round ?_, hb.idle,
    fun h => ⟨(hb.unsaved h).1, ?_⟩, fun h => ⟨(hb.saved h).1, ?_⟩, hclosed.symm, hb.missing.trans (by rw [hacct]),
    hb.live.trans (by rw [hacct]), hb.flights.trans (by rw [hacct]), hulink⟩
  · have h2 := hlane h
    rw [← hdev] at h2
    exact h2
  · have h2 := htrough h
    rw [← hdev] at h2
    exact h2
  · rw [hacct]
    exact h
  · refine (Timer.keepIf_of_idle _ ?_).trans (hb.unsaved h).2
    rw [State.modAcct_acct, (hb.unsaved h).2]
    rfl
  · refine (Timer.keepIf_of_idle _ ?_).trans (hb.saved h).2
    rw [State.modAcct_acct, (hb.saved h).2]
    rfl

/-- Settles O27. -/
theorem serveOutcome : Obligations.ServeOutcome := by
  unfold Obligations.ServeOutcome
  refine ⟨fun s time auto h => ?_, fun s t1 t0 auto h ho hp hl hf howed hslots hball htr hsh hround => ?_⟩
  · intro send ready rolling
    have hrefuse {st : Status} (hst : st ≠ .ok) (hc : (s.begun 3).serveCheck = st) : send = .next (s.refused 3 st) := by
      refine request_refused (len := 3) (run := serve) h rfl ?_
      rw [serve_eq, hc]
      cases st with
      | ok => exact absurd rfl hst
      | _ => rfl
    refine ⟨fun hn => hrefuse Status.noConfusion (serveCheck_unready hn),
      fun hr hroll => hrefuse Status.noConfusion (serveCheck_rolling hr hroll), fun hr hroll h1 h2 => ?_⟩
    exact hrefuse Status.noConfusion ((serveCheck_still hr hroll).trans (if_pos ⟨h1, h2⟩))
  · have hstill : ¬ (s.begun 3).rolling := by
      rintro (h1 | h1 | ⟨d, h1⟩ | ⟨n, h1⟩)
      · exact absurd hl (Nat.pos_iff_ne_zero.mp h1)
      · exact h1 hf
      · exact absurd (howed d) (Nat.pos_iff_ne_zero.mp h1)
      · exact hslots n h1
    have hcheck : (s.begun 3).serveCheck = .ok :=
      (serveCheck_still ⟨ho, hp⟩ hstill).trans (if_neg fun g => by
        obtain h1 | h1 := hball
        · exact absurd g.1 (Nat.pos_iff_ne_zero.mp h1)
        · exact absurd g.2 (Nat.pos_iff_ne_zero.mp h1))
    have haccepts : serve [t1, t0, flagByte auto] (s.begun 3) =
        ok (event (startBallInPlay (word16 t1 t0) auto) (s.begun 3)) [] := by
      rw [serve_eq, hcheck]
    refine ⟨_, request_ok (len := 3) (run := serve) h rfl haccepts, ?_⟩
    have hserved := startBallInPlay_served (word16 t1 t0) auto (s := s.begun 3) htr hsh howed
    generalize event (startBallInPlay (word16 t1 t0) auto) (s.begun 3) = t at hserved ⊢
    obtain ⟨hlane, htrough, hlaunch, hsession, hmult, htimer, hsaves, hsearch, hrnd, hidle, hunsaved, hsaved, hin, hmis,
      hlv, hfl, hlink⟩ := hserved
    refine ⟨hlane, htrough, hlaunch, ?_, ?_, ?_, ?_, hmult, htimer, hsaves, hsearch, hrnd hround, hidle, hunsaved, hsaved,
      hin, hmis, hlv.trans hl, hfl.trans hf, prepare_link 3 _ hlink⟩
    · exact (congrArg Session.tilt hsession).trans rfl
    · exact (congrArg Session.warnings hsession).trans rfl
    · exact (congrArg Session.swing hsession).trans rfl
    · exact (congrArg Session.current hsession).trans rfl

end Sys2Proof.Machine

/-! ### SET_DEVICE (R19) -/

namespace Sys2Proof.Machine

/-! #### The checks of R19's table -/

section
variable (f : DeviceFields) (d : DevNo)

/-- A number that the table answers NOT_FOUND. -/
def DeviceFields.Unknown (f : DeviceFields) : Prop :=
  (f.unused = false ∧ ∃ b ∈ f.positions, 127 < b.toNat) ∨ (127 < f.entry.toNat ∧ f.entry ≠ 0xFF) ∨
    (f.unused = false ∧ 23 < f.coil.toNat) ∨ (f.unused = false ∧ 7 < f.target.toNat ∧ f.target ≠ 0xFF)

/-- The timer and attempt bytes in their ranges. -/
abbrev DeviceFields.Timed (f : DeviceFields) : Prop :=
  f.settle ≠ 0 ∧ f.confirm ≠ 0 ∧ f.flight ≠ 0 ∧ f.attempts ≠ 0 ∧ f.attempts.toNat ≤ 7

/-- A value that the table answers BAD_VALUE. -/
def DeviceFields.Bad (f : DeviceFields) (d : DevNo) : Prop :=
  ¬ (nameOf DeviceKind.names f.kind).any (kindFits d) = true ∨
    (f.unused = false ∧ (f.finalCapacity = 0 ∨ 8 < f.finalCapacity)) ∨
    (f.unused = false ∧ (f.length.toNat ≠ f.finalCapacity ∨ ¬ f.positions.Nodup ∨ f.entry ∈ f.positions)) ∨
    (f.unused = false ∧ (f.target = 0 ∨ f.target = byte d.val)) ∨ ¬ f.Timed

/-- The table as conditions. -/
theorem DeviceFields.check_eq : f.check d =
    if (f.unused = false ∧ ∃ b ∈ f.positions, 127 < b.toNat) ∨ (127 < f.entry.toNat ∧ f.entry ≠ 0xFF) then .notFound
    else if f.unused = false ∧ 23 < f.coil.toNat then .notFound
    else if f.unused = false ∧ 7 < f.target.toNat ∧ f.target ≠ 0xFF then .notFound
    else if ¬ (nameOf DeviceKind.names f.kind).any (kindFits d) = true then .badValue
    else if f.unused = false ∧ (f.finalCapacity = 0 ∨ 8 < f.finalCapacity) then .badValue
    else if f.unused = false ∧ (f.length.toNat ≠ f.finalCapacity ∨ ¬ f.positions.Nodup ∨ f.entry ∈ f.positions)
      then .badValue
    else if f.unused = false ∧ (f.target = 0 ∨ f.target = byte d.val) then .badValue
    else if ¬ f.Timed then .badValue else .ok := by
  unfold DeviceFields.check
  dsimp only
  refine if_congr ?_ rfl (if_congr ?_ rfl (if_congr ?_ rfl (if_congr ?_ rfl (if_congr ?_ rfl (if_congr ?_ rfl
    (if_congr ?_ rfl (if_congr ?_ rfl rfl)))))))
  · simp [DeviceFields.badEntry, Config.noneByte, Nat.succ_le_iff, and_comm]
  · simp [Nat.succ_le_iff]
  · simp [Config.noneByte, Nat.succ_le_iff, and_comm, and_assoc]
  · simp
  · simp
  · simp [or_assoc]
  · simp
  · simp [DeviceFields.Timed]
    tauto

variable {f d}

theorem DeviceFields.check_unknown (h : f.Unknown) : f.check d = .notFound := by
  rw [DeviceFields.check_eq]
  obtain h | h | h | h := h
  · exact if_pos (.inl h)
  · exact if_pos (.inr h)
  · rw [if_pos h, ite_self]
  · rw [if_pos h, ite_self, ite_self]

theorem DeviceFields.check_known (h : ¬ f.Unknown) : f.check d =
    if ¬ (nameOf DeviceKind.names f.kind).any (kindFits d) = true then .badValue
    else if f.unused = false ∧ (f.finalCapacity = 0 ∨ 8 < f.finalCapacity) then .badValue
    else if f.unused = false ∧ (f.length.toNat ≠ f.finalCapacity ∨ ¬ f.positions.Nodup ∨ f.entry ∈ f.positions)
      then .badValue
    else if f.unused = false ∧ (f.target = 0 ∨ f.target = byte d.val) then .badValue
    else if ¬ f.Timed then .badValue else .ok := by
  rw [DeviceFields.check_eq, if_neg fun g => h (g.elim .inl fun k => .inr (.inl k)),
    if_neg fun g => h (.inr (.inr (.inl g))), if_neg fun g => h (.inr (.inr (.inr g)))]

theorem DeviceFields.check_bad (h : ¬ f.Unknown) (hb : f.Bad d) : f.check d = .badValue := by
  rw [DeviceFields.check_known h]
  obtain hb | hb | hb | hb | hb := hb
  · exact if_pos hb
  · rw [if_pos hb, ite_self]
  · rw [if_pos hb, ite_self, ite_self]
  · rw [if_pos hb, ite_self, ite_self, ite_self]
  · rw [if_pos hb, ite_self, ite_self, ite_self, ite_self]

theorem DeviceFields.check_ok (h : ¬ f.Unknown) (hb : ¬ f.Bad d) : f.check d = .ok := by
  rw [DeviceFields.check_known h, if_neg fun g => hb (.inl g), if_neg fun g => hb (.inr (.inl g)),
    if_neg fun g => hb (.inr (.inr (.inl g))), if_neg fun g => hb (.inr (.inr (.inr (.inl g)))),
    if_neg fun g => hb (.inr (.inr (.inr (.inr g))))]

end

/-! #### The kind byte -/

/-- The bytes of the five kinds. -/
theorem kindByte_cases (k : Byte) : k = 0 ∨ k = 1 ∨ k = 2 ∨ k = 3 ∨ k = 4 ∨ 5 ≤ k.toNat := by bv_omega

theorem nameOf_kind_none {k : Byte} (h : 5 ≤ k.toNat) : nameOf DeviceKind.names k = none := nameOf_eq_none.mpr h

theorem DeviceFields.unused_iff (f : DeviceFields) : f.unused = true ↔ f.kind = 0 := by
  unfold DeviceFields.unused
  obtain h | h | h | h | h | h := kindByte_cases f.kind
  case inr.inr.inr.inr.inr =>
    have hne : f.kind ≠ 0 := fun g => by rw [g] at h; exact absurd h (by decide)
    rw [nameOf_kind_none h]
    exact iff_of_false (by decide) hne
  all_goals
    rw [h]
    decide

theorem DeviceFields.unused_eq_false (f : DeviceFields) : f.unused = false ↔ f.kind ≠ 0 := by
  rw [← Bool.not_eq_true, f.unused_iff]

theorem DeviceFields.finalCapacity_eq (f : DeviceFields) :
    f.finalCapacity = if f.kind = 1 ∨ f.kind = 4 then f.capacity.toNat else 1 := by
  unfold DeviceFields.finalCapacity
  obtain h | h | h | h | h | h := kindByte_cases f.kind
  case inr.inr.inr.inr.inr =>
    have hne : ¬ (f.kind = 1 ∨ f.kind = 4) := fun g => by
      obtain g | g := g <;> rw [g] at h <;> exact absurd h (by decide)
    rw [nameOf_kind_none h, if_neg hne]
  all_goals
    rw [h]
    rfl

theorem kindFits_iff (k : Byte) (d : DevNo) : (nameOf DeviceKind.names k).any (kindFits d) = true ↔
    (d = 0 ∧ k = 1) ∨ (d = 1 ∧ k = 2) ∨ (2 ≤ d.val ∧ (k = 0 ∨ k = 3 ∨ k = 4)) := by
  obtain h | h | h | h | h | h := kindByte_cases k
  case inr.inr.inr.inr.inr =>
    have hne : ∀ j : Byte, j.toNat < 5 → k ≠ j := fun j hj g => by rw [g] at h; omega
    rw [nameOf_kind_none h]
    refine iff_of_false Bool.false_ne_true ?_
    rintro (⟨-, g⟩ | ⟨-, g⟩ | ⟨-, g | g | g⟩) <;> exact hne _ (by decide) g
  all_goals
    subst h
    revert d
    decide

/-! #### The bytes of a body -/

theorem exists_four {α : Type} {l : List α} {n : Nat} (h : l.length = n + 4) :
    ∃ (a b c d : α) (t : List α), l = a :: b :: c :: d :: t ∧ t.length = n := by
  obtain _ | ⟨a, _ | ⟨b, _ | ⟨c, _ | ⟨d, t⟩⟩⟩⟩ := l
  case cons.cons.cons.cons => exact ⟨a, b, c, d, t, rfl, by simpa using h⟩
  all_goals simp at h

theorem deviceFields_placed {places : List Byte} (h : places.length = 8)
    (d k cap len en co ta st ct ma ft ht po sf : Byte) :
    deviceFields ([d, k, cap, len] ++ places ++ [en, co, ta, st, ct, ma, ft, ht, po, sf]) = some
      { device := d, kind := k, capacity := cap, length := len, places := places, entry := en, coil := co, target := ta,
        settle := st, confirm := ct, attempts := ma, flight := ft, hold := ht, policy := po, search := sf } := by
  obtain ⟨p0, p1, p2, p3, t, rfl, h4⟩ := exists_four (n := 4) h
  obtain ⟨p4, p5, p6, p7, t, rfl, h0⟩ := exists_four (n := 0) h4
  obtain rfl := List.length_eq_zero_iff.mp h0
  rfl

theorem deviceFields_ends {body : List Byte} (h : body.length = 20) (po sf : Byte) :
    ∃ f, deviceFields (body ++ [po, sf]) = some f ∧ f.device = body.getD 0 0 ∧ f.policy = po ∧ f.search = sf := by
  obtain ⟨b0, b1, b2, b3, t, rfl, h16⟩ := exists_four (n := 16) h
  obtain ⟨b4, b5, b6, b7, t, rfl, h12⟩ := exists_four (n := 12) h16
  obtain ⟨b8, b9, b10, b11, t, rfl, h8⟩ := exists_four (n := 8) h12
  obtain ⟨b12, b13, b14, b15, t, rfl, h4⟩ := exists_four (n := 4) h8
  obtain ⟨b16, b17, b18, b19, t, rfl, h0⟩ := exists_four (n := 0) h4
  obtain rfl := List.length_eq_zero_iff.mp h0
  exact ⟨_, rfl, rfl, rfl, rfl⟩

theorem LockPolicy.mem_names (p : LockPolicy) : p ∈ LockPolicy.names := by cases p <;> decide

theorem DeviceFields.encoded_of {f : DeviceFields} {policy : LockPolicy} {search : Bool}
    (hp : f.policy = nameByte LockPolicy.names policy) (hs : f.search = flagByte search) : f.encoded = true := by
  rw [DeviceFields.encoded, hp, hs, flagOf_flagByte, nameOf_nameByte (LockPolicy.mem_names policy)]
  rfl

/-! #### The request -/

section
variable {body : List Byte} {f : DeviceFields} {s : State} (hf : deviceFields body = some f) (he : f.encoded = true)
include hf he

theorem setDevice_enabled (h : s.devicesEnabled = true) : setDevice body s = refuse s .refusedState := by
  simp only [setDevice, hf, he, h, if_true, withEncodingCheck_true]

theorem setDevice_unknown (h : s.devicesEnabled = false) (hd : 7 < f.device.toNat) :
    setDevice body s = refuse s .notFound := by
  simp only [setDevice, hf, he, h, Bool.false_eq_true, if_false, withEncodingCheck_true,
    indexOf_none (n := 8) (Nat.succ_le_of_lt hd)]

variable {d : DevNo} (h : s.devicesEnabled = false) (hd : f.device = byte d.val)
include h hd

theorem setDevice_refused {st : Status} (hc : f.check d = st) (hst : st ≠ .ok) : setDevice body s = refuse s st := by
  simp only [setDevice, hf, he, h, hd, Bool.false_eq_true, if_false, withEncodingCheck_true, indexOf_byte d, hc]
  cases st with
  | ok => exact absurd rfl hst
  | _ => rfl

theorem setDevice_stores (hc : f.check d = .ok) : setDevice body s = ok (storeDevice d (f.config d) s) [] := by
  simp only [setDevice, hf, he, h, hd, Bool.false_eq_true, if_false, withEncodingCheck_true, indexOf_byte d, hc]
  rfl

end

/-- What SET_DEVICE stores, with the pages written out. -/
theorem storeDevice_eq (d : DevNo) (cfg : DeviceConfig) (s : State) : storeDevice d cfg s = { s with
    devices := s.devices.set d { s.devices[d]'d.isLt with cfg := cfg },
    pages := if h : 2 ≤ d.val then
        s.pages.map fun g => { g with lit := g.lit.set (d.val - 2) 0 (by omega),
                                      credits := g.credits.set (d.val - 2) 0 (by omega) }
      else s.pages } := by
  unfold storeDevice lockNo
  by_cases h : 2 ≤ d.val
  · rw [dif_pos h, dif_pos h]
    rfl
  · rw [dif_neg h, dif_neg h]
    rfl

/-! #### The configuration stored -/

theorem byte_ne_noneByte {n : Nat} (h : n < 255) : byte n ≠ Config.noneByte := fun g => by
  have hn := byte_toNat_of_lt (show n < 256 by omega)
  rw [g] at hn
  have h255 : Config.noneByte.toNat = 255 := rfl
  omega

theorem byte_inj {m n : Nat} (hm : m < 256) (hn : n < 256) (h : byte m = byte n) : m = n := by
  rw [← byte_toNat_of_lt hm, h, byte_toNat_of_lt hn]

theorem targetOfNat_device (e : DevNo) : targetOfNat e.val = .device e := dif_pos e.isLt

section
variable (f : DeviceFields) (d : DevNo)

theorem DeviceFields.storedCoil_byte (c : CoilNo) (h : f.coil = byte c.val) : f.storedCoil = c := by
  rw [DeviceFields.storedCoil, h, indexOf_byte c, Option.getD_some]

theorem DeviceFields.storedTarget_playfield (h : f.target = Config.noneByte) : f.storedTarget d = .playfield := if_pos h

theorem DeviceFields.storedTarget_device (e : DevNo) (h0 : e ≠ 0) (hd : e ≠ d) (h : f.target = byte e.val) :
    f.storedTarget d = .device e := by
  have e_lt := e.isLt
  have d_lt := d.isLt
  have hval : f.target.toNat = e.val := by rw [h, byte_toNat_of_lt (by omega)]
  have hother : ¬ (8 ≤ f.target.toNat ∨ f.target = 0 ∨ f.target = byte d.val) := by
    rintro (g | g | g)
    · omega
    · exact h0 (Fin.ext (byte_inj (by omega) (by omega) (h.symm.trans g)))
    · exact hd (Fin.ext (byte_inj (by omega) (by omega) (h.symm.trans g)))
  rw [DeviceFields.storedTarget, if_neg (by rw [h]; exact byte_ne_noneByte (by omega)), if_neg hother, hval,
    targetOfNat_device]

end

section
variable (ps : List SwitchNo) (rest : List Byte)

theorem take_positions (h : ps.length < 256) :
    (ps.map (fun n => byte n.val) ++ rest).take (byte ps.length).toNat = ps.map fun n => byte n.val := by
  rw [byte_toNat_of_lt h]
  exact List.take_left' (List.length_map ..)

theorem switchBytes_lt : ∀ b ∈ ps.map (fun n => byte n.val), b.toNat < 128 := by
  intro b hb
  obtain ⟨n, -, rfl⟩ := List.mem_map.mp hb
  have n_lt := n.isLt
  rw [byte_toNat_of_lt (by omega)]
  exact n_lt

theorem switchByte_mem {n : SwitchNo} : byte n.val ∈ ps.map (fun n => byte n.val) ↔ n ∈ ps := by
  refine ⟨fun h => ?_, fun h => List.mem_map_of_mem h⟩
  obtain ⟨m, hm, he⟩ := List.mem_map.mp h
  have n_lt := n.isLt
  have m_lt := m.isLt
  exact Fin.ext (byte_inj (by omega) (by omega) he) ▸ hm

theorem switchBytes_nodup (h : ps.Nodup) : (ps.map fun n => byte n.val).Nodup :=
  List.Nodup.map (fun m n he => Fin.ext (byte_inj (by omega) (by omega) he)) h

theorem switchBytes_read : (ps.map fun n => byte n.val).filterMap (indexOf 128) = ps := by
  rw [List.filterMap_map]
  have hread : (indexOf 128 ∘ fun n : SwitchNo => byte n.val) = some := funext fun n => indexOf_byte n
  rw [hread, List.filterMap_some]

theorem entryByte_not_mem {entry : Option SwitchNo} (h : ∀ n ∈ ps, entry ≠ some n) :
    optByte (entry.map (·.val)) ∉ ps.map fun n => byte n.val := by
  cases entry with
  | none => exact fun g => absurd (switchBytes_lt ps _ g) (by decide)
  | some n => exact fun g => h n ((switchByte_mem ps).mp g) rfl

theorem entryByte_read (entry : Option SwitchNo) : indexOf 128 (optByte (entry.map (·.val))) = entry := by
  cases entry with
  | none => rfl
  | some n => exact indexOf_byte n

theorem entryByte_known (entry : Option SwitchNo) :
    ¬ (127 < (optByte (entry.map (·.val))).toNat ∧ optByte (entry.map (·.val)) ≠ 0xFF) := by
  cases entry with
  | none => exact fun g => g.2 rfl
  | some n =>
    have n_lt := n.isLt
    have hval : (byte n.val).toNat = n.val := byte_toNat_of_lt (by omega)
    intro g
    have hlt : 127 < (byte n.val).toNat := g.1
    omega

end

theorem targetByte_known (target : Target) : ¬ (7 < (targetByte target).toNat ∧ targetByte target ≠ 0xFF) := by
  cases target with
  | playfield => exact fun g => g.2 rfl
  | device e =>
    have e_lt := e.isLt
    have hval : (byte e.val).toNat = e.val := byte_toNat_of_lt (by omega)
    intro g
    have hlt : 7 < (byte e.val).toNat := g.1
    omega

theorem targetByte_from {target : Target} {d : DevNo} (h : target.From d) :
    ¬ (targetByte target = 0 ∨ targetByte target = byte d.val) := by
  have d_lt := d.isLt
  cases target with
  | playfield => exact fun g => g.elim (byte_ne_noneByte (n := 0) (by omega)).symm (byte_ne_noneByte (by omega)).symm
  | device e =>
    have e_lt := e.isLt
    obtain ⟨h0, hd⟩ := h
    rintro (g | g)
    · exact h0 (congrArg Target.device (Fin.ext (byte_inj (by omega) (by omega) g)))
    · exact hd (congrArg Target.device (Fin.ext (byte_inj (by omega) (by omega) g)))

theorem storedTarget_of_from {f : DeviceFields} {target : Target} {d : DevNo} (h : target.From d)
    (hf : f.target = targetByte target) : f.storedTarget d = target := by
  cases target with
  | playfield => exact f.storedTarget_playfield d hf
  | device e =>
    obtain ⟨h0, hd⟩ := h
    exact f.storedTarget_device d e (fun g => h0 (by rw [g]; rfl)) (fun g => hd (by rw [g])) hf

theorem DeviceKind.mem_names (k : DeviceKind) : k ∈ DeviceKind.names := by cases k <;> decide

/-- The configuration of an UNUSED device (R19). -/
theorem DeviceFields.config_unused {f : DeviceFields} {policy : LockPolicy} {search : Bool} (d : DevNo)
    (hk : f.kind = 0) (hp : f.policy = nameByte LockPolicy.names policy) (hs : f.search = flagByte search) :
    f.config d = { kind := .unused, configured := true, capacity := 1, positions := [], entry := none,
                   coil := f.storedCoil, target := f.storedTarget d, settleTime := f.settle.toNat,
                   confirmTimeout := f.confirm.toNat, maxAttempts := f.attempts.toNat, flightTime := f.flight.toNat,
                   holdTime := f.hold.toNat, policy := policy, searchFlag := search } := by
  have hcap : f.finalCapacity = 1 := by rw [f.finalCapacity_eq, hk]; rfl
  have hkind : nameOf DeviceKind.names f.kind = some .unused := by rw [hk]; rfl
  rw [DeviceFields.config, hcap, hkind, f.unused_iff.mpr hk, hp, hs, flagOf_flagByte,
    nameOf_nameByte (LockPolicy.mem_names policy)]
  rfl

/-- A body of SET_DEVICE with every value in its range (R19). -/
structure DeviceFields.Fits (f : DeviceFields) (d : DevNo) (kind : DeviceKind) (ps : List SwitchNo)
    (entry : Option SwitchNo) (coil : CoilNo) (target : Target) : Prop where
  isKind : f.kind = nameByte DeviceKind.names kind
  used : kind ≠ .unused
  fits : kindFits d kind = true
  hasCapacity : ps.length = if kind = .trough ∨ kind = .lock then f.capacity.toNat else 1
  hasLength : f.length = byte ps.length
  one : 1 ≤ ps.length
  eight : ps.length ≤ 8
  places : f.positions = ps.map fun n => byte n.val
  nodup : ps.Nodup
  isEntry : f.entry = optByte (entry.map (·.val))
  apart : ∀ n ∈ ps, entry ≠ some n
  isCoil : f.coil = byte coil.val
  isTarget : f.target = targetByte target
  aims : target.From d

section
variable {f : DeviceFields} {d : DevNo} {kind : DeviceKind} {ps : List SwitchNo} {entry : Option SwitchNo}
  {coil : CoilNo} {target : Target}

theorem DeviceFields.Fits.named (h : f.Fits d kind ps entry coil target) :
    nameOf DeviceKind.names f.kind = some kind := by
  rw [h.isKind, nameOf_nameByte (DeviceKind.mem_names kind)]

theorem DeviceFields.Fits.unused (h : f.Fits d kind ps entry coil target) : f.unused = false := by
  rw [DeviceFields.unused, h.named]
  exact beq_eq_false_iff_ne.mpr fun g => h.used (Option.some.inj g)

theorem DeviceFields.Fits.finalCapacity (h : f.Fits d kind ps entry coil target) : f.finalCapacity = ps.length := by
  have hcap := h.hasCapacity
  rw [DeviceFields.finalCapacity, h.named, hcap]
  cases kind with
  | unused => exact absurd rfl h.used
  | trough => rfl
  | shooter => rfl
  | saucer => rfl
  | lock => rfl

theorem DeviceFields.Fits.known (h : f.Fits d kind ps entry coil target) : ¬ f.Unknown := by
  rintro (⟨-, b, hb, hlt⟩ | hen | ⟨-, hco⟩ | ⟨-, hta⟩)
  · rw [h.places] at hb
    exact absurd (switchBytes_lt ps b hb) (by omega)
  · rw [h.isEntry] at hen
    exact entryByte_known entry hen
  · have coil_lt := coil.isLt
    rw [h.isCoil, byte_toNat_of_lt (by omega)] at hco
    omega
  · rw [h.isTarget] at hta
    exact targetByte_known target hta

theorem DeviceFields.Fits.good (h : f.Fits d kind ps entry coil target) (ht : f.Timed) : ¬ f.Bad d := by
  have hone := h.one
  have height := h.eight
  rintro (g | ⟨-, g⟩ | ⟨-, g⟩ | ⟨-, g⟩ | g)
  · rw [h.named] at g
    exact g h.fits
  · rw [h.finalCapacity] at g
    omega
  · rw [h.finalCapacity, h.places, h.isEntry, h.hasLength, byte_toNat_of_lt (by omega)] at g
    obtain g | g | g := g
    · exact g rfl
    · exact g (switchBytes_nodup ps h.nodup)
    · exact entryByte_not_mem ps h.apart g
  · rw [h.isTarget] at g
    exact targetByte_from h.aims g
  · exact g ht

theorem DeviceFields.Fits.config {policy : LockPolicy} {search : Bool} (h : f.Fits d kind ps entry coil target)
    (hp : f.policy = nameByte LockPolicy.names policy) (hs : f.search = flagByte search) :
    f.config d = { kind := kind, configured := true, capacity := ps.length, positions := ps, entry := entry,
                   coil := coil, target := target, settleTime := f.settle.toNat, confirmTimeout := f.confirm.toNat,
                   maxAttempts := f.attempts.toNat, flightTime := f.flight.toNat, holdTime := f.hold.toNat,
                   policy := policy, searchFlag := search } := by
  rw [DeviceFields.config, h.finalCapacity, h.named, h.unused, h.places, switchBytes_read, h.isEntry, entryByte_read,
    f.storedCoil_byte coil h.isCoil, storedTarget_of_from h.aims h.isTarget, hp, hs, flagOf_flagByte,
    nameOf_nameByte (LockPolicy.mem_names policy)]
  rfl

end

theorem ne_zero_of_pos {b : Byte} (h : 1 ≤ b.toNat) : b ≠ 0 := by
  rintro rfl
  exact absurd h (by decide)

/-- Settles O8. -/
theorem setDeviceOutcome : Obligations.SetDeviceOutcome := by
  unfold Obligations.SetDeviceOutcome
  refine ⟨fun s body policy search h hlen => ?_, fun s d k cap len en co ta st ct ma ft ht places policy search h hoff hpl => ?_,
    fun s d kind cap ps rest entry coil target st ct ma ft ht policy search h hoff hun hfits hcap hone height hplaces
      hnodup hapart haims h1 h2 h3 h4 h5 => ?_⟩
  · obtain ⟨f, hf, hdev, hpo, hse⟩ := deviceFields_ends hlen (nameByte LockPolicy.names policy) (flagByte search)
    have henc := DeviceFields.encoded_of hpo hse
    have hwhole : (body ++ [nameByte LockPolicy.names policy, flagByte search]).length = 22 := by
      rw [List.length_append, hlen]
      rfl
    refine ⟨fun hon => ?_, fun hoff hd => ?_⟩
    · exact request_refused (len := 22) (run := setDevice) h hwhole (setDevice_enabled hf henc hon)
    · exact request_refused (len := 22) (run := setDevice) h hwhole (setDevice_unknown hf henc hoff (hdev ▸ hd))
  · intro send list capacity unknown times bad
    have hf := deviceFields_placed hpl (byte d.val) k cap len en co ta st ct ma ft ht (nameByte LockPolicy.names policy)
      (flagByte search)
    have hwhole : ([byte d.val, k, cap, len] ++ places ++ [en, co, ta, st, ct, ma, ft, ht,
        nameByte LockPolicy.names policy, flagByte search]).length = 22 := by
      rw [List.length_append, List.length_append, hpl]
      rfl
    have henc := DeviceFields.encoded_of (f := ⟨byte d.val, k, cap, len, places, en, co, ta, st, ct, ma, ft, ht,
      nameByte LockPolicy.names policy, flagByte search⟩) rfl rfl
    generalize hfd : (⟨byte d.val, k, cap, len, places, en, co, ta, st, ct, ma, ft, ht,
      nameByte LockPolicy.names policy, flagByte search⟩ : DeviceFields) = f at hf henc
    have hused : f.unused = false ↔ k ≠ 0 := by rw [f.unused_eq_false, ← hfd]
    have hdev : f.device = byte d.val := by rw [← hfd]
    have hunknown : f.Unknown ↔ unknown := by
      unfold DeviceFields.Unknown
      rw [hused, ← hfd]
      exact Iff.rfl
    have hbad : f.Bad d ↔ bad := by
      unfold DeviceFields.Bad
      rw [hused, kindFits_iff, f.finalCapacity_eq, ← hfd]
      exact Iff.rfl
    refine ⟨fun hu => ?_, fun hu hb => ?_, fun hu h2 hk htimes => ?_⟩
    · exact request_refused (len := 22) (run := setDevice) h hwhole (setDevice_refused (s := s.begun 22) hf henc hoff hdev
        (DeviceFields.check_unknown (hunknown.mpr hu)) Status.noConfusion)
    · exact request_refused (len := 22) (run := setDevice) h hwhole (setDevice_refused (s := s.begun 22) hf henc hoff hdev
        (DeviceFields.check_bad (mt hunknown.mp hu) (hbad.mpr hb)) Status.noConfusion)
    · have hgood : ¬ bad := by
        rintro (g | g | g | g | g)
        · exact g (.inr (.inr ⟨h2, .inl hk⟩))
        · exact g.1 hk
        · exact g.1 hk
        · exact g.1 hk
        · exact g htimes
      have hconfig := DeviceFields.config_unused (f := f) (policy := policy) (search := search) d
        (by rw [← hfd]; exact hk) (by rw [← hfd]) (by rw [← hfd])
      have hstores := setDevice_stores (s := s.begun 22) hf henc hoff hdev
        (DeviceFields.check_ok (mt hunknown.mp hu) (mt hbad.mp hgood))
      refine ⟨f.storedCoil, f.storedTarget d, fun c hc => f.storedCoil_byte c (by rw [← hfd]; exact hc),
        fun hta => f.storedTarget_playfield d (by rw [← hfd]; exact hta),
        fun e h0 he hta => f.storedTarget_device d e h0 he (by rw [← hfd]; exact hta), ?_⟩
      refine request_done (len := 22) (run := setDevice) h hwhole hstores ?_
      rw [hconfig, storeDevice_eq, ← hfd]
      rfl
  · have hpl : (ps.map (fun n => byte n.val) ++ rest).length = 8 := by
      rw [List.length_append, List.length_map, hplaces]
    have hf := deviceFields_placed hpl (byte d.val) (nameByte DeviceKind.names kind) cap (byte ps.length)
      (optByte (entry.map (·.val))) (byte coil.val) (targetByte target) st ct ma ft ht (nameByte LockPolicy.names policy)
      (flagByte search)
    have hwhole : ([byte d.val, nameByte DeviceKind.names kind, cap, byte ps.length] ++
        (ps.map (fun n => byte n.val) ++ rest) ++ [optByte (entry.map (·.val)), byte coil.val, targetByte target, st, ct,
        ma, ft, ht, nameByte LockPolicy.names policy, flagByte search]).length = 22 := by
      rw [List.length_append, List.length_append, hpl]
      rfl
    have hjoin (l : List Byte) : l ++ ps.map (fun n => byte n.val) ++ rest = l ++ (ps.map (fun n => byte n.val) ++ rest) :=
      List.append_assoc l _ rest
    rw [hjoin]
    generalize hfd : (⟨byte d.val, nameByte DeviceKind.names kind, cap, byte ps.length,
      ps.map (fun n => byte n.val) ++ rest, optByte (entry.map (·.val)), byte coil.val, targetByte target, st, ct, ma, ft,
      ht, nameByte LockPolicy.names policy, flagByte search⟩ : DeviceFields) = f at hf
    have hfit : f.Fits d kind ps entry coil target := by
      rw [← hfd]
      exact ⟨rfl, hun, hfits, hcap, rfl, hone, height, take_positions ps rest (by omega), hnodup, rfl, hapart, rfl, rfl,
        haims⟩
    have htimed : f.Timed := by
      rw [← hfd]
      exact ⟨ne_zero_of_pos h1, ne_zero_of_pos h2, ne_zero_of_pos h3, ne_zero_of_pos h4, h5⟩
    have hpolicy : f.policy = nameByte LockPolicy.names policy := by rw [← hfd]
    have hsearch : f.search = flagByte search := by rw [← hfd]
    have hdev : f.device = byte d.val := by rw [← hfd]
    have hconfig := hfit.config hpolicy hsearch
    have hstores := setDevice_stores (s := s.begun 22) hf (DeviceFields.encoded_of hpolicy hsearch) hoff hdev
      (DeviceFields.check_ok hfit.known (hfit.good htimed))
    refine request_done (len := 22) (run := setDevice) h hwhole hstores ?_
    rw [hconfig, storeDevice_eq, ← hfd]
    rfl

end Sys2Proof.Machine

/-! ### The counts set afresh, and the orders taken after them (R40, R68, R69) -/

namespace Sys2Proof.Machine

/-! #### A surplus above 16 -/

/-- The work of a device apart from its occupancy and its count-fault flag. -/
def DeviceLive.uncounted (l : DeviceLive) : DeviceLive := { l with occupancy := 0, countFault := false }

/-- Between two states only occupancies and count-fault flags differ. -/
structure Shed (s t : State) : Prop where
  frame : ∃ v : Vector Device 8, t = { s with devices := v }
  cfg : ∀ d : DevNo, (t.devices[d]'d.isLt).cfg = (s.devices[d]'d.isLt).cfg
  live : ∀ d : DevNo, (t.devices[d]'d.isLt).live.uncounted = (s.devices[d]'d.isLt).live.uncounted

theorem Shed.refl (s : State) : Shed s s := ⟨⟨s.devices, rfl⟩, fun _ => rfl, fun _ => rfl⟩

theorem Shed.trans {s t u : State} (h : Shed s t) (g : Shed t u) : Shed s u where
  frame := by
    obtain ⟨v, rfl⟩ := h.frame
    obtain ⟨w, rfl⟩ := g.frame
    exact ⟨w, rfl⟩
  cfg d := (g.cfg d).trans (h.cfg d)
  live d := (g.live d).trans (h.live d)

theorem shedFrom_shed (acc : State × Nat) (d : DevNo) : Shed acc.1 (shedFrom acc d).1 := by
  simp only [shedFrom]
  split
  · exact .refl _
  · refine ⟨⟨_, rfl⟩, fun e => State.modLive_cfg acc.1 d e _, fun e => ?_⟩
    dsimp only
    rw [State.modLive_get]
    split
    · next he =>
      rw [he]
      rfl
    · rfl

theorem shedSurplus_shed (n : Nat) (s : State) : Shed s (shedSurplus n s) := by
  rw [shedSurplus_eq]
  suffices h : ∀ (l : List DevNo) (acc : State × Nat), Shed acc.1 (l.foldl shedFrom acc).1 from h _ (s, n)
  intro l
  induction l with
  | nil => exact fun acc => .refl acc.1
  | cons d l ih => exact fun acc => (shedFrom_shed acc d).trans (ih _)

theorem shedSurplus_zero (s : State) : shedSurplus 0 s = s := by
  rw [shedSurplus_eq]
  suffices h : ∀ l : List DevNo, l.foldl shedFrom (s, 0) = (s, 0) by rw [h]
  intro l
  induction l with
  | nil => rfl
  | cons d l ih =>
    have hnone : shedFrom (s, 0) d = (s, 0) := if_pos (Nat.min_zero _)
    rw [List.foldl_cons, hnone, ih]

/-- What setting the counts does (R68, R69). -/
structure Settled (b : Nat) (s t : State) : Prop where
  frame : ∃ (v : Vector Device 8) (n : Notices) (a : Accounting), t = { s with devices := v, notices := n, acct := a }
  acct : t.acct = { s.acct with installed := if s.occupancies ≤ b then b else min Config.maxInstalled s.occupancies,
                                missing := b - s.occupancies, live := 0, flights := [] }
  cfg : ∀ d : DevNo, (t.devices[d]'d.isLt).cfg = (s.devices[d]'d.isLt).cfg
  live : ∀ d : DevNo, (t.devices[d]'d.isLt).live.uncounted = (s.devices[d]'d.isLt).live.uncounted
  same : s.occupancies ≤ Config.maxInstalled → b ≤ Config.maxInstalled → t.devices = s.devices
  extra : b < s.occupancies → t.isPending .extraBall = true

theorem surplus_frame {n : Nat} {s t : State}
    (h : ∃ v : Vector Device 8, t = { surplusCounts n s with devices := v }) :
    ∃ (v : Vector Device 8) (n : Notices) (a : Accounting), t = { s with devices := v, notices := n, acct := a } := by
  obtain ⟨v, rfl⟩ := h
  exact ⟨v, _, _, rfl⟩

theorem settleCounts_settled (b : Nat) (s : State) : Settled b s (settleCounts b s) := by
  rw [settleCounts_eq]
  split
  · next h =>
    exact ⟨⟨_, _, _, rfl⟩, by rw [if_pos h]; rfl, fun _ => rfl, fun _ => rfl, fun _ _ => rfl,
      fun hlt => absurd h (Nat.not_le.mpr hlt)⟩
  · next h =>
    have hshed := shedSurplus_shed (s.occupancies - Config.maxInstalled)
      (surplusCounts (min Config.maxInstalled s.occupancies) s)
    obtain ⟨v, hv⟩ := hshed.frame
    have hzero : b - s.occupancies = 0 := by omega
    refine ⟨surplus_frame ⟨v, hv⟩, ?_, fun d => ?_, fun d => ?_, fun hmax _ => ?_, fun _ => ?_⟩
    · rw [shedSurplus_acct, surplusCounts_acct, if_neg h, hzero]
    · rw [hshed.cfg, surplusCounts_devices]
    · rw [hshed.live, surplusCounts_devices]
    · rw [Nat.sub_eq_zero_of_le hmax, shedSurplus_zero]
      rfl
    · have hpending : (surplusCounts (min Config.maxInstalled s.occupancies) s).isPending .extraBall = true := by
        rw [surplusCounts, isPending_raise]
        simp
      rw [hv]
      exact hpending

/-! #### Devices that look for orders -/

/-- Between two states IDLE devices have looked for orders. -/
structure Looks (s t : State) : Prop where
  frame : OrderFrame s t
  cfg : ∀ d : DevNo, (t.devices[d]'d.isLt).cfg = (s.devices[d]'d.isLt).cfg
  rested : ∀ d : DevNo, (t.devices[d]'d.isLt).live.rested = (s.devices[d]'d.isLt).live.rested
  idle : ∀ d : DevNo, (s.devices[d]'d.isLt).live.state = .idle →
    (t.devices[d]'d.isLt).live.state = .idle ∨ (t.devices[d]'d.isLt).live.state = .ejecting
  busy : ∀ d : DevNo, (s.devices[d]'d.isLt).live.state ≠ .idle → t.devices[d]'d.isLt = s.devices[d]'d.isLt

theorem Looks.refl (s : State) : Looks s s := ⟨.refl s, fun _ => rfl, fun _ => rfl, fun _ => .inl, fun _ _ => rfl⟩

theorem Looks.trans {s t u : State} (h : Looks s t) (g : Looks t u) : Looks s u where
  frame := h.frame.trans g.frame
  cfg d := (g.cfg d).trans (h.cfg d)
  rested d := (g.rested d).trans (h.rested d)
  idle d hd := by
    obtain hi | he := h.idle d hd
    · exact g.idle d hi
    · rw [g.busy d (by rw [he]; exact DeviceState.noConfusion)]
      exact .inr he
  busy d hd := by
    have hsame := h.busy d hd
    rw [g.busy d (by rw [hsame]; exact hd), hsame]

theorem takeOrder_looks (d : DevNo) (s : State) : Looks s (takeOrder d s) := by
  have hord := takeOrder_ordered d s
  refine ⟨.of_takeOrderFuel 9 d s, fun e => ?_, fun e => ?_, fun e he => ?_, fun e he => ?_⟩
  · by_cases h : e = d
    · rw [h, hord.cfg]
    · rw [hord.others e h]
  · by_cases h : e = d
    · rw [h]
      exact hord.rested
    · rw [hord.others e h]
  · by_cases h : e = d
    · subst h
      exact (takeOrder_starts he).imp (·.1) id
    · rw [hord.others e h]
      exact .inl he
  · by_cases h : e = d
    · subst h
      rw [takeOrder_busy he]
    · exact hord.others e h

theorem Looks.foldl {f : State → DevNo → State} (hf : ∀ s d, Looks s (f s d)) (l : List DevNo) (s : State) :
    Looks s (l.foldl f s) := by
  induction l generalizing s with
  | nil => exact .refl s
  | cons d l ih => exact (hf s d).trans (ih _)

end Sys2Proof.Machine

/-! ### ENABLE_DEVICES and DISABLE_DEVICES (R40, R41, R68, R70) -/

namespace Sys2Proof.Machine

/-! #### ENABLE_DEVICES: the checks -/

theorem sharedCoil_iff (s : State) : s.sharedCoil = true ↔ ∃ d e : DevNo, d ≠ e ∧
    (s.devices[d]'d.isLt).cfg.kind ≠ .unused ∧ (s.devices[e]'e.isLt).cfg.kind ≠ .unused ∧
      (s.devices[d]'d.isLt).cfg.coil = (s.devices[e]'e.isLt).cfg.coil := by
  simp [State.sharedCoil, List.any_eq_true, mem_indices, and_assoc]

theorem deadTarget_of {s : State} {d e : DevNo} (hd : (s.devices[d]'d.isLt).cfg.kind ≠ .unused)
    (ht : (s.devices[d]'d.isLt).cfg.target = .device e) (he : (s.devices[e]'e.isLt).cfg.kind = .unused) :
    s.deadTarget = true := by
  have e_lt := e.isLt
  refine List.any_eq_true.mpr ⟨d, mem_indices d, (Bool.and_eq_true _ _).mpr ⟨bne_iff_ne.mpr hd, ?_⟩⟩
  rw [ht]
  exact beq_iff_eq.mpr he

section
variable {s : State} {b : Nat}

theorem enableCheck_refused (h : s.devicesEnabled = true ∨ (s.devices[trough]'trough.isLt).cfg.configured = false ∨
    (s.devices[shooter]'shooter.isLt).cfg.configured = false) : s.enableCheck b = .refusedState := by
  unfold State.enableCheck
  obtain h | h | h := h
  · exact if_pos h
  · rw [h, Bool.false_and]
    exact (congrArg _ (if_pos rfl)).trans (ite_self _)
  · rw [h, Bool.and_false]
    exact (congrArg _ (if_pos rfl)).trans (ite_self _)

theorem enableCheck_configured (h : s.devicesEnabled = false)
    (ht : (s.devices[trough]'trough.isLt).cfg.configured = true)
    (hs : (s.devices[shooter]'shooter.isLt).cfg.configured = true) : s.enableCheck b =
      if s.sharedCoil || s.deadTarget then .badValue else if b = 0 ∨ 8 < b then .badValue else .ok := by
  rw [State.enableCheck, h, if_neg Bool.false_ne_true, ht, hs]
  exact if_neg (by decide)

end

theorem enableDevices_eq (b : Byte) (s : State) : enableDevices [b] s = match s.enableCheck b.toNat with
    | .ok => ok ((indices 8).foldl (fun s d => takeOrder d s) (resetPlay (settleCounts b.toNat (enableAll s)))) []
    | st => refuse s st := by
  rw [enableAll_eq]
  rfl

/-! #### ENABLE_DEVICES: the devices and the counts -/

/-- The balls that the switches of the used devices show (R68). -/
def State.shown (s : State) : Nat :=
  ((indices 8).map fun d => if (s.devices[d]'d.isLt).cfg.kind = .unused then 0 else s.closedCount d).sum

section
variable {s : State} (hs : s.DevicesSafe) (hoff : s.devicesEnabled = false)
include hs hoff

theorem atRest_of_disabled (d : DevNo) : (s.devices[d]'d.isLt).live.AtRest :=
  hs.2.1 d (State.devicesEnabled_eq_false.mp hoff d)

theorem enableAll_occupancies : (enableAll s).occupancies = s.shown := by
  refine congrArg List.sum (List.map_congr_left fun d _ => ?_)
  rw [enableAll_get]
  by_cases hk : (s.devices[d]'d.isLt).cfg.kind = .unused
  · obtain ⟨-, hocc, -⟩ := DeviceLive.atRest_iff.mp (atRest_of_disabled hs hoff d)
    rw [if_pos hk, if_neg (not_not.mpr hk), hocc]
  · rw [if_neg hk, if_pos hk]
    exact (Device.entered_frame _ _).2

theorem enableAll_live (d : DevNo) : ((enableAll s).devices[d]'d.isLt).live.entriesSeen = 0 ∧
    ((s.devices[d]'d.isLt).cfg.kind = .unused → ((enableAll s).devices[d]'d.isLt).live.state = .disabled) ∧
    ((s.devices[d]'d.isLt).cfg.kind ≠ .unused → ((enableAll s).devices[d]'d.isLt).live.state = .idle ∧
      ((enableAll s).devices[d]'d.isLt).live.occupancy = s.closedCount d) := by
  rw [enableAll_get]
  by_cases hk : (s.devices[d]'d.isLt).cfg.kind = .unused
  · obtain ⟨hst, -, hseen, -⟩ := DeviceLive.atRest_iff.mp (atRest_of_disabled hs hoff d)
    rw [if_neg (not_not.mpr hk)]
    exact ⟨hseen, fun _ => hst, fun h => absurd hk h⟩
  · rw [if_pos hk]
    have hframe := Device.entered_frame (s.devices[d]'d.isLt) (s.closedCount d)
    refine ⟨?_, fun h => absurd h hk, fun _ => hframe⟩
    unfold Device.entered Device.held
    split
    · split <;> rfl
    · rfl

end

/-- What an accepted ENABLE_DEVICES leaves. -/
structure Enabled (b : Nat) (s t : State) : Prop where
  devices : ∀ d : DevNo, (t.devices[d]'d.isLt).cfg = (s.devices[d]'d.isLt).cfg ∧
    (t.devices[d]'d.isLt).live.entriesSeen = 0 ∧
    ((s.devices[d]'d.isLt).cfg.kind = .unused → (t.devices[d]'d.isLt).live.state = .disabled) ∧
    ((s.devices[d]'d.isLt).cfg.kind ≠ .unused →
      (t.devices[d]'d.isLt).live.state = .idle ∨ (t.devices[d]'d.isLt).live.state = .ejecting) ∧
    ((s.devices[d]'d.isLt).cfg.kind ≠ .unused → s.shown ≤ 16 → (t.devices[d]'d.isLt).live.occupancy = s.closedCount d)
  conserved : t.Conserved
  acct : t.acct = (resetPlay { s with acct := { s.acct with
    installed := if s.shown ≤ b then b else min Config.maxInstalled s.shown, missing := b - s.shown, live := 0,
    flights := [] } }).acct
  extra : b < s.shown → t.isPending .extraBall = true
  link : t.link = s.link

theorem enableDevices_enabled {s : State} {b : Nat} (hs : s.DevicesSafe) (hoff : s.devicesEnabled = false) (h8 : b ≤ 8) :
    Enabled b s ((indices 8).foldl (fun s d => takeOrder d s) (resetPlay (settleCounts b (enableAll s)))) := by
  have hsum := enableAll_occupancies hs hoff
  have hlive := enableAll_live hs hoff
  have hcfg (d : DevNo) : ((enableAll s).devices[d]'d.isLt).cfg = (s.devices[d]'d.isLt).cfg := by
    rw [enableAll_get]
    split <;> rfl
  obtain ⟨v, hframe⟩ := enableAll_frame s
  have hkept : (enableAll s).acct = s.acct ∧ (enableAll s).link = s.link := by
    rw [hframe]
    exact ⟨rfl, rfl⟩
  clear hframe
  generalize enableAll s = e at hsum hlive hcfg hkept ⊢
  have hset := settleCounts_settled b e
  have hconserved := settleCounts_conserved e h8
  generalize settleCounts b e = c at hset hconserved ⊢
  obtain ⟨⟨w, n, a, hc⟩, hacct, hccfg, hclive, hcsame, hextra⟩ := hset
  have hlooks := Looks.foldl (fun s d => takeOrder_looks d s) (indices 8) (resetPlay c)
  have hquiet := takeOrders_quiet (fun _ => False) (resetPlay c)
  have hstock := (hquiet.sound.balls ∘ (resetPlay_quiet _ c).sound.balls) hconserved
  have hpending := hquiet.pending .extraBall
  clear hquiet
  generalize (indices 8).foldl (fun s d => takeOrder d s) (resetPlay c) = t at hlooks hstock hpending ⊢
  have hcdev (d : DevNo) : ((resetPlay c).devices[d]'d.isLt) = c.devices[d]'d.isLt := rfl
  have hseen (d : DevNo) : (t.devices[d]'d.isLt).live.entriesSeen = 0 := by
    have h1 := congrArg DeviceLive.entriesSeen (hlooks.rested d)
    have h2 := congrArg DeviceLive.entriesSeen (hclive d)
    exact (h1.trans h2).trans (hlive d).1
  have hstate (d : DevNo) : (c.devices[d]'d.isLt).live.state = (e.devices[d]'d.isLt).live.state  := by
    have h := congrArg DeviceLive.state (hclive d)
    exact h
  have hframe : t.acct = (resetPlay c).acct ∧ t.link = c.link := by
    obtain ⟨v1, v2, v3, b', rfl⟩ := hlooks.frame
    cases b' <;> exact ⟨rfl, rfl⟩
  refine ⟨fun d => ⟨((hlooks.cfg d).trans (hccfg d)).trans (hcfg d), hseen d, fun hk => ?_, fun hk => ?_, fun hk hle => ?_⟩,
    hstock, ?_, fun hlt => ?_, ?_⟩
  · have hoff' := (hstate d).trans ((hlive d).2.1 hk)
    rw [hlooks.busy d (by rw [hcdev, hoff']; exact DeviceState.noConfusion)]
    exact hoff'
  · exact hlooks.idle d ((hstate d).trans ((hlive d).2.2 hk).1)
  · have h1 : (t.devices[d]'d.isLt).live.occupancy = (c.devices[d]'d.isLt).live.occupancy := by
      have h := congrArg DeviceLive.occupancy (hlooks.rested d)
      exact h
    rw [h1, hcsame (hsum.trans_le hle) (h8.trans (by decide))]
    exact ((hlive d).2.2 hk).2
  · rw [hframe.1]
    unfold resetPlay
    rw [State.modAcct_acct, State.modAcct_acct, hacct, hsum, hkept.1]
  · exact hpending (hextra (hsum.symm ▸ hlt))
  · rw [hframe.2, hc]
    exact hkept.2

/-! #### DISABLE_DEVICES -/

/-- A slot as the end of every slot leaves it. -/
def Slot.cancelled (x : Slot) : Slot :=
  { x with state := .idle, result := if x.state = .idle then x.result else .cancelled }

/-- Cancels one slot that is not IDLE. -/
def cancelActive (s : State) (n : SlotNo) : State :=
  if (s.slots[n]'n.isLt).state = .idle then s else finishSlot n .cancelled s

theorem cancelSlots_eq (s : State) : cancelSlots s = (indices 8).foldl cancelActive s := rfl

theorem Slot.stays.cancelled {x y : Slot} (h : x.stays y) : x.cancelled.stays y.cancelled := by
  unfold Slot.stays Slot.cancelled at *
  rw [h]

theorem Slot.stays.state {x y : Slot} (h : x.stays y) : y.state = x.state := by
  rw [h]

theorem Slot.stays.of_cancelled {x y : Slot} (h : x.cancelled.stays y) : y.state = .idle ∧ y.device = x.device ∧
    y.requested = x.requested ∧ y.ejected = x.ejected ∧
      y.result = if x.state = .idle then x.result else .cancelled := by
  rw [h]
  exact ⟨rfl, rfl, rfl, rfl, rfl⟩

theorem Slot.cancelled_cancelled (x : Slot) : x.cancelled.cancelled = x.cancelled := rfl

theorem Slot.cancelled_idle {x : Slot} (h : x.state = .idle) : x.cancelled = x := by
  obtain ⟨state, device, requested, ejected, result, issue⟩ := x
  subst h
  rfl

theorem cancelActive_self (s : State) (n : SlotNo) :
    (s.slots[n]'n.isLt).cancelled.stays ((cancelActive s n).slots[n]'n.isLt) := by
  unfold cancelActive
  split
  · next h =>
    rw [Slot.cancelled_idle h]
    rfl
  · next h =>
    rw [finishSlot_get, if_pos rfl, Slot.cancelled, if_neg h]
    rfl

theorem cancelActive_other {n m : SlotNo} (s : State) (h : m ≠ n) :
    (s.slots[m]'m.isLt).stays ((cancelActive s n).slots[m]'m.isLt) := by
  unfold cancelActive
  split
  · rfl
  · exact finishSlot_stays .cancelled s h

theorem cancelActive_cancelled (s : State) (n m : SlotNo) :
    (s.slots[m]'m.isLt).cancelled.stays ((cancelActive s n).slots[m]'m.isLt).cancelled := by
  by_cases h : m = n
  · subst h
    have hself := (cancelActive_self s m).cancelled
    rwa [Slot.cancelled_cancelled] at hself
  · exact (cancelActive_other s h).cancelled

theorem cancelEvery_cancelled (l : List SlotNo) (s : State) (m : SlotNo) :
    (s.slots[m]'m.isLt).cancelled.stays ((l.foldl cancelActive s).slots[m]'m.isLt).cancelled := by
  induction l generalizing s with
  | nil => rfl
  | cons n l ih => exact (cancelActive_cancelled s n m).trans (ih _)

theorem cancelEvery_idle (l : List SlotNo) (s : State) (m : SlotNo)
    (h : m ∈ l ∨ (s.slots[m]'m.isLt).state = .idle) : ((l.foldl cancelActive s).slots[m]'m.isLt).state = .idle := by
  induction l generalizing s with
  | nil => exact h.resolve_left List.not_mem_nil
  | cons n l ih =>
    refine ih _ ?_
    by_cases hm : m = n
    · subst hm
      exact .inr (cancelActive_self s m).state
    · refine h.imp (fun hmem => (List.mem_cons.mp hmem).resolve_left hm) fun hi => ?_
      exact (cancelActive_other s hm).state.trans hi

theorem cancelEvery_get {l : List SlotNo} (s : State) {m : SlotNo} (h : m ∈ l) :
    (s.slots[m]'m.isLt).cancelled.stays ((l.foldl cancelActive s).slots[m]'m.isLt) := by
  have hkeeps := cancelEvery_cancelled l s m
  rwa [Slot.cancelled_idle (cancelEvery_idle l s m (.inl h))] at hkeeps

theorem cancelSlots_get (s : State) (m : SlotNo) :
    (s.slots[m]'m.isLt).cancelled.stays (cancelSlots s).slots[m] := by
  have hpass := cancelEvery_get s (mem_indices m)
  rwa [← cancelSlots_eq] at hpass

theorem cancelActive_quiet (s : State) (n : SlotNo) : Quiet (fun _ => False) s (cancelActive s n) := by
  unfold cancelActive
  split
  · exact .refl _ s
  · exact finishSlot_quiet _ n _ s

theorem cancelEvery_pending (l : List SlotNo) (s : State) (h : ∃ n ∈ l, (s.slots[n]'n.isLt).state ≠ .idle) :
    (l.foldl cancelActive s).isPending .ejectFinished = true := by
  induction l generalizing s with
  | nil => exact absurd h (by rintro ⟨n, hn, -⟩; exact List.not_mem_nil hn)
  | cons n l ih =>
    by_cases hn : (s.slots[n]'n.isLt).state = .idle
    · have hsame : cancelActive s n = s := if_pos hn
      rw [List.foldl_cons, hsame]
      obtain ⟨m, hm, hstate⟩ := h
      obtain rfl | hm := List.mem_cons.mp hm
      · exact absurd hn hstate
      · exact ih s ⟨m, hm, hstate⟩
    · refine (Quiet.foldl cancelActive cancelActive_quiet l (cancelActive s n)).pending .ejectFinished ?_
      have hends : cancelActive s n = finishSlot n .cancelled s := if_neg hn
      rw [hends]
      exact finishSlot_pending n .cancelled s

/-- What ending the play and emptying the counts leaves of the accounting record (R70). -/
structure Vacated (s t : State) : Prop where
  devices : t.devices = s.devices
  slots : t.slots = s.slots
  notices : t.notices = s.notices
  link : t.link = s.link
  counts : t.acct.installed = 0 ∧ t.acct.live = 0 ∧ t.acct.missing = 0 ∧ t.acct.flights = []
  play : t.acct.phase = .noPlay ∧ t.acct.serveLaunch = false ∧ t.acct.multiball = false ∧ t.acct.inPlay = 0 ∧
    t.acct.saveState = .off ∧ t.acct.saveTimer = ⟨0, false, false⟩ ∧ t.acct.savesUsed = 0
  search : t.acct.search = .idle ∧ t.acct.round = 0 ∧ t.acct.idleTimer.running = false ∧
    t.acct.searchTimer.running = false

theorem emptyPlay_vacated (s : State) : Vacated s (holdTimers ((resetPlay (endSearch s)).modAcct
    fun a => { a with installed := 0, live := 0, missing := 0, flights := [] })) := by
  obtain ⟨v, hv⟩ := endSearch_unsearched s
  rw [hv]
  generalize s.acct.unsearched s.options.idleDelay = a
  exact ⟨rfl, rfl, rfl, rfl, ⟨rfl, rfl, rfl, rfl⟩, ⟨rfl, rfl, rfl, rfl, rfl, rfl, rfl⟩, ⟨rfl, rfl, rfl, rfl⟩⟩

/-- What DISABLE_DEVICES leaves. -/
structure Disabled (s t : State) : Prop where
  devices : ∀ d : DevNo, (t.devices[d]'d.isLt).cfg = (s.devices[d]'d.isLt).cfg ∧ (t.devices[d]'d.isLt).live.AtRest
  slots : ∀ n : SlotNo, (s.slots[n]'n.isLt).cancelled.stays (t.slots[n]'n.isLt)
  ended : (∃ n : SlotNo, (s.slots[n]'n.isLt).state ≠ .idle) → t.isPending .ejectFinished = true
  link : t.link = s.link

theorem disableAll_disabled (s : State) : Disabled s (disableAll s) ∧ Vacated (disableEach (cancelSlots s)) (disableAll s) := by
  rw [disableAll_eq]
  have hempty := emptyPlay_vacated (disableEach (cancelSlots s))
  have hquiet := cancelSlots_quiet (fun _ => False) s
  have hslots := cancelSlots_get s
  have hended := fun h : ∃ n : SlotNo, (s.slots[n]'n.isLt).state ≠ .idle =>
    cancelEvery_pending (indices 8) s (h.imp fun n hn => ⟨mem_indices n, hn⟩)
  rw [← cancelSlots_eq] at hended
  have hget (d : DevNo) := disableEach_get (cancelSlots s) d
  obtain ⟨v, w, hframe⟩ := disableEach_frame (cancelSlots s)
  have hcfg := hquiet.cfg
  have hlink := State.link_of_kept hquiet.kept
  clear hquiet
  generalize cancelSlots s = c at *
  have hsame : (disableEach c).slots = c.slots ∧ (disableEach c).notices = c.notices ∧ (disableEach c).link = c.link := by
    rw [hframe]
    exact ⟨rfl, rfl, rfl⟩
  clear hframe
  refine ⟨?_, hempty⟩
  generalize disableEach c = m at *
  generalize holdTimers _ = t at *
  refine ⟨fun d => ?_, fun n => ?_, fun h => ?_, ?_⟩
  · rw [hempty.devices, hget d]
    exact ⟨hcfg d, DeviceLive.retired_atRest _⟩
  · rw [hempty.slots, hsame.1]
    exact hslots n
  · rw [State.isPending, hempty.notices, hsame.2.1]
    exact hended h
  · rw [hempty.link, hsame.2.2, hlink]

theorem State.balls_emptied {s : State} (hrest : ∀ d : DevNo, (s.devices[d]'d.isLt).live.AtRest)
    (h : s.acct.live = 0 ∧ s.acct.missing = 0 ∧ s.acct.flights = []) : s.balls = 0 := by
  obtain ⟨hlive, hmissing, hflights⟩ := h
  have hocc : s.occupancies = 0 := List.sum_eq_zero fun n hn => by
    obtain ⟨d, -, rfl⟩ := List.mem_map.mp hn
    obtain ⟨-, hzero, -⟩ := DeviceLive.atRest_iff.mp (hrest d)
    exact hzero
  rw [State.balls, hocc, hlive, hmissing, hflights]
  rfl

/-- Settles O9. -/
theorem enableAndDisableDevicesOutcome : Obligations.EnableAndDisableDevicesOutcome := by
  unfold Obligations.EnableAndDisableDevicesOutcome
  have hrefuse {s : State} {b : Byte} {st : Status} (h : s.link.executing = none) (hst : st ≠ .ok)
      (hc : (s.begun 1).enableCheck b.toNat = st) : exec (.enableDevices [b]) s = .next (s.refused 1 st) := by
    refine request_refused (len := 1) (run := enableDevices) h rfl ?_
    rw [enableDevices_eq, hc]
    cases st with
    | ok => exact absurd rfl hst
    | _ => rfl
  refine ⟨fun s b h => ⟨fun hr => ?_, fun hoff ht hs hbad => ?_⟩, fun s b h hsafe hoff ht hs hcoil htarget h1 h8 => ?_,
    fun s h => ⟨fun ho => ?_, fun hclosed => ?_⟩⟩
  · exact hrefuse h Status.noConfusion (enableCheck_refused (s := s.begun 1) hr)
  · refine hrefuse h Status.noConfusion ((enableCheck_configured (s := s.begun 1) hoff ht hs).trans ?_)
    obtain hcoil | ⟨d, e, hd, hta, he⟩ | hb := hbad
    · exact if_pos ((Bool.or_eq_true _ _).mpr (.inl ((sharedCoil_iff (s.begun 1)).mpr hcoil)))
    · exact if_pos ((Bool.or_eq_true _ _).mpr (.inr (deadTarget_of (s := s.begun 1) hd hta he)))
    · exact (congrArg _ (if_pos hb)).trans (ite_self _)
  · intro sum
    have hb : (byte b).toNat = b := byte_toNat_of_lt (by omega)
    have hcheck : (s.begun 1).enableCheck b = .ok := by
      refine (enableCheck_configured (s := s.begun 1) hoff ht hs).trans ?_
      have hnone : ((s.begun 1).sharedCoil || (s.begun 1).deadTarget) = false := (Bool.or_eq_false_iff).mpr ⟨hcoil, htarget⟩
      rw [hnone]
      exact (if_neg Bool.false_ne_true).trans (if_neg (by omega))
    have haccepts : enableDevices [byte b] (s.begun 1) = ok ((indices 8).foldl (fun s d => takeOrder d s)
        (resetPlay (settleCounts b (enableAll (s.begun 1))))) [] := by
      rw [enableDevices_eq, hb, hcheck]
    refine ⟨_, request_ok (len := 1) (run := enableDevices) h rfl haccepts, ?_⟩
    have henabled := enableDevices_enabled (s := s.begun 1) hsafe hoff h8
    generalize (indices 8).foldl (fun s d => takeOrder d s) (resetPlay (settleCounts b (enableAll (s.begun 1)))) = t
      at henabled ⊢
    obtain ⟨hdevices, hconserved, hacct, hextra, hlink⟩ := henabled
    have hshown : (s.begun 1).shown = sum := rfl
    rw [hshown] at hdevices hacct hextra
    have hacct' : (prepare { status := .ok, body := [] } t).acct = _ := hacct
    refine ⟨hdevices, hconserved, ?_⟩
    rw [hacct']
    refine ⟨rfl, rfl, fun hle => ⟨if_pos hle, rfl⟩, fun hlt => ⟨if_neg (Nat.not_le.mpr hlt), Nat.sub_eq_zero_of_le hlt.le,
      hextra hlt⟩, rfl, rfl, rfl, rfl, rfl, rfl, rfl, rfl, rfl, rfl, rfl, prepare_link 1 _ hlink⟩
  · exact request_refused (len := 0) (run := disableDevices) h rfl (if_pos (State.isOpen_of_opened (s := s.begun 0) ho))
  · have haccepts : disableDevices [] (s.begun 0) = ok (disableAll (s.begun 0)) [] :=
      if_neg (by rw [State.isOpen_of_closed (s := s.begun 0) hclosed]; exact Bool.false_ne_true)
    refine ⟨_, request_ok (len := 0) (run := disableDevices) h rfl haccepts, ?_⟩
    obtain ⟨hdisabled, hempty⟩ := disableAll_disabled (s.begun 0)
    generalize disableEach (cancelSlots (s.begun 0)) = m at hempty
    generalize disableAll (s.begun 0) = t at hdisabled hempty ⊢
    obtain ⟨hdevices, hslots, hended, hlink⟩ := hdisabled
    obtain ⟨-, -, -, -, ⟨hin, hlive, hmissing, hflights⟩, ⟨p1, p2, p3, p4, p5, p6, p7⟩, q1, q2, q3, q4⟩ := hempty
    refine ⟨hdevices, fun n => ?_, hended, hin, ?_, p1, p2, p3, p4, p5, p6, p7, q1, q2, q3, q4, prepare_link 0 _ hlink⟩
    · exact (hslots n).of_cancelled
    · exact State.balls_emptied (s := prepare { status := .ok, body := [] } t) (fun d => (hdevices d).2)
        ⟨hlive, hmissing, hflights⟩

end Sys2Proof.Machine

/-! ### The ball search (R80, R81, R82, R84) -/

namespace Sys2Proof.Machine

/-! #### The members of a round -/

theorem find?_indices {n : Nat} {p : Fin n → Bool} {i : Fin n} :
    (indices n).find? p = some i ↔ p i = true ∧ ∀ j : Fin n, j < i → p j = false := by
  rw [indices, ← Fin.find?_eq_find?_finRange, Fin.find?_eq_some_iff]

theorem find?_indices_none {n : Nat} {p : Fin n → Bool} :
    (indices n).find? p = none ↔ ∀ i : Fin n, p i = false := by
  simp [List.find?_eq_none, mem_indices]

/-- Whether a coil is the eject coil of a device in service that takes part in the search (R81). -/
def State.searches (s : State) (d : DevNo) (c : CoilNo) : Prop :=
  (s.devices[d]'d.isLt).live.state ≠ .disabled ∧ (s.devices[d]'d.isLt).cfg.searchFlag = true ∧
    (s.devices[d]'d.isLt).cfg.coil = c

theorem searchTest_iff (s : State) (c : CoilNo) (d : DevNo) : ((s.devices[d]'d.isLt).live.state != .disabled &&
    (s.devices[d]'d.isLt).cfg.searchFlag && (s.devices[d]'d.isLt).cfg.coil == c) = true ↔ s.searches d c := by
  simp only [State.searches, Bool.and_eq_true, bne_iff_ne, beq_iff_eq, and_assoc]

theorem searchDevice_some {s : State} {c : CoilNo} {d : DevNo} :
    s.searchDevice c = some d ↔ s.searches d c ∧ ∀ e : DevNo, e < d → ¬ s.searches e c := by
  rw [State.searchDevice, find?_indices]
  simp only [← searchTest_iff, Bool.not_eq_true]

theorem searchDevice_isSome {s : State} {c : CoilNo} : (s.searchDevice c).isSome = true ↔ ∃ d, s.searches d c := by
  rw [State.searchDevice, List.find?_isSome]
  simp only [← searchTest_iff, mem_indices, true_and]

theorem isMember_iff (s : State) (c : CoilNo) :
    s.isMember c = true ↔ (s.coils[c]'c.isLt).cfg.searchFlag = true ∨ ∃ d, s.searches d c := by
  rw [State.isMember, Bool.or_eq_true, searchDevice_isSome]

theorem passedOver_iff (s : State) (c : CoilNo) : s.passedOver c = true ↔
    (s.coils[c]'c.isLt).cfg.searchFlag = false ∧ ∃ d : DevNo, s.searches d c ∧ (∀ e : DevNo, e < d → ¬ s.searches e c) ∧
      ((s.devices[d]'d.isLt).live.state ≠ .idle ∨
        ((s.devices[d]'d.isLt).cfg.kind = .lock ∧ 1 ≤ (s.devices[d]'d.isLt).live.occupancy)) := by
  rw [State.passedOver, Bool.and_eq_true, Bool.not_eq_true']
  refine and_congr_right fun _ => ?_
  cases hd : s.searchDevice c with
  | none =>
    refine iff_of_false Bool.false_ne_true ?_
    rintro ⟨d, h1, h2, -⟩
    exact nomatch hd.symm.trans (searchDevice_some.mpr ⟨h1, h2⟩)
  | some d =>
    have hfirst := searchDevice_some.mp hd
    simp only [Bool.or_eq_true, bne_iff_ne, Bool.and_eq_true, beq_iff_eq, decide_eq_true_eq]
    refine ⟨fun h => ⟨d, hfirst.1, hfirst.2, h⟩, fun ⟨e, h1, h2, h⟩ => ?_⟩
    have he : d = e := Option.some.inj (hd.symm.trans (searchDevice_some.mpr ⟨h1, h2⟩))
    rwa [he]

/-- A member whose request a step makes and the arbiter accepts. -/
def State.candidate (s : State) (c : CoilNo) : Prop :=
  ((s.coils[c]'c.isLt).cfg.searchFlag = true ∨ ∃ d, s.searches d c) ∧ s.passedOver c = false ∧
    (s.coils[c]'c.isLt).live.state = .idle

/-- Whether a coil is above the last search coil. -/
def State.ahead (s : State) (c : CoilNo) : Prop := ∀ l : CoilNo, s.acct.lastSearch = some l → l < c

/-- Whether a step requests a member. -/
def State.takes (s : State) (c : CoilNo) : Bool := !s.passedOver c && (s.coils[c]'c.isLt).live.state == .idle

/-- Whether a coil is a member of the round above the last search coil. -/
def State.leftTest (s : State) (c : CoilNo) : Bool :=
  s.isMember c && match s.acct.lastSearch with
    | some l => decide (l < c)
    | none => true

theorem membersLeft_eq (s : State) : s.membersLeft = (indices 24).filter s.leftTest := rfl

theorem leftTest_iff (s : State) (c : CoilNo) : s.leftTest c = true ↔ s.isMember c = true ∧ s.ahead c := by
  rw [State.leftTest, Bool.and_eq_true]
  refine and_congr_right fun _ => ?_
  unfold State.ahead
  cases s.acct.lastSearch <;> simp

theorem leftTest_takes (s : State) (c : CoilNo) :
    decide (s.leftTest c = true ∧ s.takes c = true) = true ↔ s.candidate c ∧ s.ahead c := by
  rw [decide_eq_true_eq, leftTest_iff, isMember_iff, State.takes, Bool.and_eq_true, Bool.not_eq_true', beq_iff_eq,
    State.candidate]
  tauto

theorem membersLeft_some {s : State} {c : CoilNo} (h : s.candidate c) (ha : s.ahead c)
    (hfirst : ∀ e : CoilNo, e < c → s.ahead e → ¬ s.candidate e) : s.membersLeft.find? s.takes = some c := by
  rw [membersLeft_eq, List.find?_filter, find?_indices]
  refine ⟨(leftTest_takes s c).mpr ⟨h, ha⟩, fun e he => Bool.eq_false_iff.mpr fun ht => ?_⟩
  obtain ⟨hc, hl⟩ := (leftTest_takes s e).mp ht
  exact hfirst e he hl hc

theorem membersLeft_none {s : State} (h : ∀ e : CoilNo, s.ahead e → ¬ s.candidate e) :
    s.membersLeft.find? s.takes = none := by
  rw [membersLeft_eq, List.find?_filter, find?_indices_none]
  refine fun e => Bool.eq_false_iff.mpr fun ht => ?_
  obtain ⟨hc, hl⟩ := (leftTest_takes s e).mp ht
  exact h e hl hc

/-! #### The steps -/

/-- The state with another last search coil. -/
def State.sought (s : State) (last : Option CoilNo) : State := s.modAcct fun a => { a with lastSearch := last }

theorem searchSteps_cons (c : CoilNo) (l : List CoilNo) (s : State) : searchSteps (c :: l) s =
    if s.takes c then (enterWaiting c .search .search (s.sought (some c)), true)
    else searchSteps l (s.sought (some c)) := by
  have hpassed : (s.sought (some c)).passedOver c = s.passedOver c := rfl
  have hstep : searchSteps (c :: l) s = if (s.sought (some c)).passedOver c then searchSteps l (s.sought (some c))
      else if (requestSearch c (s.sought (some c))).2 then ((requestSearch c (s.sought (some c))).1, true)
      else searchSteps l (requestSearch c (s.sought (some c))).1 := rfl
  rw [hstep, hpassed, State.takes]
  by_cases hover : s.passedOver c = true
  · rw [if_pos hover, hover]
    exact (if_neg Bool.false_ne_true).symm
  · rw [if_neg hover, Bool.eq_false_iff.mpr hover]
    by_cases hi : (s.coils[c]'c.isLt).live.state = .idle
    · have hrequest : requestSearch c (s.sought (some c)) =
          (enterWaiting c .search .search (s.sought (some c)), true) := if_pos hi
      rw [hrequest, hi]
      rfl
    · have hrequest : requestSearch c (s.sought (some c)) = (s.sought (some c), false) := if_neg hi
      rw [hrequest, beq_eq_false_iff_ne.mpr hi]
      rfl

theorem searchSteps_found {l : List CoilNo} {s : State} {c : CoilNo} (h : l.find? s.takes = some c) :
    searchSteps l s = (enterWaiting c .search .search (s.sought (some c)), true) := by
  induction l generalizing s with
  | nil => exact nomatch h
  | cons e l ih =>
    rw [searchSteps_cons]
    by_cases he : s.takes e = true
    · rw [List.find?_cons_of_pos he, Option.some.injEq] at h
      rw [if_pos he, h]
    · rw [List.find?_cons_of_neg he] at h
      rw [if_neg he]
      exact ih (s := s.sought (some e)) h

theorem searchSteps_lost {l : List CoilNo} {s : State} (h : l.find? s.takes = none) :
    ∃ last : Option CoilNo, searchSteps l s = (s.sought last, false) := by
  induction l generalizing s with
  | nil => exact ⟨s.acct.lastSearch, rfl⟩
  | cons e l ih =>
    rw [searchSteps_cons]
    by_cases he : s.takes e = true
    · rw [List.find?_cons_of_pos he] at h
      exact nomatch h
    · rw [List.find?_cons_of_neg he] at h
      rw [if_neg he]
      exact ih (s := s.sought (some e)) h

/-- Between two states a search requested a coil. -/
structure Requested (c : CoilNo) (s t : State) : Prop where
  last : t.acct.lastSearch = some c
  state : (t.coils[c]'c.isLt).live.state = .waiting
  owner : (t.coils[c]'c.isLt).live.owner = some .search
  cls : (t.coils[c]'c.isLt).live.cls = some .search
  priority : (t.coils[c]'c.isLt).live.priority = min 15 s.options.searchPriority
  others : ∀ e : CoilNo, e ≠ c → t.coils[e]'e.isLt = s.coils[e]'e.isLt

theorem enterWaiting_requested (c : CoilNo) (s : State) :
    Requested c s (startSpacing (enterWaiting c .search .search (s.sought (some c)))) := by
  have hget (e : CoilNo) := State.modCoilLive_get (s.sought (some c)) c e fun l =>
    { l with state := .waiting, owner := some .search, cls := some .search,
             priority := (s.sought (some c)).options.initialPriority .search,
             age := 0, ageDue := false, pulses := 0, interval := false, ending := false, timer := .stopped }
  have hself := (hget c).trans (if_pos rfl)
  have hlive := congrArg Coil.live hself
  exact ⟨rfl, congrArg CoilLive.state hlive, congrArg CoilLive.owner hlive, congrArg CoilLive.cls hlive,
    congrArg CoilLive.priority hlive, fun e he => (hget e).trans (if_neg he)⟩

/-! #### The rounds -/

/-- Between two states the search timer was loaded with the pulse spacing, and no ball was given up. -/
structure Spaced (s t : State) : Prop where
  timer : t.acct.searchTimer = .load s.options.searchSpacing
  fast : t.acct.searchSlow = false
  live : t.acct.live = s.acct.live
  missing : t.acct.missing = s.acct.missing

/-- What a step and the spacing after it leave of the other records. -/
theorem searchSteps_frame (l : List CoilNo) (s : State) : ∃ (v : Vector Coil 24) (last : Option CoilNo),
    startSpacing (searchSteps l s).1 = { s with coils := v, acct := { s.acct with
      lastSearch := last, searchTimer := .load s.options.searchSpacing, searchSlow := false } } := by
  cases h : l.find? s.takes with
  | some c =>
    rw [searchSteps_found h]
    exact ⟨_, some c, rfl⟩
  | none =>
    obtain ⟨last, hl⟩ := searchSteps_lost h
    rw [hl]
    exact ⟨s.coils, last, rfl⟩

theorem startRound_frame (s : State) : ∃ (v : Vector Coil 24) (last : Option CoilNo),
    startRound s = { s with coils := v, acct := { s.acct with
      lastSearch := last, searchTimer := .load s.options.searchSpacing, searchSlow := false } } :=
  searchSteps_frame _ (s.sought none)

theorem startRound_spaced (s : State) : Spaced s (startRound s) := by
  obtain ⟨v, last, h⟩ := startRound_frame s
  rw [h]
  exact ⟨rfl, rfl, rfl, rfl⟩

theorem startRound_requested {s : State} {c : CoilNo} (h : s.candidate c)
    (hfirst : ∀ e : CoilNo, e < c → ¬ s.candidate e) : Requested c s (startRound s) := by
  have hfind : (s.sought none).membersLeft.find? (s.sought none).takes = some c :=
    membersLeft_some (s := s.sought none) h (fun _ hl => nomatch hl) fun e he _ => hfirst e he
  have hround : startRound s = startSpacing (searchSteps (s.sought none).membersLeft (s.sought none)).1 := rfl
  have hrequested := enterWaiting_requested c (s.sought none)
  rw [hround, searchSteps_found hfind]
  exact ⟨hrequested.last, hrequested.state, hrequested.owner, hrequested.cls, hrequested.priority, hrequested.others⟩

/-- The state at the start of the next round. -/
def State.nextRound (s : State) : State :=
  s.modAcct fun a => { a with round := min 255 (a.round + 1), lastSearch := none }

/-- Waits for the slow interval. -/
def startSlow (s : State) : State :=
  s.modAcct fun a => { a with searchTimer := .load s.options.slowInterval, searchSlow := true }

/-- The balls that the search looked for are given up. -/
def State.givenUp (s : State) : State :=
  (s.modAcct fun a => { a with missing := a.missing + a.live, live := 0 }).raiseIf (decide (1 ≤ s.acct.live)) .ballMissing

theorem endRound_eq (s : State) : endRound s = if s.acct.round < s.options.roundLimit then startRound s.nextRound
    else startSlow (if s.acct.round = s.options.roundLimit then s.nextRound.givenUp else s.nextRound) := rfl

/-- Between two states a round ended and the slow interval began. -/
structure Slowed (s t : State) : Prop where
  timer : t.acct.searchTimer = .load s.options.slowInterval
  slow : t.acct.searchSlow = true
  last : t.acct.lastSearch = none
  coils : t.coils = s.coils
  round : t.acct.round = min 255 (s.acct.round + 1)

theorem startSlow_slowed (s : State) : Slowed s (startSlow s.nextRound) := ⟨rfl, rfl, rfl, rfl, rfl⟩

theorem startSlow_givenUp (s : State) : Slowed s (startSlow s.nextRound.givenUp) := by
  unfold State.givenUp State.raiseIf
  split <;> exact ⟨rfl, rfl, rfl, rfl, rfl⟩

/-! #### The event of an expiry -/

/-- The part of the accounting record that play and its timers do not touch. -/
def Accounting.hunt (a : Accounting) : Accounting :=
  { a with phase := .noPlay, inPlay := 0, multiball := false, saveTimer := .stopped, idleTimer := .stopped }

/-- What the close of an event leaves that ends neither play nor a search. -/
structure Calm (s t : State) : Prop where
  coils : t.coils = s.coils
  devices : t.devices = s.devices
  acct : t.acct.hunt = s.acct.hunt
  pending : t.isPending .ballMissing = s.isPending .ballMissing

theorem Calm.trans {s t u : State} (h : Calm s t) (g : Calm t u) : Calm s u :=
  ⟨g.coils.trans h.coils, g.devices.trans h.devices, g.acct.trans h.acct, g.pending.trans h.pending⟩

theorem formPlay_calm {s : State} (h : s.acct.phase = .play → s.ballsInPlay ≠ 0) : Calm s (formPlay s) := by
  have hraise (t : State) {k : Notice} (hk : Notice.ballMissing ≠ k) : (t.raise k).isPending .ballMissing = t.isPending .ballMissing := by
    rw [isPending_raise, decide_eq_false hk, Bool.or_false]
  simp only [formPlay]
  split
  · next hp =>
    rw [if_neg (h hp)]
    split
    · split
      · exact ⟨rfl, rfl, rfl, rfl⟩
      · exact ⟨rfl, rfl, rfl, hraise _ Notice.noConfusion⟩
    · split
      · exact ⟨rfl, rfl, rfl, hraise _ Notice.noConfusion⟩
      · exact ⟨rfl, rfl, rfl, rfl⟩
  · split <;> exact ⟨rfl, rfl, rfl, rfl⟩
  · split <;> exact ⟨rfl, rfl, rfl, rfl⟩
  · exact ⟨rfl, rfl, rfl, rfl⟩

theorem closeEvent_calm {before s : State} (hl : s.loose = before.loose)
    (h : s.acct.phase = .play → s.ballsInPlay ≠ 0) : Calm s (closeEvent before s) := by
  have hends : ¬ (before.loose ≠ 0 ∧ before.loose = 0) := fun h => h.1 h.2
  have hloads : ¬ (before.loose = 0 ∧ before.loose ≠ 0) := fun h => h.2 h.1
  have hform : closeEvent before s = holdTimers (formPlay s) := by
    simp only [closeEvent, hl, if_neg hends, if_neg hloads]
  rw [hform]
  exact (formPlay_calm h).trans ⟨rfl, rfl, rfl, rfl⟩

section
variable {s t u : State} {c : CoilNo}

theorem Calm.fields (h : Calm t u) : u.acct.search = t.acct.search ∧ u.acct.round = t.acct.round ∧
    u.acct.searchTimer = t.acct.searchTimer ∧ u.acct.searchSlow = t.acct.searchSlow ∧
      u.acct.lastSearch = t.acct.lastSearch ∧ u.acct.live = t.acct.live ∧ u.acct.missing = t.acct.missing := by
  have hacct := h.acct
  unfold Accounting.hunt at hacct
  injection hacct with h1 h2 h3 h4 h5 h6 h7 h8 h9 h10 h11 h12 h13 h14 h15 h16 h17
  exact ⟨h12, h13, h15, h16, h17, h2, h3⟩

theorem Calm.requested (h : Calm t u) (g : Requested c s t) : Requested c s u := by
  obtain ⟨-, -, -, -, hlast, -⟩ := h.fields
  obtain ⟨g1, g2, g3, g4, g5, g6⟩ := g
  rw [← h.coils] at g2 g3 g4 g5 g6
  exact ⟨hlast.trans g1, g2, g3, g4, g5, g6⟩

theorem Calm.spaced (h : Calm t u) (g : Spaced s t) : Spaced s u := by
  obtain ⟨-, -, htimer, hslow, -, hlive, hmissing⟩ := h.fields
  exact ⟨htimer.trans g.timer, hslow.trans g.fast, hlive.trans g.live, hmissing.trans g.missing⟩

theorem Calm.slowed (h : Calm t u) (g : Slowed s t) : Slowed s u := by
  obtain ⟨-, hround, htimer, hslow, hlast, -⟩ := h.fields
  exact ⟨htimer.trans g.timer, hslow.trans g.slow, hlast.trans g.last, h.coils.trans g.coils, hround.trans g.round⟩

end

/-- The state once the expiry of the search timer is taken. -/
def State.rung (s : State) : State := s.modAcct fun a => { a with searchTimer := .stopped, searchSlow := false }

theorem searchExpiry_eq (s : State) : searchExpiry s = if s.acct.searchSlow then startRound s.rung
    else if (searchSteps s.rung.membersLeft s.rung).2 then startSpacing (searchSteps s.rung.membersLeft s.rung).1
    else endRound (searchSteps s.rung.membersLeft s.rung).1 := rfl

section
variable {s : State}

theorem searchExpiry_slow (h : s.acct.searchSlow = true) : searchExpiry s = startRound s.rung := by
  rw [searchExpiry_eq, if_pos h]

theorem searchExpiry_found {c : CoilNo} (h : s.acct.searchSlow = false)
    (hc : s.rung.membersLeft.find? s.rung.takes = some c) :
    searchExpiry s = startSpacing (enterWaiting c .search .search (s.rung.sought (some c))) := by
  rw [searchExpiry_eq, h, searchSteps_found hc]
  rfl

theorem searchExpiry_lost (h : s.acct.searchSlow = false) (hc : s.rung.membersLeft.find? s.rung.takes = none) :
    ∃ last : Option CoilNo, searchExpiry s = endRound (s.rung.sought last) := by
  obtain ⟨last, hl⟩ := searchSteps_lost hc
  rw [searchExpiry_eq, h, hl]
  exact ⟨last, rfl⟩

end

/-- What an operation of the search leaves of the records that play counts. -/
structure Hunted (s t : State) : Prop where
  devices : t.devices = s.devices
  search : t.acct.search = s.acct.search
  phase : t.acct.phase = s.acct.phase
  flights : t.acct.flights = s.acct.flights
  loose : t.loose = s.loose

theorem Hunted.trans {s t u : State} (h : Hunted s t) (g : Hunted t u) : Hunted s u :=
  ⟨g.devices.trans h.devices, g.search.trans h.search, g.phase.trans h.phase, g.flights.trans h.flights,
    g.loose.trans h.loose⟩

theorem Hunted.ballsInPlay {s t : State} (h : Hunted s t) : t.ballsInPlay = s.ballsInPlay := by
  have hloose := h.loose
  unfold State.loose at hloose
  simp only [State.ballsInPlay, h.devices, h.flights, hloose]

theorem startRound_hunted (s : State) : Hunted s (startRound s) := by
  obtain ⟨v, last, h⟩ := startRound_frame s
  rw [h]
  exact ⟨rfl, rfl, rfl, rfl, rfl⟩

theorem givenUp_hunted (s : State) : Hunted s s.givenUp := by
  have hloose : 0 + (s.acct.missing + s.acct.live) = s.acct.live + s.acct.missing := by omega
  unfold State.givenUp State.raiseIf
  split <;> exact ⟨rfl, rfl, rfl, rfl, hloose⟩

theorem endRound_hunted (s : State) : Hunted s (endRound s) := by
  have hnext : Hunted s s.nextRound := ⟨rfl, rfl, rfl, rfl, rfl⟩
  have hslow (t : State) : Hunted t (startSlow t) := ⟨rfl, rfl, rfl, rfl, rfl⟩
  rw [endRound_eq]
  split
  · exact hnext.trans (startRound_hunted _)
  · split
    · exact (hnext.trans (givenUp_hunted _)).trans (hslow _)
    · exact hnext.trans (hslow _)

theorem searchExpiry_hunted (s : State) : Hunted s (searchExpiry s) := by
  have hrung : Hunted s s.rung := ⟨rfl, rfl, rfl, rfl, rfl⟩
  cases hs : s.acct.searchSlow with
  | true =>
    rw [searchExpiry_slow hs]
    exact hrung.trans (startRound_hunted _)
  | false =>
    cases hc : s.rung.membersLeft.find? s.rung.takes with
    | some c =>
      rw [searchExpiry_found hs hc]
      exact hrung.trans ⟨rfl, rfl, rfl, rfl, rfl⟩
    | none =>
      obtain ⟨last, hl⟩ := searchExpiry_lost hs hc
      rw [hl]
      exact (hrung.trans ⟨rfl, rfl, rfl, rfl, rfl⟩).trans (endRound_hunted _)

theorem startSearch_frame (s : State) : ∃ (v : Vector Coil 24) (last : Option CoilNo), startSearch s =
    ({ s with coils := v, acct := { s.acct with
        search := .searching, round := 1, lastSearch := last, searchTimer := .load s.options.searchSpacing,
        searchSlow := false } } : State).raise .searchStarted := by
  obtain ⟨v, last, h⟩ := startRound_frame
    ((s.modAcct fun a => { a with search := .searching, round := 1 }).raise .searchStarted)
  exact ⟨v, last, h⟩

section
variable {s t u : State} {c : CoilNo}

theorem Requested.of_sought (h : Requested c u t) (hc : u.coils = s.coils) (ho : u.options = s.options) :
    Requested c s t := by
  obtain ⟨h1, h2, h3, h4, h5, h6⟩ := h
  rw [ho] at h5
  rw [hc] at h6
  exact ⟨h1, h2, h3, h4, h5, h6⟩

theorem Spaced.of_sought (h : Spaced u t) (ho : u.options = s.options) (hl : u.acct.live = s.acct.live)
    (hm : u.acct.missing = s.acct.missing) : Spaced s t :=
  ⟨ho ▸ h.timer, h.fast, h.live.trans hl, h.missing.trans hm⟩

theorem startRound_requested_of {a : Accounting} (hc : s.candidate c) (hfirst : ∀ e : CoilNo, e < c → ¬ s.candidate e) :
    Requested c s (startRound { s with acct := a }) :=
  (startRound_requested (s := { s with acct := a }) hc hfirst).of_sought rfl rfl

theorem startRound_round (s : State) : (startRound s).acct.round = s.acct.round := by
  obtain ⟨v, last, h⟩ := startRound_frame s
  rw [h]

theorem searchExpiry_requests (hs : s.acct.searchSlow = false) (hc : s.candidate c) (hl : s.ahead c)
    (hfirst : ∀ e : CoilNo, e < c → s.ahead e → ¬ s.candidate e) :
    Requested c s (searchExpiry s) ∧ Spaced s (searchExpiry s) ∧ (searchExpiry s).acct.round = s.acct.round := by
  rw [searchExpiry_found hs (membersLeft_some (s := s.rung) hc hl hfirst)]
  exact ⟨(enterWaiting_requested c s.rung).of_sought rfl rfl, ⟨rfl, rfl, rfl, rfl⟩, rfl⟩

theorem searchExpiry_resumes (hs : s.acct.searchSlow = true) : (searchExpiry s).acct.round = s.acct.round ∧
    Spaced s (searchExpiry s) ∧ (∀ c : CoilNo, s.candidate c → (∀ e : CoilNo, e < c → ¬ s.candidate e) →
      Requested c s (searchExpiry s)) := by
  rw [searchExpiry_slow hs]
  exact ⟨startRound_round s.rung, (startRound_spaced s.rung).of_sought rfl rfl rfl,
    fun c hc hfirst => startRound_requested_of hc hfirst⟩

variable (hs : s.acct.searchSlow = false) (hnone : ∀ e : CoilNo, s.ahead e → ¬ s.candidate e)
include hs hnone

theorem searchExpiry_ends : ∃ last : Option CoilNo, searchExpiry s =
    if s.acct.round < s.options.roundLimit then startRound (s.rung.sought last).nextRound
    else startSlow (if s.acct.round = s.options.roundLimit then (s.rung.sought last).nextRound.givenUp
      else (s.rung.sought last).nextRound) := by
  obtain ⟨last, h⟩ := searchExpiry_lost hs (membersLeft_none (s := s.rung) hnone)
  exact ⟨last, h.trans (endRound_eq _)⟩

theorem searchExpiry_restarts (h : s.acct.round < s.options.roundLimit) :
    (searchExpiry s).acct.round = min 255 (s.acct.round + 1) ∧ Spaced s (searchExpiry s) ∧
      (∀ c : CoilNo, s.candidate c → (∀ e : CoilNo, e < c → ¬ s.candidate e) → Requested c s (searchExpiry s)) := by
  obtain ⟨last, hl⟩ := searchExpiry_ends hs hnone
  rw [hl, if_pos h]
  exact ⟨startRound_round _, (startRound_spaced (s.rung.sought last).nextRound).of_sought rfl rfl rfl,
    fun c hc hfirst => startRound_requested_of hc hfirst⟩

theorem searchExpiry_above (h : s.options.roundLimit < s.acct.round) : Slowed s (searchExpiry s) ∧
    (searchExpiry s).acct.missing = s.acct.missing ∧ (searchExpiry s).acct.live = s.acct.live := by
  obtain ⟨last, hl⟩ := searchExpiry_ends hs hnone
  rw [hl, if_neg (Nat.not_lt.mpr h.le), if_neg h.ne']
  have hslowed := startSlow_slowed (s.rung.sought last)
  have hacct (t : State) : (startSlow t.nextRound).acct.missing = t.acct.missing ∧
      (startSlow t.nextRound).acct.live = t.acct.live := ⟨rfl, rfl⟩
  exact ⟨⟨hslowed.timer, hslowed.slow, hslowed.last, hslowed.coils, hslowed.round⟩, hacct (s.rung.sought last)⟩

theorem searchExpiry_givesUp (h : s.acct.round = s.options.roundLimit) : Slowed s (searchExpiry s) ∧
    (searchExpiry s).acct.missing = s.acct.missing + s.acct.live ∧ (searchExpiry s).acct.live = 0 ∧
    (searchExpiry s).isPending .ballMissing = (s.isPending .ballMissing || decide (1 ≤ s.acct.live)) := by
  obtain ⟨last, hl⟩ := searchExpiry_ends hs hnone
  rw [hl, if_neg (Nat.not_lt.mpr h.ge), if_pos h]
  have hslowed := startSlow_givenUp (s.rung.sought last)
  have hacct (t : State) : (startSlow t.givenUp).acct.missing = t.acct.missing + t.acct.live ∧
      (startSlow t.givenUp).acct.live = 0 := by
    unfold State.givenUp State.raiseIf
    split <;> exact ⟨rfl, rfl⟩
  obtain ⟨hmissing, hlive⟩ := hacct (s.rung.sought last).nextRound
  refine ⟨⟨hslowed.timer, hslowed.slow, hslowed.last, hslowed.coils, hslowed.round⟩, hmissing, hlive, ?_⟩
  have hpending (t : State) : (startSlow t.givenUp).isPending .ballMissing =
      (t.isPending .ballMissing || decide (1 ≤ t.acct.live)) := by
    have hraise := isPending_raiseIf (t.modAcct fun a => { a with missing := a.missing + a.live, live := 0 })
      (decide (1 ≤ t.acct.live)) .ballMissing .ballMissing
    exact hraise.trans (by rw [decide_eq_true rfl, Bool.and_true]; rfl)
  exact hpending (s.rung.sought last).nextRound

end

/-- Settles O25. -/
theorem searchOutcome : Obligations.SearchOutcome := by
  unfold Obligations.SearchOutcome
  refine ⟨fun s => ⟨fun hrun hdue => ?_, fun h => ⟨fun hp => ?_, fun hp hs => ?_, fun hp hs => ?_⟩⟩,
    fun s hsearch hrun hdue hplay => ?_⟩
  · have htaken : exec .idleTimerExpiry s = .next (startSearch (s.modAcct fun a => { a with idleTimer := .stopped })) :=
      congrArg Host.Outcome.next (if_pos ⟨hrun, hdue⟩)
    refine ⟨_, htaken, ?_⟩
    obtain ⟨v, last, hstart⟩ := startSearch_frame (s.modAcct fun a => { a with idleTimer := .stopped })
    rw [hstart]
    exact ⟨rfl, rfl, by rw [isPending_raise]; simp, rfl, rfl, rfl, rfl, rfl⟩
  · exact request_refused (len := 0) (run := startSearchRequest) h rfl (if_pos hp)
  · have hbusy : (s.begun 0).acct.search ≠ .idle := fun hi => SearchState.noConfusion (hs.symm.trans hi)
    exact request_refused (len := 0) (run := startSearchRequest) h rfl
      ((if_neg (not_not.mpr hp)).trans (if_pos hbusy))
  · have haccepts : startSearchRequest [] (s.begun 0) = ok (holdTimers (startSearch (s.begun 0))) [] :=
      (if_neg (not_not.mpr hp)).trans (if_neg (not_not.mpr hs))
    refine ⟨_, request_ok (len := 0) (run := startSearchRequest) h rfl haccepts, ?_⟩
    obtain ⟨v, last, hstart⟩ := startSearch_frame (s.begun 0)
    rw [hstart]
    refine ⟨rfl, rfl, ?_, rfl, rfl, rfl, prepare_link 0 _ rfl⟩
    exact (isPending_raise _ .searchStarted .searchStarted).trans (by simp)
  · intro member taken left requested spaced slow
    have htaken : exec .searchTimerExpiry s = .next (event searchExpiry s) :=
      congrArg Host.Outcome.next (if_pos ⟨hsearch, hrun, hdue⟩)
    refine ⟨fun c => ?_, _, htaken, ?_⟩
    · rw [passedOver_iff]
      simp only [State.searches, and_assoc]
    have hrequested {c : CoilNo} {t : State} (h : Requested c s t) : requested c t :=
      ⟨h.last, h.state, h.owner, h.cls, h.priority, h.others⟩
    have hspaced {t : State} (h : Spaced s t) : spaced t := ⟨h.timer, h.fast, h.live, h.missing⟩
    have hslowed {t : State} (h : Slowed s t) : slow t := ⟨h.timer, h.slow, h.last, h.coils⟩
    have hhunted := searchExpiry_hunted s
    have hcalm : Calm (searchExpiry s) (event searchExpiry s) := closeEvent_calm hhunted.loose fun hp => by
      rw [hhunted.ballsInPlay]
      exact Nat.one_le_iff_ne_zero.mp (hplay (hhunted.phase.symm.trans hp))
    generalize event searchExpiry s = t at hcalm ⊢
    obtain ⟨hstill, hround, -, -, -, hlive, hmissing⟩ := hcalm.fields
    refine ⟨hstill.trans (hhunted.search.trans hsearch), hcalm.devices.trans hhunted.devices,
      fun c hs hc hl hfirst => ?_, fun hs hnone => ⟨fun hlt => ?_, fun heq => ?_, fun hlt => ?_⟩, fun hs => ?_⟩
    · obtain ⟨hreq, hsp, hrd⟩ := searchExpiry_requests hs hc hl hfirst
      exact ⟨hrequested (hcalm.requested hreq), hspaced (hcalm.spaced hsp), hround.trans hrd⟩
    · obtain ⟨hrd, hsp, hreq⟩ := searchExpiry_restarts hs hnone hlt
      exact ⟨hround.trans hrd, hspaced (hcalm.spaced hsp),
        fun c hc hfirst => hrequested (hcalm.requested (hreq c hc hfirst))⟩
    · obtain ⟨hsl, hm, hl, hp⟩ := searchExpiry_givesUp hs hnone heq
      exact ⟨hround.trans hsl.round, hslowed (hcalm.slowed hsl), hmissing.trans hm, hlive.trans hl, hcalm.pending.trans hp⟩
    · obtain ⟨hsl, hm, hl⟩ := searchExpiry_above hs hnone hlt
      exact ⟨hround.trans hsl.round, hslowed (hcalm.slowed hsl), hmissing.trans hm, hlive.trans hl⟩
    · obtain ⟨hrd, hsp, hreq⟩ := searchExpiry_resumes hs
      exact ⟨hround.trans hrd, hspaced (hcalm.spaced hsp),
        fun c hc hfirst => hrequested (hcalm.requested (hreq c hc hfirst))⟩

end Sys2Proof.Machine

/-! ### RECOUNT (R69) -/

namespace Sys2Proof.Machine

/-! #### The close of an event outside play -/

/-- The phase that the balls in play leave outside play. -/
def State.phaseAfter (s : State) : PlayPhase :=
  if (s.acct.phase = .serving ∨ s.acct.phase = .launchWait) ∧ s.ballsInPlay = 0 then .noPlay else s.acct.phase

theorem State.phaseAfter_still {s : State}
    (h : ¬ ((s.acct.phase = .serving ∨ s.acct.phase = .launchWait) ∧ s.ballsInPlay = 0)) :
    s.phaseAfter = s.acct.phase := if_neg h

theorem State.phaseAfter_empty {s : State} (h : s.acct.phase = .serving ∨ s.acct.phase = .launchWait)
    (h0 : s.ballsInPlay = 0) : s.phaseAfter = .noPlay := if_pos ⟨h, h0⟩

theorem formPlay_unplayed {s : State} (hp : s.acct.phase ≠ .play) :
    formPlay s = setPhase s.phaseAfter (s.modAcct fun a => { a with inPlay := s.ballsInPlay }) := by
  have hstill (h : ¬ ((s.acct.phase = .serving ∨ s.acct.phase = .launchWait) ∧ s.ballsInPlay = 0)) :
      (s.modAcct fun a => { a with inPlay := s.ballsInPlay }) =
        setPhase s.phaseAfter (s.modAcct fun a => { a with inPlay := s.ballsInPlay }) := by
    rw [State.phaseAfter_still h]
    rfl
  simp only [formPlay, State.modAcct_acct]
  by_cases h0 : s.ballsInPlay = 0
  · cases hph : s.acct.phase with
    | play => exact absurd hph hp
    | serving =>
      rw [State.phaseAfter_empty (.inl hph) h0]
      exact if_pos h0
    | launchWait =>
      rw [State.phaseAfter_empty (.inr hph) h0]
      exact if_pos h0
    | noPlay => exact hstill fun h => by rw [hph] at h; exact h.1.elim PlayPhase.noConfusion PlayPhase.noConfusion
    | ended => exact hstill fun h => by rw [hph] at h; exact h.1.elim PlayPhase.noConfusion PlayPhase.noConfusion
  · have hkeeps := hstill fun h => h0 h.2
    cases hph : s.acct.phase with
    | play => exact absurd hph hp
    | serving => exact (if_neg h0).trans hkeeps
    | launchWait => exact (if_neg h0).trans hkeeps
    | noPlay => exact hkeeps
    | ended => exact hkeeps

/-- What the close of an event outside play leaves of the accounting record. -/
structure Unplayed (before s t : State) : Prop where
  inPlay : t.acct.inPlay = s.ballsInPlay
  phase : t.acct.phase = s.phaseAfter
  saveState : t.acct.saveState = s.acct.saveState
  saveCount : t.acct.saveTimer.count = s.acct.saveTimer.count
  search : s.loose ≠ 0 ∨ before.loose = 0 ∨ s.acct.search = .idle →
    t.acct.search = s.acct.search ∧ t.acct.round = s.acct.round

theorem Accounting.unsearched_keeps (a : Accounting) (n : Nat) : (a.unsearched n).phase = a.phase ∧
    (a.unsearched n).saveState = a.saveState ∧ (a.unsearched n).saveTimer = a.saveTimer ∧
      (a.search = .idle → (a.unsearched n).search = a.search ∧ (a.unsearched n).round = a.round) := by
  unfold Accounting.unsearched
  split
  · exact ⟨rfl, rfl, rfl, fun _ => ⟨rfl, rfl⟩⟩
  · next h => exact ⟨rfl, rfl, rfl, fun hi => absurd hi h⟩

/-- The search and the idle timer as the close of an event leaves them (R80, R83). -/
def adjustSearch (before s : State) : State :=
  let s := if before.loose ≠ 0 ∧ s.loose = 0 then endSearch s else s
  if before.loose = 0 ∧ s.loose ≠ 0 then loadIdle s else s

theorem closeEvent_adjusted (before s : State) : closeEvent before s = holdTimers (formPlay (adjustSearch before s)) := rfl

/-- What the search's part in the close of an event leaves of the accounting record. -/
structure Adjusted (before s t : State) : Prop where
  phase : t.acct.phase = s.acct.phase
  saveState : t.acct.saveState = s.acct.saveState
  saveTimer : t.acct.saveTimer = s.acct.saveTimer
  search : s.loose ≠ 0 ∨ before.loose = 0 ∨ s.acct.search = .idle →
    t.acct.search = s.acct.search ∧ t.acct.round = s.acct.round

theorem adjustSearch_adjusted (before s : State) : Adjusted before s (adjustSearch before s) := by
  have hload {t : State} (c : Prop) [Decidable c] (h : Adjusted before s t) :
      Adjusted before s (if c then loadIdle t else t) := by
    split
    · exact ⟨h.phase, h.saveState, h.saveTimer, h.search⟩
    · exact h
  refine hload _ ?_
  split
  · next h =>
    obtain ⟨v, hv⟩ := endSearch_unsearched s
    obtain ⟨h1, h2, h3, h4⟩ := s.acct.unsearched_keeps s.options.idleDelay
    rw [hv]
    exact ⟨h1, h2, h3, fun hk => h4 ((hk.resolve_left fun g => g h.2).resolve_left h.1)⟩
  · exact ⟨rfl, rfl, rfl, fun _ => ⟨rfl, rfl⟩⟩

theorem adjustSearch_closing (before s : State) : Closing s (adjustSearch before s) := by
  have hload {t : State} (c : Prop) [Decidable c] (h : Closing s t) : Closing s (if c then loadIdle t else t) := by
    split
    · exact h.trans (loadIdle_closing t)
    · exact h
  refine hload _ ?_
  split
  · exact endSearch_closing s
  · exact .refl s

theorem closeEvent_unplayed {before s : State} (hp : s.acct.phase ≠ .play) : Unplayed before s (closeEvent before s) := by
  obtain ⟨hphase, hstate, htimer, hsearch⟩ := adjustSearch_adjusted before s
  have hcount := (adjustSearch_closing before s).ballsInPlay
  rw [closeEvent_adjusted]
  generalize adjustSearch before s = t at *
  have hform := formPlay_unplayed (s := t) (hphase ▸ hp)
  rw [hform]
  have hafter : t.phaseAfter = s.phaseAfter := by
    unfold State.phaseAfter
    rw [hphase, hcount]
  have hsave := congrArg Timer.count htimer
  exact ⟨hcount, hafter, hstate, hsave, hsearch⟩

/-! #### The devices retaken -/

/-- Whether the switches show a ball in a SAUCER that counted none. -/
def State.fills (s : State) (d : DevNo) : Prop := (s.devices[d]'d.isLt).cfg.kind = .saucer ∧ s.closedCount d = 1 ∧
  (s.devices[d]'d.isLt).live.occupancy = 0

theorem recountOwes_iff (s : State) (d : DevNo) :
    s.recountOwes d = true ↔ s.fills d ∧ (s.devices[d]'d.isLt).cfg.holdTime = 0 := by
  simp only [State.recountOwes, State.fills, Bool.and_eq_true, beq_iff_eq]
  tauto

/-- The live part of a device that was counted from its switches. -/
def DeviceLive.recounted (l : DeviceLive) (c : Nat) : DeviceLive :=
  { l with countFault := false, entriesSeen := 0, settle := l.settle.halt, occupancy := c }

/-- What the hold of a device adds to its live part. -/
def Device.holding (v : Device) (l : DeviceLive) (c : Nat) : DeviceLive :=
  if v.cfg.kind = .saucer ∧ c = 0 then { l with hold := l.hold.halt }
  else if v.cfg.kind = .saucer ∧ v.live.occupancy = 0 ∧ c = 1 then Device.held { v with live := l }
  else l

theorem Device.retaken_live (v : Device) (c : Nat) : (v.retaken c).live = v.holding (v.live.recounted c) c := by
  unfold Device.holding
  simp only [Device.retaken]
  by_cases hk : v.cfg.kind = .saucer
  · rw [if_neg (not_not.mpr hk)]
    simp only [hk, true_and]
    split
    · rfl
    · split <;> rfl
  · rw [if_pos hk, if_neg fun h => hk h.1, if_neg fun h => hk h.1]
    rfl

/-- The count and the work of a device, without its hold and its owed ejects. -/
def DeviceLive.unheld (l : DeviceLive) : DeviceLive := { l with owed := 0, hold := .stopped }

theorem Device.held_unheld (v : Device) : v.held.unheld = v.live.unheld := by
  unfold Device.held
  split <;> rfl

theorem Device.holding_unheld (v : Device) (l : DeviceLive) (c : Nat) : (v.holding l c).unheld = l.unheld := by
  unfold Device.holding
  split
  · rfl
  · split
    · exact Device.held_unheld _
    · rfl

section
variable {s : State} {d : DevNo}

/-- A used device as the recount finds it. -/
theorem retakeAll_live (hk : (s.devices[d]'d.isLt).cfg.kind ≠ .unused) : ((retakeAll s).devices[d]'d.isLt).live =
    (s.devices[d]'d.isLt).holding ((s.devices[d]'d.isLt).live.recounted (s.closedCount d)) (s.closedCount d) := by
  rw [retakeAll_get, if_pos hk, Device.retaken_live]

theorem retakeAll_unheld (hk : (s.devices[d]'d.isLt).cfg.kind ≠ .unused) : ((retakeAll s).devices[d]'d.isLt).live.unheld =
    ((s.devices[d]'d.isLt).live.recounted (s.closedCount d)).unheld := by
  rw [retakeAll_live hk, Device.holding_unheld]

theorem retakeAll_owed (h : ¬ (s.fills d ∧ (s.devices[d]'d.isLt).cfg.holdTime = 0)) :
    ((retakeAll s).devices[d]'d.isLt).live.owed = (s.devices[d]'d.isLt).live.owed := by
  by_cases hk : (s.devices[d]'d.isLt).cfg.kind = .unused
  · rw [retakeAll_get, if_neg (not_not.mpr hk)]
  · rw [retakeAll_live hk, Device.holding]
    split
    · rfl
    · split
      · next hf =>
        rw [Device.held, if_neg fun h0 => h ⟨⟨hf.1, hf.2.2, hf.2.1⟩, h0⟩]
        rfl
      · rfl

theorem retakeAll_fills (h : s.fills d) : ((retakeAll s).devices[d]'d.isLt).live = Device.held
    { s.devices[d]'d.isLt with live := (s.devices[d]'d.isLt).live.recounted (s.closedCount d) } := by
  obtain ⟨hk, hc, ho⟩ := h
  rw [retakeAll_live (by rw [hk]; exact DeviceKind.noConfusion), Device.holding, hc]
  rw [if_neg fun g => Nat.one_ne_zero g.2, if_pos ⟨hk, ho, rfl⟩]

theorem retakeAll_holds (h : s.fills d) (h0 : (s.devices[d]'d.isLt).cfg.holdTime ≠ 0) :
    ((retakeAll s).devices[d]'d.isLt).live.hold = .load (s.devices[d]'d.isLt).cfg.holdTime := by
  rw [retakeAll_fills h, Device.held, if_neg h0]

theorem retakeAll_owes (h : s.fills d) (h0 : (s.devices[d]'d.isLt).cfg.holdTime = 0)
    (hon : (s.devices[d]'d.isLt).live.state ≠ .disabled) :
    ((retakeAll s).devices[d]'d.isLt).live.owed = min 8 ((s.devices[d]'d.isLt).live.owed + 1) := by
  rw [retakeAll_fills h, Device.held, if_pos h0]
  exact if_neg hon

theorem retakeAll_empty (hk : (s.devices[d]'d.isLt).cfg.kind = .saucer) (hc : s.closedCount d = 0) :
    ((retakeAll s).devices[d]'d.isLt).live.hold.running = false := by
  rw [retakeAll_live (by rw [hk]; exact DeviceKind.noConfusion), Device.holding, if_pos ⟨hk, hc⟩]
  rfl

theorem retakeAll_order : ((retakeAll s).devices[d]'d.isLt).live.order = (s.devices[d]'d.isLt).live.order := by
  by_cases hk : (s.devices[d]'d.isLt).cfg.kind = .unused
  · rw [retakeAll_get, if_neg (not_not.mpr hk)]
  · have h := congrArg DeviceLive.order (retakeAll_unheld hk)
    exact h

theorem retakeAll_occupancies (hs : s.DevicesSafe) (hon : s.devicesEnabled = true) :
    (retakeAll s).occupancies = s.shown := by
  refine congrArg List.sum (List.map_congr_left fun e _ => ?_)
  by_cases hk : (s.devices[e]'e.isLt).cfg.kind = .unused
  · obtain ⟨-, hrest, hused, -⟩ := hs
    obtain ⟨-, hocc, -⟩ := DeviceLive.atRest_iff.mp (hrest e ((hused hon e).mpr hk))
    rw [if_pos hk, retakeAll_get, if_neg (not_not.mpr hk), hocc]
  · rw [if_neg hk]
    have h := congrArg DeviceLive.occupancy (retakeAll_unheld hk)
    exact h

end

/-! #### The orders taken after a recount -/

/-- One device of the pass that follows a recount of `before`. -/
def retakeStep (before s : State) (d : DevNo) : State := if before.recountOwes d then takeOrder d s else s

theorem retakeOrders_eq (before s : State) : retakeOrders before s = (indices 8).foldl (retakeStep before) s := rfl

section
variable {before s : State} {d : DevNo}

theorem retakeStep_looks (before s : State) (d : DevNo) : Looks s (retakeStep before s d) := by
  unfold retakeStep
  split
  · exact takeOrder_looks d s
  · exact .refl s

theorem retakeStep_other (before s : State) (d e : DevNo) (h : e ≠ d ∨ before.recountOwes e = false) :
    (retakeStep before s d).devices[e]'e.isLt = s.devices[e]'e.isLt := by
  unfold retakeStep
  split
  · next hd =>
    refine (takeOrder_ordered d s).others e fun he => h.elim (fun g => g he) fun g => ?_
    exact Bool.false_ne_true (g.symm.trans (he ▸ hd))
  · rfl

theorem retakeEvery_other (l : List DevNo) (s : State) (h : before.recountOwes d = false) :
    (l.foldl (retakeStep before) s).devices[d]'d.isLt = s.devices[d]'d.isLt := by
  induction l generalizing s with
  | nil => rfl
  | cons e l ih => exact (ih _).trans (retakeStep_other before s e d (.inr h))

/-- Whether a device takes up an owed eject as soon as it looks for an order, or does not look. -/
def State.serves (s : State) (d : DevNo) : Prop := (s.devices[d]'d.isLt).live.state = .idle →
  1 ≤ (s.devices[d]'d.isLt).live.owed ∧ 1 ≤ (s.devices[d]'d.isLt).live.occupancy

theorem Looks.serves {s t : State} (h : Looks s t) {d : DevNo} (hs : s.serves d) : t.serves d := by
  intro hidle
  have howed := congrArg DeviceLive.owed (h.rested d)
  have hocc := congrArg DeviceLive.occupancy (h.rested d)
  by_cases hi : (s.devices[d]'d.isLt).live.state = .idle
  · exact ⟨(hs hi).1.trans_eq howed.symm, (hs hi).2.trans_eq hocc.symm⟩
  · rw [h.busy d hi] at hidle
    exact absurd hidle hi

theorem takeOrder_serves (h : s.serves d) : (takeOrder d s).slots = s.slots ∧
    ((s.devices[d]'d.isLt).live.state = .idle → ((takeOrder d s).devices[d]'d.isLt).live.state = .ejecting ∧
      ((takeOrder d s).devices[d]'d.isLt).live.order = .owed) := by
  by_cases hi : (s.devices[d]'d.isLt).live.state = .idle
  · rw [takeOrder_owed hi (h hi).1 (h hi).2, startBall_beginOrder, State.modCoilLive_devices, State.modLive_get, if_pos rfl]
    exact ⟨rfl, fun _ => ⟨rfl, rfl⟩⟩
  · rw [takeOrder_busy hi]
    exact ⟨rfl, fun g => absurd g hi⟩

theorem retakeEvery_slots (l : List DevNo) (s : State) (h : ∀ d, before.recountOwes d = true → s.serves d) :
    (l.foldl (retakeStep before) s).slots = s.slots := by
  induction l generalizing s with
  | nil => rfl
  | cons e l ih =>
    have hlooks := retakeStep_looks before s e
    refine (ih _ fun d hd => hlooks.serves (h d hd)).trans ?_
    unfold retakeStep
    split
    · next he => exact (takeOrder_serves (h e he)).1
    · rfl

theorem retakeEvery_takes (l : List DevNo) (s : State) (ho : before.recountOwes d = true)
    (h : (d ∈ l ∧ (s.devices[d]'d.isLt).live.state = .idle ∧ s.serves d) ∨
      ((s.devices[d]'d.isLt).live.state = .ejecting ∧ (s.devices[d]'d.isLt).live.order = .owed)) :
    ((l.foldl (retakeStep before) s).devices[d]'d.isLt).live.state = .ejecting ∧
      ((l.foldl (retakeStep before) s).devices[d]'d.isLt).live.order = .owed := by
  induction l generalizing s with
  | nil => exact h.resolve_left fun g => List.not_mem_nil g.1
  | cons e l ih =>
    refine ih _ ?_
    by_cases he : d = e
    · subst he
      have hstep : retakeStep before s d = takeOrder d s := if_pos ho
      rw [hstep]
      obtain ⟨-, hi, hserves⟩ | hbusy := h
      · exact .inr ((takeOrder_serves hserves).2 hi)
      · rw [takeOrder_busy (by rw [hbusy.1]; exact DeviceState.noConfusion)]
        exact .inr hbusy
    · have hsame := retakeStep_other before s e d (.inl he)
      rw [hsame]
      refine h.imp_left ?_
      rintro ⟨hm, hi, hserves⟩
      exact ⟨(List.mem_cons.mp hm).resolve_left he, hi, (retakeStep_looks before s e).serves hserves⟩

end

/-! #### The request -/

theorem OrderFrame.acct_link {s t : State} (h : OrderFrame s t) : t.acct = s.acct ∧ t.link = s.link := by
  obtain ⟨v, w, x, b, rfl⟩ := h
  cases b <;> exact ⟨rfl, rfl⟩

section
variable {l m : DeviceLive}

/-- What a device keeps while it looks for an order. -/
theorem DeviceLive.kept_of_rested (h : m.rested = l.rested) : m.owed = l.owed ∧ m.hold = l.hold ∧
    m.occupancy = l.occupancy ∧ m.countFault = l.countFault ∧ m.entriesSeen = l.entriesSeen ∧ m.settle = l.settle := by
  injection h with _ h2 h3 h4 _ _ _ _ _ _ h11 h12 _ h14
  exact ⟨h4, h14, h2, h11, h3, h12⟩

/-- What a device keeps while a surplus is taken off. -/
theorem DeviceLive.kept_of_uncounted (h : m.uncounted = l.uncounted) : m.owed = l.owed ∧ m.hold = l.hold ∧
    m.state = l.state ∧ m.order = l.order := by
  injection h with h1 _ _ h4 h5 _ _ _ _ _ _ _ _ h14
  exact ⟨h4, h14, h1, h5⟩

/-- What a device keeps while its hold starts. -/
theorem DeviceLive.kept_of_unheld (h : m.unheld = l.unheld) : m.occupancy = l.occupancy ∧
    m.countFault = l.countFault ∧ m.entriesSeen = l.entriesSeen ∧ m.settle = l.settle := by
  injection h with _ h2 h3 _ _ _ _ _ _ _ h11 h12
  exact ⟨h2, h11, h3, h12⟩

end

/-- What an accepted RECOUNT leaves before its event closes. -/
structure Tallied (b : Nat) (s t : State) : Prop where
  conserved : t.Conserved
  acct : t.acct = { s.acct with installed := if s.shown ≤ b then b else min Config.maxInstalled s.shown,
                                missing := b - s.shown, live := 0, flights := [] }
  extra : b < s.shown → t.isPending .extraBall = true
  link : t.link = s.link
  counted : ∀ d : DevNo, (s.devices[d]'d.isLt).cfg.kind ≠ .unused → s.shown ≤ 16 →
    (t.devices[d]'d.isLt).live.occupancy = s.closedCount d ∧ (t.devices[d]'d.isLt).live.countFault = false ∧
      (t.devices[d]'d.isLt).live.entriesSeen = 0 ∧ (t.devices[d]'d.isLt).live.settle.running = false
  others : ∀ d : DevNo, ¬ (s.fills d ∧ (s.devices[d]'d.isLt).cfg.holdTime = 0) →
    (t.devices[d]'d.isLt).live.owed = (s.devices[d]'d.isLt).live.owed ∧
      (t.devices[d]'d.isLt).live.state = (s.devices[d]'d.isLt).live.state ∧
      (t.devices[d]'d.isLt).live.order = (s.devices[d]'d.isLt).live.order
  holds : ∀ d : DevNo, s.fills d → (s.devices[d]'d.isLt).cfg.holdTime ≠ 0 →
    (t.devices[d]'d.isLt).live.hold = .load (s.devices[d]'d.isLt).cfg.holdTime
  owes : ∀ d : DevNo, s.fills d → (s.devices[d]'d.isLt).cfg.holdTime = 0 →
    (t.devices[d]'d.isLt).live.owed = min 8 ((s.devices[d]'d.isLt).live.owed + 1) ∧
    ((s.devices[d]'d.isLt).live.state = .idle → s.shown ≤ 16 →
      (t.devices[d]'d.isLt).live.state = .ejecting ∧ (t.devices[d]'d.isLt).live.order = .owed) ∧
    ((s.devices[d]'d.isLt).live.state = .jammed → (t.devices[d]'d.isLt).live.state = .jammed)
  empties : ∀ d : DevNo, (s.devices[d]'d.isLt).cfg.kind = .saucer → s.closedCount d = 0 →
    (t.devices[d]'d.isLt).live.hold.running = false
  slots : s.shown ≤ 16 → t.slots = s.slots

theorem recount_tallied {s : State} {b : Nat} (hs : s.DevicesSafe) (hon : s.devicesEnabled = true) (h8 : b ≤ 8) :
    Tallied b s (retakeOrders s (settleCounts b (retakeAll s))) := by
  have hsum := retakeAll_occupancies hs hon
  have hunheld := fun d => retakeAll_unheld (s := s) (d := d)
  have howed := fun d => retakeAll_owed (s := s) (d := d)
  have hholds := fun d => retakeAll_holds (s := s) (d := d)
  have howes := fun d => retakeAll_owes (s := s) (d := d)
  have hempty := fun d => retakeAll_empty (s := s) (d := d)
  have horder := fun d => retakeAll_order (s := s) (d := d)
  have hstate := retakeAll_state s
  obtain ⟨v, hframe⟩ := retakeAll_frame s
  have hkept : (retakeAll s).acct = s.acct ∧ (retakeAll s).link = s.link ∧ (retakeAll s).slots = s.slots := by
    rw [hframe]
    exact ⟨rfl, rfl, rfl⟩
  clear hframe
  generalize retakeAll s = e at *
  have hset := settleCounts_settled b e
  have hconserved := settleCounts_conserved e h8
  generalize settleCounts b e = c at hset hconserved ⊢
  obtain ⟨⟨w, n, a, hc⟩, hacct, hccfg, hclive, hcsame, hextra⟩ := hset
  have hlooks := Looks.foldl (retakeStep_looks s) (indices 8) c
  have hquiet := retakeOrders_quiet (fun _ => False) s c
  have hother := fun d (hd : s.recountOwes d = false) => retakeEvery_other (indices 8) c hd
  have hslots := retakeEvery_slots (before := s) (indices 8) c
  have htakes := fun d (hd : s.recountOwes d = true) => retakeEvery_takes (indices 8) c hd
  rw [retakeOrders_eq] at hquiet ⊢
  have hstock := hquiet.sound.balls hconserved
  have hpending := hquiet.pending .extraBall
  have hlink : ((indices 8).foldl (retakeStep s) c).acct = c.acct ∧ ((indices 8).foldl (retakeStep s) c).link = c.link :=
    hlooks.frame.acct_link
  clear hquiet
  generalize (indices 8).foldl (retakeStep s) c = t at *
  have hused {d : DevNo} (hf : s.fills d) : (s.devices[d]'d.isLt).cfg.kind ≠ .unused := by
    rw [hf.1]
    exact DeviceKind.noConfusion
  have hserving {d : DevNo} (hf : s.fills d) : (s.devices[d]'d.isLt).live.state ≠ .disabled := by
    obtain ⟨-, -, hiff, -⟩ := hs
    exact mt (hiff hon d).mp (hused hf)
  have hsame (hle : s.shown ≤ 16) : c.devices = e.devices := hcsame (hsum.trans_le hle) (h8.trans (by decide))
  have hworks (d : DevNo) := DeviceLive.kept_of_rested (hlooks.rested d)
  have hcounts (d : DevNo) := DeviceLive.kept_of_uncounted (hclive d)
  have hserves (hle : s.shown ≤ 16) (d : DevNo) (hd : s.recountOwes d = true) : c.serves d := fun _ => by
    obtain ⟨hf, h0⟩ := (recountOwes_iff s d).mp hd
    obtain ⟨hocc, -⟩ := DeviceLive.kept_of_unheld (hunheld d (hused hf))
    rw [hsame hle, howes d hf h0 (hserving hf), hocc]
    exact ⟨by omega, hf.2.1.ge⟩
  have hnone {d : DevNo} (hn : ¬ (s.fills d ∧ (s.devices[d]'d.isLt).cfg.holdTime = 0)) : s.recountOwes d = false :=
    Bool.eq_false_iff.mpr (mt (recountOwes_iff s d).mp hn)
  refine ⟨hstock, ?_, fun hlt => hpending (hextra (hsum.symm ▸ hlt)), ?_, fun d hk hle => ?_, fun d hn => ?_,
    fun d hf h0 => ?_, fun d hf h0 => ⟨?_, fun hi hle => ?_, fun hj => ?_⟩, fun d hk hc => ?_, fun hle => ?_⟩
  · rw [hlink.1, hacct, hsum, hkept.1]
  · rw [hlink.2, hc]
    exact hkept.2.1
  · obtain ⟨-, -, h1, h2, h3, h4⟩ := hworks d
    obtain ⟨g1, g2, g3, g4⟩ := DeviceLive.kept_of_unheld (hunheld d hk)
    rw [hsame hle] at h1 h2 h3 h4
    exact ⟨h1.trans g1, h2.trans g2, h3.trans g3, congrArg Timer.running (h4.trans g4)⟩
  · obtain ⟨h1, -, h3, h4⟩ := hcounts d
    rw [hother d (hnone hn)]
    exact ⟨h1.trans (howed d hn), h3.trans (hstate d), h4.trans (horder d)⟩
  · exact (hworks d).2.1.trans ((hcounts d).2.1.trans (hholds d hf h0))
  · exact (hworks d).1.trans ((hcounts d).1.trans (howes d hf h0 (hserving hf)))
  · have ho := (recountOwes_iff s d).mpr ⟨hf, h0⟩
    obtain ⟨-, -, h3, -⟩ := hcounts d
    exact htakes d ho (.inl ⟨mem_indices d, h3.trans ((hstate d).trans hi), hserves hle d ho⟩)
  · obtain ⟨-, -, h3, -⟩ := hcounts d
    have hjam := h3.trans ((hstate d).trans hj)
    rw [hlooks.busy d (by rw [hjam]; exact DeviceState.noConfusion)]
    exact hjam
  · rw [(hworks d).2.1, (hcounts d).2.1]
    exact hempty d hk hc
  · rw [hslots (hserves hle), hc]
    exact hkept.2.2

theorem recount_eq (b : Byte) (s : State) : recount [b] s = match s.recountCheck b.toNat with
    | .ok => ok (closeEvent s (retakeOrders s (settleCounts b.toNat (retakeAll s)))) []
    | st => refuse s st := by
  rw [retakeAll_eq]
  rfl

section
variable {s : State} {b : Nat}

theorem recountCheck_unready (h : s.devicesEnabled = false ∨ s.acct.phase = .play) : s.recountCheck b = .refusedState := by
  unfold State.recountCheck
  obtain h | h := h
  · rw [h]
    rfl
  · rw [if_pos h]
    exact ite_self _

theorem recountCheck_ready (hon : s.devicesEnabled = true) (hp : s.acct.phase ≠ .play) : s.recountCheck b =
    if b = 0 ∨ 8 < b then .badValue
    else if (indices 8).any (fun d => (s.devices[d]'d.isLt).live.state == .ejecting ||
      (s.devices[d]'d.isLt).live.state == .confirming) then .refusedBusy
    else .ok := by
  rw [State.recountCheck, hon, if_neg hp]
  rfl

end

/-- Settles O26. -/
theorem recountSetsUpTheCountsAfresh : Obligations.RecountSetsUpTheCountsAfresh := by
  unfold Obligations.RecountSetsUpTheCountsAfresh
  intro s b h
  have hrefuse {st : Status} (hst : st ≠ .ok) (hc : (s.begun 1).recountCheck b.toNat = st) :
      exec (.recount [b]) s = .next (s.refused 1 st) := by
    refine request_refused (len := 1) (run := recount) h rfl ?_
    rw [recount_eq, hc]
    cases st with
    | ok => exact absurd rfl hst
    | _ => rfl
  refine ⟨fun hr => ?_, fun hon hp hb => ?_, fun hon hp h1 h8 hbusy => ?_, fun hs hon hp h1 h8 hstill => ?_⟩
  · exact hrefuse Status.noConfusion (recountCheck_unready (s := s.begun 1) hr)
  · exact hrefuse Status.noConfusion ((recountCheck_ready (s := s.begun 1) hon hp).trans (if_pos hb))
  · refine hrefuse Status.noConfusion ((recountCheck_ready (s := s.begun 1) hon hp).trans ?_)
    obtain ⟨d, hd⟩ := hbusy
    rw [if_neg (by omega)]
    refine if_pos (List.any_eq_true.mpr ⟨d, mem_indices d, ?_⟩)
    exact (Bool.or_eq_true _ _).mpr (hd.imp beq_iff_eq.mpr beq_iff_eq.mpr)
  · intro sum fills
    have hcheck : (s.begun 1).recountCheck b.toNat = .ok := by
      refine (recountCheck_ready (s := s.begun 1) hon hp).trans ?_
      rw [if_neg (by omega)]
      refine if_neg fun hany => ?_
      obtain ⟨d, -, hd⟩ := List.any_eq_true.mp hany
      exact ((Bool.or_eq_true _ _).mp hd).elim (fun g => (hstill d).1 (beq_iff_eq.mp g)) fun g => (hstill d).2 (beq_iff_eq.mp g)
    have haccepts : recount [b] (s.begun 1) = ok (closeEvent (s.begun 1)
        (retakeOrders (s.begun 1) (settleCounts b.toNat (retakeAll (s.begun 1))))) [] := by
      rw [recount_eq, hcheck]
    refine ⟨_, request_ok (len := 1) (run := recount) h rfl haccepts, ?_⟩
    have htally := recount_tallied (s := s.begun 1) hs hon h8
    generalize retakeOrders (s.begun 1) (settleCounts b.toNat (retakeAll (s.begun 1))) = u at htally ⊢
    obtain ⟨hconserved, hacct, hextra, hlink, hcounted, hothers, hholds, howes, hempties, hslots⟩ := htally
    have hphase : u.acct.phase = s.acct.phase := by rw [hacct]; rfl
    have hclosing := closeEvent_closing (s.begun 1) u
    obtain ⟨hin, hafter, hsave, hcount, hsearch⟩ := closeEvent_unplayed (before := s.begun 1) (s := u) (by rw [hphase]; exact hp)
    have hballs := hclosing.conserved.mpr hconserved
    generalize closeEvent (s.begun 1) u = t at *
    have hdev (d : DevNo) : t.devices[d]'d.isLt = u.devices[d]'d.isLt := by rw [hclosing.devices]
    have hplay : t.ballsInPlay = u.ballsInPlay := hclosing.ballsInPlay
    have hextra' (hlt : b.toNat < sum) : t.isPending .extraBall = true :=
      (hclosing.pending .extraBall rfl).trans (hextra hlt)
    refine ⟨hballs, ?_, ?_, fun hle => ⟨?_, ?_⟩, fun hlt => ⟨?_, ?_, hextra' hlt⟩, fun d hk hle => ?_, fun d hn => ?_,
      fun d hf h0 => ?_, fun d hf h0 => ?_, fun d hk hc => ?_, fun hle => ?_, ?_, ?_, fun hk => ?_, ?_, ?_, ?_, ?_,
      prepare_link 1 _ ((State.link_of_kept hclosing.kept).trans hlink)⟩
    · exact hclosing.live.trans (by rw [hacct])
    · exact hclosing.flights.trans (by rw [hacct])
    · exact hclosing.installed.trans (by rw [hacct]; exact if_pos hle)
    · exact hclosing.missing.trans (by rw [hacct]; rfl)
    · exact hclosing.installed.trans (by rw [hacct]; exact if_neg (Nat.not_le.mpr hlt))
    · exact hclosing.missing.trans (by rw [hacct]; exact Nat.sub_eq_zero_of_le hlt.le)
    · exact (hdev d).symm ▸ hcounted d hk hle
    · exact (hdev d).symm ▸ hothers d hn
    · exact (hdev d).symm ▸ hholds d hf h0
    · exact (hdev d).symm ▸ howes d hf h0
    · exact (hdev d).symm ▸ hempties d hk hc
    · exact hclosing.slots.trans (hslots hle)
    · exact hin.trans hplay.symm
    · refine hafter.trans ?_
      unfold State.phaseAfter
      rw [hphase, ← hplay]
      rfl
    · have hloose : u.loose = u.acct.missing := by
        unfold State.loose
        rw [hacct]
        exact Nat.zero_add _
      have hsame : u.acct.search = s.acct.search ∧ u.acct.round = s.acct.round := by
        rw [hacct]
        exact ⟨rfl, rfl⟩
      have hmissing : t.acct.missing = u.acct.missing := hclosing.missing
      obtain ⟨g1, g2⟩ := hsearch (hk.imp (fun g => hloose.symm ▸ hmissing ▸ g) (Or.imp_right fun g => hsame.1.trans g))
      exact ⟨g1.trans hsame.1, g2.trans hsame.2⟩
    · exact hclosing.serveLaunch.trans (by rw [hacct]; rfl)
    · exact hsave.trans (by rw [hacct]; rfl)
    · exact hcount.trans (by rw [hacct]; rfl)
    · exact hclosing.savesUsed.trans (by rw [hacct]; rfl)

end Sys2Proof.Machine

/-! ### The balls in play and the phase (R71, R72, R76) -/

namespace Sys2Proof.Machine

/-! #### The end of play -/

/-- The accounting record apart from the expiries that are due. -/
def Accounting.undue (a : Accounting) : Accounting :=
  { a with saveTimer := { a.saveTimer with due := false }, idleTimer := { a.idleTimer with due := false } }

/-- Between two states modes ended. -/
structure Marked (s t : State) : Prop where
  acct : t.acct.undue = s.acct.undue
  due : s.acct.saveTimer.due = false → t.acct.saveTimer.due = false
  pending : ∀ k : Notice, k ≠ .modeEnded → t.isPending k = s.isPending k

theorem Marked.refl (s : State) : Marked s s := ⟨rfl, fun h => h, fun _ _ => rfl⟩

theorem Marked.trans {s t u : State} (h : Marked s t) (g : Marked t u) : Marked s u :=
  ⟨g.acct.trans h.acct, g.due ∘ h.due, fun k hk => (g.pending k hk).trans (h.pending k hk)⟩

theorem holdTimers_marked (s : State) : Marked s (holdTimers s) :=
  ⟨rfl, fun h => (congrArg (· && _) h).trans (Bool.false_and _), fun _ _ => rfl⟩

theorem endContext_marked (p : PlayerNo) (id : Nat) (r : EndReason) (s : State) : Marked s (endContext p id r s) := by
  cases hc : contextOf (s.pages[p]'p.isLt).stack id with
  | none =>
    have hsame : endContext p id r s = s := by simp only [endContext, hc]
    rw [hsame]
    exact .refl s
  | some x =>
    rw [endContext_of_contextOf r hc]
    have hraise (t : State) : Marked t (t.raise .modeEnded) := ⟨rfl, fun h => h, fun k hk => by
      rw [isPending_raise, decide_eq_false hk, Bool.or_false]⟩
    have hstack (f : Page → Page) : Marked s (s.modPage p f) := ⟨rfl, fun h => h, fun _ _ => rfl⟩
    exact ((hstack _).trans (holdTimers_marked _)).trans (hraise _)

theorem endMarked_marked (test : Context → Bool) (r : EndReason) (s : State) : Marked s (endMarked test r s) := by
  simp only [endMarked]
  generalize ((s.pages[s.session.current]'s.session.current.isLt).stack.reverse.filter test).map (fun c => c.id) = ids
  generalize s.session.current = p
  induction ids generalizing s with
  | nil => exact .refl s
  | cons id ids ih => exact (endContext_marked p id r s).trans (ih _)

/-- What the end of play leaves (R76). -/
structure PlayEnded (s t : State) : Prop where
  inPlay : t.acct.inPlay = s.acct.inPlay
  multiball : t.acct.multiball = s.acct.multiball
  phase : t.acct.phase = .ended
  saveState : t.acct.saveState = .off
  saveTimer : t.acct.saveTimer = .stopped
  search : t.acct.search = .idle
  idleTimer : t.acct.idleTimer.running = false
  ended : t.isPending .ballEnded = true
  pending : ∀ k : Notice, k ≠ .modeEnded → k ≠ .ballEnded → t.isPending k = s.isPending k
  stack : ∀ c ∈ t.page.stack, c.tpl.endOnDrain = false

theorem Timer.eq_stopped {t : Timer} (h : { t with due := false } = Timer.stopped) (hd : t.due = false) :
    t = .stopped := by
  obtain ⟨count, running, due⟩ := t
  subst hd
  exact h

theorem Marked.fields {s t : State} (h : Marked s t) : t.acct.inPlay = s.acct.inPlay ∧
    t.acct.multiball = s.acct.multiball ∧ t.acct.phase = s.acct.phase ∧ t.acct.saveState = s.acct.saveState ∧
      t.acct.search = s.acct.search ∧ t.acct.idleTimer.running = s.acct.idleTimer.running ∧
      (s.acct.saveTimer = .stopped → t.acct.saveTimer = .stopped) := by
  obtain ⟨hacct, hdue, -⟩ := h
  unfold Accounting.undue at hacct
  injection hacct with _ _ _ _ h5 _ h7 h8 h9 h10 _ h12 _ h14
  have hidle := congrArg Timer.running h14
  refine ⟨h7, h8, h5, h9, h12, hidle, fun hs => Timer.eq_stopped ?_ (hdue (by rw [hs]; rfl))⟩
  rw [h10, hs]
  rfl

/-- The state in which play ends, before the modes that a drain ends. -/
def State.drained (s : State) : State := stopIdle (endSearch (saveOff ((setPhase .ended s).raise .ballEnded)))

theorem endPlay_eq (s : State) : endPlay s = endMarked (fun c => c.tpl.endOnDrain) .drained s.drained := rfl

theorem drained_frame (s : State) : ∃ v : Vector Coil 24, s.drained = stopIdle { saveOff ((setPhase .ended s).raise .ballEnded)
    with coils := v, acct := (saveOff ((setPhase .ended s).raise .ballEnded)).acct.unsearched s.options.idleDelay } := by
  obtain ⟨v, hv⟩ := endSearch_unsearched (saveOff ((setPhase .ended s).raise .ballEnded))
  unfold State.drained
  rw [hv]
  exact ⟨v, rfl⟩

theorem Accounting.unsearched_play (a : Accounting) (n : Nat) : (a.unsearched n).inPlay = a.inPlay ∧
    (a.unsearched n).multiball = a.multiball := by
  unfold Accounting.unsearched
  split <;> exact ⟨rfl, rfl⟩

theorem endPlay_ended (s : State) : PlayEnded s (endPlay s) := by
  have hstack := endMarked_stack (test := fun c => c.tpl.endOnDrain)
    (fun c d h => tpl_of_plain (fun t => t.endOnDrain) h) .drained s.drained
  have hmarked := endMarked_marked (fun c => c.tpl.endOnDrain) .drained s.drained
  rw [endPlay_eq]
  generalize endMarked (fun c => c.tpl.endOnDrain) .drained s.drained = t at *
  obtain ⟨h1, h2, h3, h4, h5, h6, h7⟩ := hmarked.fields
  have hpending := hmarked.pending
  obtain ⟨v, hv⟩ := drained_frame s
  obtain ⟨g1, g2⟩ := (saveOff ((setPhase .ended s).raise .ballEnded)).acct.unsearched_play s.options.idleDelay
  obtain ⟨f1, f2, -, f4, f5, -⟩ := (saveOff ((setPhase .ended s).raise .ballEnded)).acct.unsearched_fields s.options.idleDelay
  have hraised (k : Notice) : s.drained.isPending k = (s.isPending k || decide (k = .ballEnded)) := by
    rw [hv]
    exact isPending_raise (setPhase .ended s) .ballEnded k
  clear hmarked
  generalize (saveOff ((setPhase .ended s).raise .ballEnded)).acct.unsearched s.options.idleDelay = a at *
  rw [hv] at h1 h2 h3 h4 h5 h6 h7
  refine ⟨h1.trans g1, h2.trans g2, h3.trans f2, h4.trans f4, h7 f5, h5.trans f1, h6, ?_, fun k hk hb => ?_, hstack⟩
  · rw [hpending .ballEnded Notice.noConfusion, hraised]
    exact Bool.or_true _
  · rw [hpending k hk, hraised, decide_eq_false hb, Bool.or_false]

/-! #### P and the multiball flag -/

/-- The multiball flag as the balls in play leave it, with its notice (R72). -/
def State.multiballFormed (s : State) (p : Nat) : State :=
  if 2 ≤ p then
    if s.acct.multiball then s else (s.modAcct fun a => { a with multiball := true }).raise .multiballStarted
  else if s.acct.multiball then (s.modAcct fun a => { a with multiball := false }).raise .multiballEnded
  else s

theorem formPlay_play {s : State} (hp : s.acct.phase = .play) : formPlay s =
    if s.ballsInPlay = 0
    then endPlay ((s.modAcct fun a => { a with inPlay := s.ballsInPlay }).multiballFormed s.ballsInPlay)
    else (s.modAcct fun a => { a with inPlay := s.ballsInPlay }).multiballFormed s.ballsInPlay := by
  simp only [formPlay, State.modAcct_acct, hp]
  rfl

/-- What the multiball flag's change leaves of the accounting record. -/
structure FlagFormed (p : Nat) (s t : State) : Prop where
  acct : ∃ m : Bool, t.acct = { s.acct with multiball := m }
  flag : t.acct.multiball = decide (2 ≤ p)
  started : t.isPending .multiballStarted = (s.isPending .multiballStarted || (decide (2 ≤ p) && !s.acct.multiball))
  ended : t.isPending .multiballEnded = (s.isPending .multiballEnded || (!decide (2 ≤ p) && s.acct.multiball))

theorem multiballFormed_formed (s : State) (p : Nat) : FlagFormed p s (s.multiballFormed p) := by
  have hraise (t : State) {k j : Notice} (h : j ≠ k) : (t.raise k).isPending j = t.isPending j := by
    rw [isPending_raise, decide_eq_false h, Bool.or_false]
  have hraised (t : State) (k : Notice) : (t.raise k).isPending k = true := by
    rw [isPending_raise, decide_eq_true rfl, Bool.or_true]
  unfold State.multiballFormed
  by_cases h2 : 2 ≤ p
  · rw [if_pos h2]
    cases hm : s.acct.multiball with
    | true => exact ⟨⟨_, rfl⟩, by simp [hm, h2], by simp [hm], by simp [h2]⟩
    | false => exact ⟨⟨true, rfl⟩, by simp [h2], by simp [hm, h2, hraised], by simp [h2, hraise]; rfl⟩
  · rw [if_neg h2]
    cases hm : s.acct.multiball with
    | true => exact ⟨⟨false, rfl⟩, by simp [h2], by simp [h2, hraise]; rfl, by simp [hm, h2, hraised]⟩
    | false => exact ⟨⟨_, rfl⟩, by simp [hm, h2], by simp [h2], by simp [hm]⟩

theorem formPlay_inPlay (s : State) : (formPlay s).acct.inPlay = s.ballsInPlay := by
  by_cases hp : s.acct.phase = .play
  · rw [formPlay_play hp]
    obtain ⟨⟨m, hm⟩, -⟩ := multiballFormed_formed (s.modAcct fun a => { a with inPlay := s.ballsInPlay }) s.ballsInPlay
    have hin := congrArg Accounting.inPlay hm
    split
    · rw [(endPlay_ended _).inPlay]
      exact hin
    · exact hin
  · rw [formPlay_unplayed hp]
    rfl

theorem closeEvent_inPlay (before s : State) : (closeEvent before s).acct.inPlay = (closeEvent before s).ballsInPlay := by
  rw [(closeEvent_closing before s).ballsInPlay, closeEvent_adjusted, ← (adjustSearch_closing before s).ballsInPlay]
  exact formPlay_inPlay _

/-- The formation of P, by the phase. -/
theorem formPlay_decides : ∀ s : State, (formPlay s).acct.inPlay = s.ballsInPlay ∧
    (s.acct.phase = .play → 2 ≤ s.ballsInPlay → (formPlay s).acct.phase = .play ∧ (formPlay s).acct.multiball = true ∧
      (formPlay s).isPending .multiballStarted = (s.isPending .multiballStarted || !s.acct.multiball)) ∧
    (s.acct.phase = .play → s.ballsInPlay ≤ 1 → (formPlay s).acct.multiball = false ∧
      (formPlay s).isPending .multiballEnded = (s.isPending .multiballEnded || s.acct.multiball)) ∧
    (s.acct.phase = .play → s.ballsInPlay = 0 → (formPlay s).acct.phase = .ended ∧
      (formPlay s).isPending .ballEnded = true ∧ (formPlay s).acct.saveState = .off ∧
      (formPlay s).acct.saveTimer = .stopped ∧ (formPlay s).acct.search = .idle ∧
      (formPlay s).acct.idleTimer.running = false ∧ (∀ c ∈ (formPlay s).page.stack, c.tpl.endOnDrain = false)) ∧
    (s.acct.phase = .serving ∨ s.acct.phase = .launchWait → s.ballsInPlay = 0 →
      formPlay s = { s with acct := { s.acct with inPlay := 0, phase := .noPlay } }) ∧
    (s.acct.phase = .noPlay ∨ s.acct.phase = .ended →
      formPlay s = { s with acct := { s.acct with inPlay := s.ballsInPlay } }) := by
  intro s
  have hm := multiballFormed_formed (s.modAcct fun a => { a with inPlay := s.ballsInPlay }) s.ballsInPlay
  refine ⟨formPlay_inPlay s, fun hp h2 => ?_, fun hp h1 => ?_, fun hp h0 => ?_, fun hp h0 => ?_, fun hp => ?_⟩
  · rw [formPlay_play hp, if_neg (by omega)]
    obtain ⟨⟨m, hacct⟩, hflag, hstarted, -⟩ := hm
    rw [decide_eq_true h2] at hflag hstarted
    refine ⟨?_, hflag, hstarted⟩
    rw [hacct]
    exact hp
  · rw [formPlay_play hp]
    obtain ⟨-, hflag, -, hended⟩ := hm
    rw [decide_eq_false (by omega)] at hflag hended
    split
    · have he := endPlay_ended ((s.modAcct fun a => { a with inPlay := s.ballsInPlay }).multiballFormed s.ballsInPlay)
      exact ⟨he.multiball.trans hflag, (he.pending .multiballEnded Notice.noConfusion Notice.noConfusion).trans hended⟩
    · exact ⟨hflag, hended⟩
  · rw [formPlay_play hp, if_pos h0]
    obtain ⟨-, -, h1, h2, h3, h4, h5, h6, -, h7⟩ :=
      endPlay_ended ((s.modAcct fun a => { a with inPlay := s.ballsInPlay }).multiballFormed s.ballsInPlay)
    exact ⟨h1, h6, h2, h3, h4, h5, h7⟩
  · rw [formPlay_unplayed fun hn => hp.elim (fun h => PlayPhase.noConfusion (h.symm.trans hn))
      fun h => PlayPhase.noConfusion (h.symm.trans hn), State.phaseAfter_empty hp h0, h0]
    rfl
  · have hne : ¬ (s.acct.phase = .serving ∨ s.acct.phase = .launchWait) := by
      rintro (h | h)
      · exact hp.elim (fun g => PlayPhase.noConfusion (h.symm.trans g)) fun g => PlayPhase.noConfusion (h.symm.trans g)
      · exact hp.elim (fun g => PlayPhase.noConfusion (h.symm.trans g)) fun g => PlayPhase.noConfusion (h.symm.trans g)
    rw [formPlay_unplayed fun hn => hp.elim (fun h => PlayPhase.noConfusion (h.symm.trans hn))
      fun h => PlayPhase.noConfusion (h.symm.trans hn), State.phaseAfter_still fun h => hne h.1]
    rfl

end Sys2Proof.Machine

/-! ### The evaluation of a device, step by step (R21 to R24, R37) -/

namespace Sys2Proof.Machine

/-! #### The steps -/

/-- The exits and the entries that an evaluation counts. -/
def State.tallies (s : State) (d : DevNo) : Nat × Nat :=
  if (s.devices[d]'d.isLt).cfg.entry.isSome
  then swapCount (s.closedCount d) (s.devices[d]'d.isLt).live.occupancy (s.devices[d]'d.isLt).live.entriesSeen
  else netCount (s.closedCount d) (s.devices[d]'d.isLt).live.occupancy

/-- Whether an evaluation is a fallback evaluation. -/
def State.fallsBack (s : State) (d : DevNo) : Bool := (s.devices[d]'d.isLt).live.fallsBack (s.tallies d).2

/-- The device counted, and what was handed. -/
def State.tallied (s : State) (d : DevNo) : State × Tally :=
  recountDevice d (s.tallies d) (s.closedCount d) (s.fallsBack d) (s.modLive d fun l => { l with settle := .stopped })

/-- The evaluation up to the change of phase. -/
def State.evaluated (s : State) (d : DevNo) : State :=
  takeOrder d (saucerHold d (s.devices[d]'d.isLt).live.occupancy (s.tallied d).2.ordinary
    (actOnOrder d (s.tallies d).1 (s.fallsBack d) (s.tallied d).1))

theorem evaluate_eq (d : DevNo) (s : State) : evaluate d s =
    if s.exitStartsPlay d (s.tallies d).1 then enterPlay (s.evaluated d) else s.evaluated d := rfl

section
variable {s : State} {d : DevNo}

theorem evaluation_taken (hr : (s.devices[d]'d.isLt).live.settle.running = true)
    (hd : (s.devices[d]'d.isLt).live.settle.due = true) : exec (.evaluation d) s = .next (event (evaluate d) s) :=
  congrArg Host.Outcome.next (if_pos ⟨hr, hd⟩)

theorem tallies_unentered (h : (s.devices[d]'d.isLt).cfg.entry = none) :
    s.tallies d = (((s.devices[d]'d.isLt).live.occupancy - s.closedCount d),
      (s.closedCount d - (s.devices[d]'d.isLt).live.occupancy)) := by
  rw [State.tallies, h]
  rfl

theorem tallies_room (s : State) (d : DevNo) :
    (s.tallies d).2 - (s.tallies d).1 ≤ s.closedCount d - (s.devices[d]'d.isLt).live.occupancy := by
  unfold State.tallies
  split
  · unfold swapCount
    dsimp only
    omega
  · exact Nat.sub_le _ _

theorem fallsBack_unordered (h : (s.devices[d]'d.isLt).live.order = .none) : s.fallsBack d = false := by
  rw [State.fallsBack, DeviceLive.fallsBack, h]
  simp

theorem fallsBack_exits (h : (s.tallies d).2 = 0) : s.fallsBack d = false := by
  rw [State.fallsBack, DeviceLive.fallsBack, h]
  rfl

/-! #### What follows the count -/

/-- What an evaluation counts at a device, apart from its hold. -/
def DeviceLive.numbers (l : DeviceLive) : Nat × Nat × Bool := (l.occupancy, l.entriesSeen, l.countFault)

/-- What follows the count of device `d` in its evaluation. -/
structure Acting (d : DevNo) (s t : State) : Prop where
  frame : WorkFrame s t
  others : ∀ e : DevNo, e ≠ d → t.devices[e]'e.isLt = s.devices[e]'e.isLt
  cfg : (t.devices[d]'d.isLt).cfg = (s.devices[d]'d.isLt).cfg
  numbers : (t.devices[d]'d.isLt).live.numbers = (s.devices[d]'d.isLt).live.numbers
  hushed : s.Hushed t

theorem Acting.trans {t u : State} (h : Acting d s t) (g : Acting d t u) : Acting d s u where
  frame := h.frame.trans g.frame
  others e he := (g.others e he).trans (h.others e he)
  cfg := g.cfg.trans h.cfg
  numbers := g.numbers.trans h.numbers
  hushed k hk := (g.hushed k hk).trans (h.hushed k hk)

theorem Serving.acting {t : State} (h : Serving d s t) : Acting d s t where
  frame := h.frame
  others := h.others
  cfg := h.cfg
  numbers := by
    have hcounts := congrArg (fun x : Nat × Nat × Bool × Timer => (x.1, x.2.1, x.2.2.1)) h.counts
    exact hcounts
  hushed := h.hushed

theorem Acting.modLive (d : DevNo) (s : State) (f : DeviceLive → DeviceLive) (hf : ∀ l, (f l).numbers = l.numbers) :
    Acting d s (s.modLive d f) where
  frame := ⟨_, s.coils, s.slots, s.notices, rfl⟩
  others e he := by rw [State.modLive_get, if_neg he]
  cfg := State.modLive_cfg s d d f
  numbers := by
    rw [State.modLive_get, if_pos rfl]
    exact hf _
  hushed _ _ := rfl

theorem saucerHold_acting (d : DevNo) (before ordinary : Nat) (s : State) :
    Acting d s (saucerHold d before ordinary s) := by
  have howed (l : DeviceLive) : (if l.state = .disabled then l else { l with owed := min 8 (l.owed + 1) }).numbers =
      l.numbers := by split <;> rfl
  simp only [saucerHold]
  split
  · exact (Serving.refl d s).acting
  · split
    · exact .modLive d s _ fun _ => rfl
    · split
      · split
        · exact .modLive d s _ howed
        · exact .modLive d s _ fun _ => rfl
      · exact (Serving.refl d s).acting

theorem evaluated_acting (s : State) (d : DevNo) : Acting d (s.tallied d).1 (s.evaluated d) :=
  ((actOnOrder_serving d _ _ _).acting.trans (saucerHold_acting d _ _ _)).trans (takeOrder_serving d _).acting

theorem Acting.acct {t : State} (h : Acting d s t) : t.acct = s.acct := by
  obtain ⟨v, c, x, n, hf⟩ := h.frame
  rw [hf]

theorem Acting.options {t : State} (h : Acting d s t) : t.options = s.options := by
  obtain ⟨v, c, x, n, hf⟩ := h.frame
  rw [hf]

/-! #### A count with exits only -/

theorem recountDevice_exits (d : DevNo) (x c : Nat) (fallback : Bool) (s : State) : recountDevice d (x, 0) c fallback s =
    ((handExits d x (s.modLive d fun l => { l with entriesSeen := 0 })).modLive d fun l => { l with occupancy := c },
      { own := x, unattributed := 0, ordinary := 0 }) := rfl

/-- The record of an exit that device `d` loses (R63). -/
def State.lostBall (s : State) (d : DevNo) : FlightRec :=
  { source := d, target := (s.devices[d]'d.isLt).cfg.target, stamp := s.frameCount,
    remaining := (s.devices[d]'d.isLt).cfg.flightTime, due := false,
    cause := if (s.devices[d]'d.isLt).cfg.kind = .shooter then .launch
      else if (s.devices[d]'d.isLt).live.order = .none then .unprompted else .eject }

/-- A device counted with exits only. -/
def State.exited (s : State) (d : DevNo) (x c : Nat) : State :=
  (s.modLive d fun l => { l with settle := .stopped, entriesSeen := 0, occupancy := c }).modAcct fun a =>
    { a with flights := a.flights ++ List.replicate x (s.lostBall d) }

theorem tallied_exits (h : (s.devices[d]'d.isLt).cfg.entry = none)
    (hc : s.closedCount d ≤ (s.devices[d]'d.isLt).live.occupancy) : s.tallied d =
      (s.exited d ((s.devices[d]'d.isLt).live.occupancy - s.closedCount d) (s.closedCount d),
        { own := (s.devices[d]'d.isLt).live.occupancy - s.closedCount d, unattributed := 0, ordinary := 0 }) := by
  have hget (f : DeviceLive → DeviceLive) : (s.modLive d f).devices[d]'d.isLt =
      { s.devices[d]'d.isLt with live := f (s.devices[d]'d.isLt).live } := by rw [State.modLive_get, if_pos rfl]
  have hrec : ((s.modLive d fun l => { l with settle := .stopped }).modLive d fun l =>
      { l with entriesSeen := 0 }).exitRecord d = s.lostBall d := by
    rw [State.modLive_modLive, State.exitRecord, State.exitCause, hget]
    rfl
  have hzero : s.closedCount d - (s.devices[d]'d.isLt).live.occupancy = 0 := Nat.sub_eq_zero_of_le hc
  rw [State.tallied, tallies_unentered h, hzero, recountDevice_exits, handExits, hrec, State.exited]
  have hmove (u : State) (f : Accounting → Accounting) (g : DeviceLive → DeviceLive) :
      (u.modAcct f).modLive d g = (u.modLive d g).modAcct f := rfl
  rw [hmove, State.modLive_modLive, State.modLive_modLive]
  rfl

end

end Sys2Proof.Machine

/-! ### What an evaluation counts (R21 to R24, R37, R62, R63, R66, R67) -/

namespace Sys2Proof.Machine

theorem enterPlay_acct (c : Prop) [Decidable c] (s : State) : (if c then enterPlay s else s).acct.live = s.acct.live ∧
    (if c then enterPlay s else s).acct.missing = s.acct.missing ∧
    (if c then enterPlay s else s).acct.installed = s.acct.installed ∧
    (if c then enterPlay s else s).acct.flights = s.acct.flights := by
  split <;> exact ⟨rfl, rfl, rfl, rfl⟩

section
variable {s : State} {d : DevNo}

theorem evaluation_devices (s : State) (d : DevNo) : (event (evaluate d) s).devices = (s.evaluated d).devices := by
  rw [event, (closeEvent_closing s _).devices, evaluate_eq, enterPlay_devices]

theorem evaluation_acct (s : State) (d : DevNo) : (event (evaluate d) s).acct.live = (s.tallied d).1.acct.live ∧
    (event (evaluate d) s).acct.missing = (s.tallied d).1.acct.missing ∧
    (event (evaluate d) s).acct.installed = (s.tallied d).1.acct.installed ∧
    (event (evaluate d) s).acct.flights = (s.tallied d).1.acct.flights := by
  have hclose := closeEvent_closing s (evaluate d s)
  obtain ⟨h1, h2, h3, h4⟩ := enterPlay_acct (s.exitStartsPlay d (s.tallies d).1 = true) (s.evaluated d)
  rw [← evaluate_eq, (evaluated_acting s d).acct] at h1 h2 h3 h4
  exact ⟨hclose.live.trans h1, hclose.missing.trans h2, hclose.installed.trans h3, hclose.flights.trans h4⟩

theorem evaluation_numbers (s : State) (d : DevNo) : (event (evaluate d) s).devices[d].live.numbers =
    (s.tallied d).1.devices[d].live.numbers := by
  have hdev : (event (evaluate d) s).devices[d] = (s.evaluated d).devices[d] := by rw [evaluation_devices]
  rw [hdev, (evaluated_acting s d).numbers]

/-- A count with room for every ball that came in. -/
theorem tallied_numbers (h : s.acct.installed + (s.closedCount d - (s.devices[d]'d.isLt).live.occupancy) ≤ Config.maxInstalled) :
    (s.tallied d).1.devices[d].live.occupancy = s.closedCount d ∧
      (s.tallied d).1.devices[d].live.entriesSeen = 0 := by
  have hroom : s.acct.installed + ((s.tallies d).2 - (s.tallies d).1) ≤ Config.maxInstalled :=
    (Nat.add_le_add_left (tallies_room s d) _).trans h
  have hlive := (recountDevice_attributed (d := d) (s.tallies d) (s.closedCount d) (s.fallsBack d)
    (s := s.modLive d fun l => { l with settle := .stopped }) hroom).live
  rw [State.tallied]
  have hocc := congrArg DeviceLive.occupancy hlive
  have hseen := congrArg DeviceLive.entriesSeen hlive
  exact ⟨hocc, hseen⟩

/-! #### Entries that no place supplies -/

theorem supplyEntry_live (h : s.acct.flights = []) (hl : 1 ≤ s.acct.live) (own : Nat) : supplyEntry d false own s =
    (s.modAcct fun a => { a with live := a.live - 1 }, own, .live) := by
  simp [supplyEntry, h, oldestAt, hl]

theorem supplyEntry_missing (h : s.acct.flights = []) (hl : s.acct.live = 0) (hm : 1 ≤ s.acct.missing) (own : Nat) :
    supplyEntry d false own s = ((s.modAcct fun a => { a with missing := a.missing - 1 }).raise .ballFound, own, .missing) := by
  simp [supplyEntry, h, oldestAt, hl, hm]

theorem supplyEntry_nowhere (h : s.acct.flights = []) (hl : s.acct.live = 0) (hm : s.acct.missing = 0)
    (hin : 16 ≤ s.acct.installed) : supplyEntry d false 0 s = (s, 0, .unattributed) := by
  simp [supplyEntry, h, oldestAt, hl, hm, Config.maxInstalled, Nat.not_lt.mpr hin]

/-- Whether an entry that is handed can raise a kind. -/
def Notice.ofEntry (k : Notice) : Bool := k ∈ [.ballSaved, .lockCaptured, .lockRejected, .ejectFinished]

/-- An entry's rules raise no other notice. -/
theorem entryRules_pending (d : DevNo) (x : Supply) (s : State) {k : Notice} (hk : k.ofEntry = false) :
    (entryRules d false x s).isPending k = s.isPending k := by
  have hraise (t : State) {j : Notice} (hj : j.ofEntry = true) : (t.raise j).isPending k = t.isPending k := by
    have hne : k ≠ j := fun he => Bool.false_ne_true (hk.symm.trans (he ▸ hj))
    rw [isPending_raise, decide_eq_false hne, Bool.or_false]
  have hdrain (t : State) : (drain t).isPending k = t.isPending k := by
    unfold drain
    split
    · exact hraise _ (by decide)
    · rfl
  have hshoot (t : State) : (shooterEntry false t).isPending k = t.isPending k := by
    unfold shooterEntry
    split
    · dsimp only
      split <;> rfl
    · rfl
    · rfl
  have hcapture (n : LockNo) (t : State) : (capture n t).isPending k = t.isPending k := by
    rw [capture_eq]
    have hlit : (t.withCapture n).isPending k = t.isPending k := hraise _ (by decide)
    split
    · obtain ⟨v, c, y, b, hf⟩ := OrderFrame.of_addOwed trough (t.withCapture n)
      rw [hf, ← hlit]
      cases b with
      | false => rfl
      | true => exact hraise _ (by decide)
    · exact hlit
  have hdecide (t : State) : (captureDecision d t).isPending k = t.isPending k := by
    unfold captureDecision
    split
    · rfl
    · split
      · exact hcapture _ t
      · exact hraise _ (by decide)
  simp only [entryRules]
  rw [if_neg Bool.false_ne_true, hdecide]
  split
  · rw [hshoot]
    split
    · exact hdrain s
    · rfl
  · split
    · exact hdrain s
    · rfl

end

/-- What the entries of an evaluation leave when no record, no room for a new ball and no order stands behind them: the
live and the missing balls come in first, and each further one is a fault (R66, R67). -/
structure Faulted (d : DevNo) (n : Nat) (t : Tally) (s : State) (r : State × Tally) : Prop where
  installed : r.1.acct.installed = s.acct.installed
  flights : r.1.acct.flights = []
  live : r.1.acct.live = s.acct.live - n
  missing : r.1.acct.missing = s.acct.missing - (n - s.acct.live)
  unattributed : r.2.unattributed = t.unattributed + (n - s.acct.live - s.acct.missing)
  fault : (r.1.devices[d]'d.isLt).live.countFault =
    ((s.devices[d]'d.isLt).live.countFault || decide (s.acct.live + s.acct.missing < n))
  seen : (r.1.devices[d]'d.isLt).live.entriesSeen = (s.devices[d]'d.isLt).live.entriesSeen
  extra : r.1.isPending .extraBall = (s.isPending .extraBall ||
    (decide (s.acct.live + s.acct.missing < n) && !(s.devices[d]'d.isLt).live.countFault))

/-- The rules of an entry leave the counts of balls, the count-fault flag and EXTRA_BALL. -/
theorem entryRules_leaves (d : DevNo) (x : Supply) (s : State) :
    (entryRules d false x s).acct.installed = s.acct.installed ∧ (entryRules d false x s).acct.flights = s.acct.flights ∧
    (entryRules d false x s).acct.live = s.acct.live ∧ (entryRules d false x s).acct.missing = s.acct.missing ∧
    ((entryRules d false x s).devices[d]).live.countFault = (s.devices[d]'d.isLt).live.countFault ∧
    ((entryRules d false x s).devices[d]).live.entriesSeen = (s.devices[d]'d.isLt).live.entriesSeen ∧
    (entryRules d false x s).isPending .extraBall = s.isPending .extraBall := by
  obtain ⟨-, hin, hlive, hmissing, hfl⟩ := Stock.ext_iff'.mp (entryRules_quiet (fun _ => False) d false x s).stock
  have hhand := (entryRules_handing d false x s).live
  have hfault := congrArg DeviceLive.countFault hhand
  have hseen := congrArg DeviceLive.entriesSeen hhand
  exact ⟨hin, hfl, hlive, hmissing, hfault, hseen, entryRules_pending d x s (by decide)⟩

/-- An entry that the live or the missing count supplies. -/
theorem Faulted.of_supplied {d : DevNo} {t t' : Tally} {s u : State} (x : Supply) (hpos : 1 ≤ s.acct.live + s.acct.missing)
    (hin : u.acct.installed = s.acct.installed) (hfl : u.acct.flights = []) (hl : u.acct.live = s.acct.live - 1)
    (hm : u.acct.missing = s.acct.missing - (1 - s.acct.live)) (hd : u.devices = s.devices)
    (he : u.isPending .extraBall = s.isPending .extraBall) (ht : t'.unattributed = t.unattributed) :
    Faulted d 1 t s (entryRules d false x u, t') := by
  obtain ⟨h1, h2, h3, h4, h5, h6, h7⟩ := entryRules_leaves d x u
  have hno : decide (s.acct.live + s.acct.missing < 1) = false := decide_eq_false (by omega)
  rw [hd] at h5 h6
  refine ⟨h1.trans hin, h2.trans hfl, h3.trans hl, h4.trans hm, ht.trans (by omega), ?_, h6, ?_⟩
  · rw [hno, Bool.or_false]
    exact h5
  · rw [hno, Bool.false_and, Bool.or_false]
    exact h7.trans he

theorem countFault_get (d : DevNo) (s : State) : (countFault d s).devices[d]'d.isLt =
    { s.devices[d]'d.isLt with live := { (s.devices[d]'d.isLt).live with countFault := true } } := by
  have hget : (s.modLive d fun l => { l with countFault := true }).devices[d] =
      { s.devices[d]'d.isLt with live := { (s.devices[d]'d.isLt).live with countFault := true } } := by
    rw [State.modLive_get, if_pos rfl]
  unfold countFault State.raiseIf
  dsimp only
  split <;> exact hget

theorem handEntry_faulted {d : DevNo} {t : Tally} {s : State} (hown : t.own = 0) (hfl : s.acct.flights = [])
    (hin : 16 ≤ s.acct.installed) : Faulted d 1 t s (handEntry d false t s) ∧ (handEntry d false t s).2.own = 0 := by
  simp only [handEntry, hown]
  by_cases hl : 1 ≤ s.acct.live
  · rw [supplyEntry_live hfl hl]
    exact ⟨.of_supplied .live (by omega) rfl hfl rfl (by simp only [State.modAcct_acct]; omega) rfl rfl rfl, rfl⟩
  · have hl0 : s.acct.live = 0 := by omega
    by_cases hm : 1 ≤ s.acct.missing
    · rw [supplyEntry_missing hfl hl0 hm]
      have hfound (u : State) : (u.raise .ballFound).isPending .extraBall = u.isPending .extraBall := by
        rw [isPending_raise]
        exact Bool.or_false _
      exact ⟨.of_supplied .missing (by omega) rfl hfl (by simp only [State.raise_acct, State.modAcct_acct]; omega)
        (by simp only [State.raise_acct, State.modAcct_acct]; omega) rfl (hfound _) rfl, rfl⟩
    · have hm0 : s.acct.missing = 0 := by omega
      rw [supplyEntry_nowhere hfl hl0 hm0 hin, if_pos rfl]
      have hyes : decide (s.acct.live + s.acct.missing < 1) = true := decide_eq_true (by omega)
      have hget := countFault_get d s
      have hlive := congrArg Device.live hget
      have hacct : (countFault d s).acct = s.acct := by
        simp only [countFault]
        rw [State.raiseIf_acct]
        rfl
      have hextra : (countFault d s).isPending .extraBall =
          (s.isPending .extraBall || !(s.devices[d]'d.isLt).live.countFault) := by
        simp only [countFault]
        rw [isPending_raiseIf, decide_eq_true rfl, Bool.and_true]
        rfl
      refine ⟨⟨?_, ?_, ?_, ?_, ?_, ?_, ?_, ?_⟩, rfl⟩
      · rw [hacct]
      · rw [hacct, hfl]
      · rw [hacct, hl0]
      · rw [hacct, hm0, Nat.zero_sub]
      · dsimp only
        omega
      · rw [hyes, Bool.or_true]
        exact congrArg DeviceLive.countFault hlive
      · have hseen := congrArg DeviceLive.entriesSeen hlive
        exact hseen
      · rw [hyes, Bool.true_and]
        exact hextra

/-- A fault raises EXTRA_BALL once (R24). -/
theorem raisedOnce (p f x y : Bool) : ((p || (x && !f)) || (y && !(f || x))) = (p || ((x || y) && !f)) := by
  cases f <;> cases x <;> simp

theorem decide_fault (l m n : Nat) : (decide (l + m < 1) || decide (l - 1 + (m - (1 - l)) < n)) = decide (l + m < n + 1) := by
  cases l with
  | zero =>
    cases m with
    | zero => simp
    | succ m => simp
  | succ l => simp; omega

theorem live_fault (l n : Nat) : l - 1 - n = l - (n + 1) := by rw [Nat.sub_sub, Nat.add_comm]

theorem missing_fault (l m n : Nat) : m - (1 - l) - (n - (l - 1)) = m - (n + 1 - l) := by
  cases l with
  | zero => exact live_fault m n
  | succ l => rw [Nat.sub_eq_zero_of_le (Nat.succ_pos l), Nat.sub_zero, Nat.add_sub_cancel, Nat.add_sub_add_right]

theorem entries_fault (u l m n : Nat) :
    u + (1 - l - m) + (n - (l - 1) - (m - (1 - l))) = u + (n + 1 - l - m) := by
  cases l with
  | zero =>
    cases m with
    | zero => exact (Nat.add_assoc u 1 n).trans (congrArg (u + ·) (Nat.add_comm 1 n))
    | succ m =>
      change u + (1 - (m + 1)) + (n - (m + 1 - 1)) = u + (n + 1 - (m + 1))
      rw [Nat.sub_eq_zero_of_le (Nat.succ_pos m), Nat.add_sub_cancel, Nat.add_sub_add_right, Nat.add_zero]
  | succ l =>
    rw [Nat.sub_eq_zero_of_le (Nat.succ_pos l), Nat.zero_sub, Nat.add_sub_cancel, Nat.add_sub_add_right, Nat.sub_zero,
      Nat.add_zero]

theorem handEntries_faulted {d : DevNo} (n : Nat) {t : Tally} {s : State} (hown : t.own = 0) (hfl : s.acct.flights = [])
    (hin : 16 ≤ s.acct.installed) : Faulted d n t s (handEntries d n false t s) := by
  induction n generalizing t s with
  | zero =>
    have hno : decide (s.acct.live + s.acct.missing < 0) = false := decide_eq_false (Nat.not_lt_zero _)
    refine ⟨rfl, hfl, rfl, ?_, ?_, ?_, rfl, ?_⟩
    · rw [Nat.zero_sub]
      rfl
    · rw [Nat.zero_sub, Nat.zero_sub]
      rfl
    · rw [hno, Bool.or_false]
      rfl
    · rw [hno, Bool.false_and, Bool.or_false]
      rfl
  | succ n ih =>
    obtain ⟨⟨h1, h2, h3, h4, h5, h6, h7, h8⟩, hown'⟩ := handEntry_faulted (d := d) hown hfl hin
    obtain ⟨g1, g2, g3, g4, g5, g6, g7, g8⟩ := ih hown' h2 (h1.symm ▸ hin)
    simp only [handEntries]
    rw [h3] at g3 g4 g5
    rw [h4] at g4 g5
    rw [h5] at g5
    refine ⟨g1.trans h1, g2, g3.trans (live_fault _ n), g4.trans (missing_fault _ _ n), g5.trans (entries_fault _ _ _ n),
      g6.trans ?_, g7.trans h7, g8.trans ?_⟩
    · rw [h6, h3, h4, Bool.or_assoc, decide_fault]
    · rw [h8, h6, h3, h4, raisedOnce, decide_fault]

/-! #### A device without an order -/

/-- A device without an order does not act on what it counted. -/
theorem actOnOrder_unordered {d : DevNo} {exits : Nat} {s : State} (h : (s.devices[d]'d.isLt).live.order = .none)
    (hc : (s.devices[d]'d.isLt).live.state ≠ .confirming ∨ exits = 0) : actOnOrder d exits false s = s := by
  have hneeds : s.needs d = 0 := by
    rw [State.needs, h]
  have hnext : nextBall d s = s := by
    refine if_neg fun hn => ?_
    obtain ⟨-, -, -, hpos, -⟩ := hn
    rw [hneeds] at hpos
    exact Nat.lt_irrefl 0 hpos
  have hstop : ¬ ((s.devices[d]'d.isLt).live.state = .confirming ∧ (s.devices[d]'d.isLt).live.stopPending = true ∧
      (1 ≤ exits ∨ False)) := by
    rintro ⟨hconf, -, hx⟩
    obtain hst | rfl := hc
    · exact hst hconf
    · exact hx.elim (fun h => Nat.not_succ_le_zero 0 h) id
  simp only [actOnOrder, h, ne_eq, not_true_eq_false, false_and, if_false, if_neg hstop, hnext, ite_self,
    Bool.false_eq_true]

/-- An entry at a device that is no trough, no shooter lane and no LOCK meets no rule. -/
theorem entryRules_plain {d : DevNo} {s : State} (h2 : 2 ≤ d.val) (hk : (s.devices[d]'d.isLt).cfg.kind ≠ .lock)
    (x : Supply) : entryRules d false x s = s := by
  have htrough : ¬ d = trough := fun h => absurd (congrArg Fin.val h) (by rw [show trough.val = 0 from rfl]; omega)
  have hshooter : ¬ d = shooter := fun h => absurd (congrArg Fin.val h) (by rw [show shooter.val = 1 from rfl]; omega)
  have hdecide : captureDecision d s = s := by
    rw [captureDecision, State.lockOf_eq_none (.inr hk)]
  simp only [entryRules, htrough, hshooter, false_and, if_false, hdecide, Bool.false_eq_true]

section
variable {s : State} {d : DevNo}

/-- The device as the count leaves it before its entries are handed. -/
def State.cleared (s : State) (d : DevNo) : State :=
  handExits d 0 ((s.modLive d fun l => { l with settle := .stopped }).modLive d fun l => { l with entriesSeen := 0 })

theorem cleared_acct (s : State) (d : DevNo) : (s.cleared d).acct = s.acct := by
  have hflights : s.acct.flights ++ List.replicate 0 (((s.modLive d fun l => { l with settle := .stopped }).modLive d
      fun l => { l with entriesSeen := 0 }).exitRecord d) = s.acct.flights := List.append_nil _
  unfold State.cleared handExits
  rw [State.modAcct_acct]
  exact congrArg (fun f => { s.acct with flights := f }) hflights

theorem cleared_get (s : State) (d : DevNo) : (s.cleared d).devices[d] = { s.devices[d]'d.isLt with
    live := { (s.devices[d]'d.isLt).live with settle := .stopped, entriesSeen := 0 } } := by
  unfold State.cleared handExits
  rw [State.modAcct_devices, State.modLive_get, if_pos rfl, State.modLive_get, if_pos rfl]

/-- A count with entries only, at a device without an order. -/
theorem tallied_entries (h : (s.devices[d]'d.isLt).cfg.entry = none) (ho : (s.devices[d]'d.isLt).live.order = .none)
    (hc : (s.devices[d]'d.isLt).live.occupancy < s.closedCount d) : s.tallied d =
      ((handEntries d (s.closedCount d - (s.devices[d]'d.isLt).live.occupancy) false ⟨0, 0, 0⟩ (s.cleared d)).1.modLive d
        (fun l => { l with occupancy := s.closedCount d -
          (handEntries d (s.closedCount d - (s.devices[d]'d.isLt).live.occupancy) false ⟨0, 0, 0⟩ (s.cleared d)).2.unattributed }),
        (handEntries d (s.closedCount d - (s.devices[d]'d.isLt).live.occupancy) false ⟨0, 0, 0⟩ (s.cleared d)).2) := by
  rw [State.tallied, tallies_unentered h, fallsBack_unordered ho, Nat.sub_eq_zero_of_le hc.le]
  rfl

end

end Sys2Proof.Machine

/-! ### The device counted (R22, R23, R37, R63, R67) -/

namespace Sys2Proof.Machine

section
variable {s : State} {d : DevNo}

/-! #### A count with exits only -/

theorem exited_get (s : State) (d : DevNo) (x c : Nat) : (s.exited d x c).devices[d] = { s.devices[d]'d.isLt with
    live := { (s.devices[d]'d.isLt).live with settle := .stopped, entriesSeen := 0, occupancy := c } } := by
  unfold State.exited
  rw [State.modAcct_devices, State.modLive_get, if_pos rfl]

/-! #### A count whose entries no place supplies -/

/-- What an evaluation leaves whose entries outnumber the balls at large. -/
structure Overfull (d : DevNo) (s t : State) : Prop where
  numbers : (t.devices[d]'d.isLt).live.numbers = (s.closedCount d - (s.closedCount d -
    (s.devices[d]'d.isLt).live.occupancy - s.acct.live - s.acct.missing), 0, true)
  installed : t.acct.installed = s.acct.installed
  live : t.acct.live = 0
  missing : t.acct.missing = 0
  flights : t.acct.flights = []
  extra : t.isPending .extraBall = (s.isPending .extraBall || !(s.devices[d]'d.isLt).live.countFault)

theorem tallied_overfull (h : (s.devices[d]'d.isLt).cfg.entry = none) (ho : (s.devices[d]'d.isLt).live.order = .none)
    (hfl : s.acct.flights = []) (hin : 16 ≤ s.acct.installed)
    (hc : (s.devices[d]'d.isLt).live.occupancy + s.acct.live + s.acct.missing < s.closedCount d) :
    Overfull d s (s.tallied d).1 := by
  rw [tallied_entries h ho (by omega)]
  have hacct := cleared_acct s d
  have hlive := congrArg Device.live (cleared_get s d)
  have hpending : (s.cleared d).isPending .extraBall = s.isPending .extraBall := rfl
  have hfaulted := handEntries_faulted (d := d) (s.closedCount d - (s.devices[d]'d.isLt).live.occupancy) (t := ⟨0, 0, 0⟩)
    (s := s.cleared d) rfl (by rw [hacct, hfl]) (by rw [hacct]; exact hin)
  generalize handEntries d (s.closedCount d - (s.devices[d]'d.isLt).live.occupancy) false ⟨0, 0, 0⟩ (s.cleared d) = r at *
  obtain ⟨h1, h2, h3, h4, h5, h6, h7, h8⟩ := hfaulted
  have hfault := congrArg DeviceLive.countFault hlive
  have hseen := congrArg DeviceLive.entriesSeen hlive
  have hmany : decide ((s.cleared d).acct.live + (s.cleared d).acct.missing <
      s.closedCount d - (s.devices[d]'d.isLt).live.occupancy) = true := decide_eq_true (by rw [hacct]; omega)
  rw [hmany] at h6 h8
  rw [hacct] at h1 h3 h4 h5
  refine ⟨?_, h1, h3.trans (by omega), h4.trans (by omega), h2, ?_⟩
  · rw [State.modLive_get, if_pos rfl]
    have hflag : (r.1.devices[d]'d.isLt).live.countFault = true := h6.trans (Bool.or_true _)
    have hzero : (r.1.devices[d]'d.isLt).live.entriesSeen = 0 := h7.trans hseen
    have hfaults : r.2.unattributed = s.closedCount d - (s.devices[d]'d.isLt).live.occupancy - s.acct.live - s.acct.missing :=
      h5.trans (Nat.zero_add _)
    rw [DeviceLive.numbers, ← hfaults, ← hzero, ← hflag]
  · rw [Bool.true_and] at h8
    exact h8.trans (congrArg₂ (· || !·) hpending hfault)

/-- The evaluation of a device raises EXTRA_BALL only while it counts. -/
theorem evaluation_extra (s : State) (d : DevNo) : (event (evaluate d) s).isPending .extraBall =
    (s.tallied d).1.isPending .extraBall := by
  have henter (c : Prop) [Decidable c] (t : State) : (if c then enterPlay t else t).isPending .extraBall =
      t.isPending .extraBall := by split <;> rfl
  rw [event, (closeEvent_closing s _).pending .extraBall rfl, evaluate_eq, henter]
  exact (evaluated_acting s d).hushed .extraBall rfl

/-! #### The hold of a SAUCER -/

theorem handEntry_plain {t : Tally} (h2 : 2 ≤ d.val) (hk : (s.devices[d]'d.isLt).cfg.kind ≠ .lock)
    (hin : s.acct.installed < 16) : (handEntry d false t s).1.devices = s.devices ∧
      (handEntry d false t s).2.unattributed = t.unattributed ∧ (handEntry d false t s).2.ordinary = t.ordinary + 1 := by
  obtain ⟨-, hdev, -, -, -, hfull⟩ := supplyEntry_taking d false t.own s
  simp only [handEntry]
  generalize supplyEntry d false t.own s = r at *
  obtain ⟨u, own, x⟩ := r
  dsimp only at hdev hfull ⊢
  have hx : x ≠ .unattributed := fun he => by
    obtain ⟨-, hmax, -⟩ := hfull he
    exact absurd hin (Nat.not_lt.mpr hmax)
  rw [if_neg hx, entryRules_plain h2 (by rw [hdev]; exact hk)]
  exact ⟨hdev, rfl, rfl⟩

theorem tallied_entered (h : (s.devices[d]'d.isLt).cfg.entry = none) (ho : (s.devices[d]'d.isLt).live.order = .none)
    (h2 : 2 ≤ d.val) (hk : (s.devices[d]'d.isLt).cfg.kind ≠ .lock) (hin : s.acct.installed < 16)
    (hc : s.closedCount d = (s.devices[d]'d.isLt).live.occupancy + 1) :
    (s.tallied d).1.devices[d] = { s.devices[d]'d.isLt with live := { (s.devices[d]'d.isLt).live with
      settle := .stopped, entriesSeen := 0, occupancy := s.closedCount d } } ∧ (s.tallied d).2.ordinary = 1 := by
  have hone : s.closedCount d - (s.devices[d]'d.isLt).live.occupancy = 1 := by omega
  have hget := cleared_get s d
  obtain ⟨hdev, hall, hord⟩ := handEntry_plain (d := d) (t := ⟨0, 0, 0⟩) (s := s.cleared d) h2
    (by rw [hget]; exact hk) (by rw [cleared_acct]; exact hin)
  have hhand : handEntries d 1 false ⟨0, 0, 0⟩ (s.cleared d) = handEntry d false ⟨0, 0, 0⟩ (s.cleared d) := rfl
  rw [tallied_entries h ho (by omega), hone, hhand]
  generalize handEntry d false ⟨0, 0, 0⟩ (s.cleared d) = r at *
  refine ⟨?_, hord⟩
  have hsame : r.1.devices[d] = { s.devices[d]'d.isLt with
      live := { (s.devices[d]'d.isLt).live with settle := .stopped, entriesSeen := 0 } } := by
    rw [← hget]
    simp only [hdev]
  rw [State.modLive_get, if_pos rfl, hall, hsame]
  rfl

/-- The device of an evaluation, once it is counted, when it has no order. -/
theorem evaluated_unordered {u : State} (hu : (s.tallied d).1 = u) (ho : (s.devices[d]'d.isLt).live.order = .none)
    (hkept : (u.devices[d]'d.isLt).live.order = .none) (hstate : (u.devices[d]'d.isLt).live.state ≠ .confirming) :
    s.evaluated d = takeOrder d (saucerHold d (s.devices[d]'d.isLt).live.occupancy (s.tallied d).2.ordinary u) := by
  rw [State.evaluated, hu, fallsBack_unordered ho, actOnOrder_unordered hkept (.inl hstate)]

/-- The hold of a SAUCER after its count, by its occupancy. -/
theorem saucerHold_empty {before ordinary : Nat} (hk : (s.devices[d]'d.isLt).cfg.kind = .saucer)
    (h0 : (s.devices[d]'d.isLt).live.occupancy = 0) :
    saucerHold d before ordinary s = s.modLive d fun l => { l with hold := l.hold.halt } := by
  simp only [saucerHold]
  rw [if_neg (not_not.mpr hk), if_pos h0]

theorem saucerHold_running {before ordinary : Nat} (hk : (s.devices[d]'d.isLt).cfg.kind = .saucer)
    (h1 : (s.devices[d]'d.isLt).live.occupancy ≠ 0) (hr : (s.devices[d]'d.isLt).live.hold.running = true) :
    saucerHold d before ordinary s = s := by
  simp only [saucerHold]
  rw [if_neg (not_not.mpr hk), if_neg h1]
  exact if_neg fun h => h.2.2 hr

theorem saucerHold_starts {ordinary : Nat} (hk : (s.devices[d]'d.isLt).cfg.kind = .saucer)
    (h1 : (s.devices[d]'d.isLt).live.occupancy ≠ 0) (hr : (s.devices[d]'d.isLt).live.hold.running = false)
    (hord : 1 ≤ ordinary) : saucerHold d 0 ordinary s = if (s.devices[d]'d.isLt).cfg.holdTime = 0 then addOwedCount d s
      else s.modLive d fun l => { l with hold := .load (s.devices[d]'d.isLt).cfg.holdTime } := by
  simp only [saucerHold]
  rw [if_neg (not_not.mpr hk), if_neg h1]
  exact if_pos ⟨trivial, hord, by rw [hr]; exact Bool.false_ne_true⟩

theorem takeOrder_keeps (d : DevNo) (s : State) :
    ((takeOrder d s).devices[d]).live.owed = (s.devices[d]'d.isLt).live.owed ∧
      ((takeOrder d s).devices[d]).live.hold = (s.devices[d]'d.isLt).live.hold := by
  obtain ⟨howed, hhold, -⟩ := DeviceLive.kept_of_rested (takeOrder_ordered d s).rested
  exact ⟨howed, hhold⟩

/-- What an evaluation leaves of the hold and the owed ejects of an idle SAUCER. -/
structure Held (d : DevNo) (s t : State) : Prop where
  starts : (s.devices[d]'d.isLt).live.occupancy = 0 → s.closedCount d = 1 →
    (s.devices[d]'d.isLt).live.hold.running = false → (s.devices[d]'d.isLt).cfg.holdTime ≠ 0 →
    (t.devices[d]'d.isLt).live.hold = .load (s.devices[d]'d.isLt).cfg.holdTime ∧
      (t.devices[d]'d.isLt).live.owed = (s.devices[d]'d.isLt).live.owed
  owes : (s.devices[d]'d.isLt).live.occupancy = 0 → s.closedCount d = 1 →
    (s.devices[d]'d.isLt).live.hold.running = false → (s.devices[d]'d.isLt).cfg.holdTime = 0 →
    (t.devices[d]'d.isLt).live.owed = min 8 ((s.devices[d]'d.isLt).live.owed + 1) ∧
      (t.devices[d]'d.isLt).live.state = .ejecting ∧ (t.devices[d]'d.isLt).live.order = .owed ∧
      (t.devices[d]'d.isLt).live.hold = (s.devices[d]'d.isLt).live.hold
  runs : (s.devices[d]'d.isLt).live.occupancy = 0 → s.closedCount d = 1 →
    (s.devices[d]'d.isLt).live.hold.running = true →
    (t.devices[d]'d.isLt).live.hold = (s.devices[d]'d.isLt).live.hold ∧
      (t.devices[d]'d.isLt).live.owed = (s.devices[d]'d.isLt).live.owed
  stops : s.closedCount d = 0 → (t.devices[d]'d.isLt).live.hold = (s.devices[d]'d.isLt).live.hold.halt ∧
    (t.devices[d]'d.isLt).live.owed = (s.devices[d]'d.isLt).live.owed

theorem evaluated_held (h : (s.devices[d]'d.isLt).cfg.entry = none) (ho : (s.devices[d]'d.isLt).live.order = .none)
    (hi : (s.devices[d]'d.isLt).live.state = .idle) (h2 : 2 ≤ d.val) (hk : (s.devices[d]'d.isLt).cfg.kind = .saucer)
    (hin : s.acct.installed < 16) : Held d s (s.evaluated d) := by
  have hbusy (u : State) (hu : (u.devices[d]'d.isLt).live.state = .idle) : (u.devices[d]'d.isLt).live.state ≠ .confirming :=
    fun hc => DeviceState.noConfusion (hu.symm.trans hc)
  have hfilled (h0 : (s.devices[d]'d.isLt).live.occupancy = 0) (h1 : s.closedCount d = 1) :
      ∃ u, (u.devices[d]'d.isLt) = { s.devices[d]'d.isLt with live := { (s.devices[d]'d.isLt).live with
        settle := .stopped, entriesSeen := 0, occupancy := 1 } } ∧ s.evaluated d = takeOrder d (saucerHold d 0 1 u) := by
    obtain ⟨hget, hord⟩ := tallied_entered h ho h2 (by rw [hk]; exact DeviceKind.noConfusion) hin (by omega)
    have hafter := evaluated_unordered (s := s) (d := d) rfl ho (by rw [hget]; exact ho) (by rw [hget, hi]; exact DeviceState.noConfusion)
    rw [h1] at hget
    rw [hord, h0] at hafter
    exact ⟨_, hget, hafter⟩
  refine ⟨fun h0 h1 hr ht => ?_, fun h0 h1 hr ht => ?_, fun h0 h1 hr => ?_, fun h0 => ?_⟩
  · obtain ⟨u, hget, hafter⟩ := hfilled h0 h1
    rw [hafter, saucerHold_starts (by rw [hget]; exact hk) (by rw [hget]; exact Nat.one_ne_zero) (by rw [hget]; exact hr)
      le_rfl, if_neg (by rw [hget]; exact ht)]
    have hload : (u.modLive d fun l => { l with hold := .load (u.devices[d]'d.isLt).cfg.holdTime }).devices[d]'d.isLt =
        { u.devices[d]'d.isLt with live :=
          { (u.devices[d]'d.isLt).live with hold := .load (u.devices[d]'d.isLt).cfg.holdTime } } := by
      rw [State.modLive_get, if_pos rfl]
    generalize (u.modLive d fun l => { l with hold := .load (u.devices[d]'d.isLt).cfg.holdTime }) = w at hload ⊢
    rw [hget] at hload
    obtain ⟨howed, hhold⟩ := takeOrder_keeps d w
    rw [hload] at howed hhold
    exact ⟨hhold, howed⟩
  · obtain ⟨u, hget, hafter⟩ := hfilled h0 h1
    rw [hafter, saucerHold_starts (by rw [hget]; exact hk) (by rw [hget]; exact Nat.one_ne_zero) (by rw [hget]; exact hr)
      le_rfl, if_pos (by rw [hget]; exact ht), addOwedCount_eq (by rw [hget, hi]; exact DeviceState.noConfusion)]
    have howing : (u.modLive d fun l => { l with owed := min 8 (l.owed + 1) }).devices[d]'d.isLt =
        { u.devices[d]'d.isLt with live :=
          { (u.devices[d]'d.isLt).live with owed := min 8 ((u.devices[d]'d.isLt).live.owed + 1) } } := by
      rw [State.modLive_get, if_pos rfl]
    generalize (u.modLive d fun l => { l with owed := min 8 (l.owed + 1) }) = w at howing ⊢
    rw [hget] at howing
    obtain ⟨howed, hhold⟩ := takeOrder_keeps d w
    have hserves : w.serves d := fun _ => by
      rw [howing]
      exact ⟨by dsimp only; omega, le_rfl⟩
    obtain ⟨hstate, horder⟩ := (takeOrder_serves hserves).2 (by rw [howing]; exact hi)
    rw [howing] at howed hhold
    exact ⟨howed, hstate, horder, hhold⟩
  · obtain ⟨u, hget, hafter⟩ := hfilled h0 h1
    rw [hafter, saucerHold_running (by rw [hget]; exact hk) (by rw [hget]; exact Nat.one_ne_zero) (by rw [hget]; exact hr)]
    obtain ⟨howed, hhold⟩ := takeOrder_keeps d u
    rw [hget] at howed hhold
    exact ⟨hhold, howed⟩
  · have hget := exited_get s d ((s.devices[d]'d.isLt).live.occupancy - s.closedCount d) (s.closedCount d)
    have htallied : (s.tallied d).1 = s.exited d ((s.devices[d]'d.isLt).live.occupancy - s.closedCount d) (s.closedCount d) := by
      rw [tallied_exits h (by omega)]
    have hafter := evaluated_unordered htallied ho (by rw [hget]; exact ho) (by rw [hget, hi]; exact DeviceState.noConfusion)
    generalize s.exited d _ (s.closedCount d) = u at hget hafter
    rw [hafter, saucerHold_empty (by rw [hget]; exact hk) (by rw [hget]; exact h0)]
    obtain ⟨howed, hhold⟩ := takeOrder_keeps d (u.modLive d fun l => { l with hold := l.hold.halt })
    rw [State.modLive_get, if_pos rfl, hget] at howed hhold
    exact ⟨hhold, howed⟩

end

theorem DeviceLive.of_numbers {l : DeviceLive} {a b : Nat} {c : Bool} (h : l.numbers = (a, b, c)) :
    l.occupancy = a ∧ l.entriesSeen = b ∧ l.countFault = c := by
  rw [DeviceLive.numbers, Prod.mk.injEq, Prod.mk.injEq] at h
  exact h

/-- Settles O13. -/
theorem evaluationCountsTheDevice : Obligations.EvaluationCountsTheDevice := by
  unfold Obligations.EvaluationCountsTheDevice
  refine ⟨fun s d hr hd hroom => ?_, fun s d hr hd h ho hfl hin hc => ?_, fun s d hr hd hk h2 h hi ho hin => ?_⟩
  · refine ⟨_, evaluation_taken hr hd, ?_⟩
    have hnumbers := evaluation_numbers s d
    obtain ⟨hlive, hmissing, hinstalled, hflights⟩ := evaluation_acct s d
    obtain ⟨hocc, hseen⟩ := tallied_numbers hroom
    have hcounted := evaluate_counted d s
    have hclosing := closeEvent_closing s (evaluate d s)
    have hothers (e : DevNo) : (event (evaluate d) s).devices[e] = (evaluate d s).devices[e] := by
      simp only [event, hclosing.devices]
    have hballs := fun hs => hclosing.conserved.mpr (hcounted.balls hs)
    refine ⟨?_, ?_, fun e he => ?_, hballs, fun hn hle => ?_⟩
    · exact (DeviceLive.of_numbers hnumbers).1.trans hocc
    · exact (DeviceLive.of_numbers hnumbers).2.1.trans hseen
    · rw [hothers]
      exact hcounted.others e he
    · rw [tallied_exits hn hle] at hlive hmissing hinstalled hflights
      exact ⟨hlive, hmissing, hinstalled, hflights⟩
  · intro faults
    refine ⟨_, evaluation_taken hr hd, ?_⟩
    have hnumbers := evaluation_numbers s d
    obtain ⟨hlive, hmissing, hinstalled, hflights⟩ := evaluation_acct s d
    have hextra := evaluation_extra s d
    obtain ⟨gnumbers, ginstalled, glive, gmissing, gflights, gextra⟩ := tallied_overfull h ho hfl hin hc
    obtain ⟨hocc, hseen, hfault⟩ := DeviceLive.of_numbers (hnumbers.trans gnumbers)
    exact ⟨hfault, hocc, hseen, hinstalled.trans ginstalled,
      hlive.trans glive, hmissing.trans gmissing, hflights.trans gflights, hextra.trans gextra⟩
  · refine ⟨_, evaluation_taken hr hd, ?_⟩
    have hdev : (event (evaluate d) s).devices[d] = (s.evaluated d).devices[d] := by simp only [evaluation_devices]
    have hheld := evaluated_held h ho hi h2 hk hin
    rw [hdev]
    generalize s.evaluated d = u at hheld ⊢
    obtain ⟨hstarts, howes, hruns, hstops⟩ := hheld
    exact ⟨hstarts, howes, hruns, hstops⟩

end Sys2Proof.Machine

/-! ### The phase after an evaluation (R72, R74 to R76) -/

namespace Sys2Proof.Machine

/-! #### The close of an event with balls in play -/

theorem closeEvent_still {before s : State} (hl : s.loose = before.loose) :
    closeEvent before s = holdTimers (formPlay s) := by
  have hends : ¬ (before.loose ≠ 0 ∧ before.loose = 0) := fun h => h.1 h.2
  have hloads : ¬ (before.loose = 0 ∧ before.loose ≠ 0) := fun h => h.2 h.1
  simp only [closeEvent, hl, if_neg hends, if_neg hloads]

theorem formPlay_phase {s : State} (h : s.ballsInPlay ≠ 0) : (formPlay s).acct.phase = s.acct.phase := by
  by_cases hp : s.acct.phase = .play
  · obtain ⟨⟨m, hm⟩, -⟩ := multiballFormed_formed (s.modAcct fun a => { a with inPlay := s.ballsInPlay }) s.ballsInPlay
    rw [formPlay_play hp, if_neg h, hm]
    rfl
  · rw [formPlay_unplayed hp, State.phaseAfter_still fun g => h g.2]
    rfl

theorem closeEvent_phase {before s : State} (h : s.ballsInPlay ≠ 0) : (closeEvent before s).acct.phase = s.acct.phase := by
  have hphase := (adjustSearch_adjusted before s).phase
  rw [← (adjustSearch_closing before s).ballsInPlay] at h
  rw [closeEvent_adjusted]
  exact (formPlay_phase h).trans hphase

theorem event_inPlay (f : State → State) (s : State) : (event f s).acct.inPlay = (event f s).ballsInPlay := by
  unfold event
  exact closeEvent_inPlay s (f s)

/-- The idle timer that an event leaves which changes no count of live and missing balls, in play. -/
theorem closeEvent_idle {before s : State} (hl : s.loose = before.loose) (hp : s.acct.phase = .play)
    (h : s.ballsInPlay ≠ 0) (hd : s.acct.idleTimer.due = false) :
    (closeEvent before s).acct.idleTimer = s.acct.idleTimer := by
  obtain ⟨⟨m, hm⟩, -⟩ := multiballFormed_formed (s.modAcct fun a => { a with inPlay := s.ballsInPlay }) s.ballsInPlay
  rw [closeEvent_still hl]
  have hform : (formPlay s).acct.idleTimer = s.acct.idleTimer := by
    rw [formPlay_play hp, if_neg h, hm]
    rfl
  exact (Timer.keepIf_of_idle _ (by rw [hform]; exact hd)).trans hform

/-! #### Exits (R74) -/

section
variable {s : State} {d : DevNo}

theorem exitStartsPlay_iff {n : Nat} (hn : 1 ≤ n) : s.exitStartsPlay d n = true ↔
    (s.acct.phase = .launchWait ∧ d = shooter) ∨
      (s.acct.phase = .serving ∧ d = trough ∧ (s.devices[d]'d.isLt).cfg.target ≠ .device shooter) := by
  simp only [State.exitStartsPlay, decide_eq_true hn, Bool.true_and, Bool.or_eq_true, Bool.and_eq_true, beq_iff_eq,
    bne_iff_ne]
  tauto

/-- What an evaluation with exits leaves before its close. -/
structure Departed (d : DevNo) (s t : State) : Prop where
  loose : t.loose = s.loose
  balls : t.ballsInPlay ≠ 0
  starts : (s.acct.phase = .launchWait ∧ d = shooter) ∨
      (s.acct.phase = .serving ∧ d = trough ∧ (s.devices[d]'d.isLt).cfg.target ≠ .device shooter) →
    t.acct.phase = .play ∧ t.acct.idleTimer = .load s.options.idleDelay
  stays : ¬ ((s.acct.phase = .launchWait ∧ d = shooter) ∨
      (s.acct.phase = .serving ∧ d = trough ∧ (s.devices[d]'d.isLt).cfg.target ≠ .device shooter)) →
    t.acct.phase = s.acct.phase
  multiball : t.acct.multiball = s.acct.multiball
  started : t.isPending .multiballStarted = s.isPending .multiballStarted

theorem State.ballsInPlay_of_flights {s : State} (h : s.acct.flights ≠ []) : s.ballsInPlay ≠ 0 := by
  have hpos := List.length_pos_iff.mpr h
  unfold State.ballsInPlay
  omega

theorem evaluate_departed (h : (s.devices[d]'d.isLt).cfg.entry = none)
    (hc : s.closedCount d < (s.devices[d]'d.isLt).live.occupancy) : Departed d s (evaluate d s) := by
  have hact := evaluated_acting s d
  rw [tallied_exits h hc.le] at hact
  have hacct := hact.acct
  have hoptions := hact.options
  have hpending := hact.hushed .multiballStarted rfl
  have hflights : (s.evaluated d).acct.flights ≠ [] := by
    rw [hacct]
    refine List.append_ne_nil_of_right_ne_nil _ fun hnil => ?_
    have hlen := congrArg List.length hnil
    rw [List.length_replicate, List.length_nil] at hlen
    omega
  have hexits : (s.tallies d).1 = (s.devices[d]'d.isLt).live.occupancy - s.closedCount d := by rw [tallies_unentered h]
  have hstarts := exitStartsPlay_iff (s := s) (d := d) (n := (s.tallies d).1) (by rw [hexits]; omega)
  have hpos := State.ballsInPlay_of_flights hflights
  have hkept : (s.evaluated d).acct.phase = s.acct.phase ∧ (s.evaluated d).acct.multiball = s.acct.multiball ∧
      (s.evaluated d).loose = s.loose := by
    unfold State.loose
    rw [hacct]
    exact ⟨rfl, rfl, rfl⟩
  rw [evaluate_eq]
  generalize s.evaluated d = t at *
  obtain ⟨hphase, hmulti, hloose⟩ := hkept
  by_cases hs : s.exitStartsPlay d (s.tallies d).1 = true
  · rw [if_pos hs]
    have hopt : t.options = s.options := hoptions
    have hload : (enterPlay t).acct.idleTimer = .load s.options.idleDelay :=
      congrArg (fun o : Options => Timer.load o.idleDelay) hopt
    exact ⟨hloose, hpos, fun _ => ⟨rfl, hload⟩, fun hn => absurd (hstarts.mp hs) hn, hmulti, hpending⟩
  · rw [if_neg hs]
    exact ⟨hloose, hpos, fun hy => absurd (hstarts.mpr hy) hs, fun _ => hphase, hmulti, hpending⟩

/-! #### A ball into the shooter lane (R74, R75) -/

/-- What a ball into the shooter lane owes, by the phase it finds. -/
def State.laneOwed (s : State) : Nat :=
  match s.acct.phase with
  | .serving => if s.acct.serveLaunch then min 8 ((s.devices[shooter]'shooter.isLt).live.owed + 1)
    else (s.devices[shooter]'shooter.isLt).live.owed
  | .play => min 8 ((s.devices[shooter]'shooter.isLt).live.owed + 1)
  | _ => (s.devices[shooter]'shooter.isLt).live.owed

/-- The phase that a ball into the shooter lane leaves. -/
def State.lanePhase (s : State) : PlayPhase := if s.acct.phase = .serving then .launchWait else s.acct.phase

theorem shooterEntry_owes (hl : (s.acct.phase = .serving ∧ s.acct.serveLaunch = true) ∨ s.acct.phase = .play) :
    shooterEntry false s = addOwedCount shooter (s.modAcct fun a => { a with phase := s.lanePhase }) := by
  unfold State.lanePhase
  obtain ⟨hp, hl⟩ | hp := hl
  · simp only [shooterEntry, hp, setPhase, State.modAcct_acct, hl, Bool.not_false, Bool.and_self, if_true]
  · have hsame : (s.modAcct fun a => { a with phase := .play }) = s := by
      rw [← hp]
      rfl
    simp only [shooterEntry, hp, Bool.false_eq_true, reduceCtorEq, if_false, hsame]

theorem shooterEntry_rests (hs : ¬ (s.acct.phase = .serving ∧ s.acct.serveLaunch = true)) (hp : s.acct.phase ≠ .play) :
    shooterEntry false s = s.modAcct fun a => { a with phase := s.lanePhase } := by
  unfold State.lanePhase shooterEntry
  split
  · next hk =>
    have hl : s.acct.serveLaunch = false := Bool.eq_false_iff.mpr fun hl => hs ⟨hk, hl⟩
    simp only [setPhase, State.modAcct_acct, hl, Bool.false_and, Bool.false_eq_true, hk, if_true, if_false]
  · next hk => exact absurd hk hp
  · next hk _ =>
    rw [if_neg hk]
    rfl

theorem laneOwed_owes (hl : (s.acct.phase = .serving ∧ s.acct.serveLaunch = true) ∨ s.acct.phase = .play) :
    s.laneOwed = min 8 ((s.devices[shooter]'shooter.isLt).live.owed + 1) := by
  unfold State.laneOwed
  obtain ⟨hp, hl⟩ | hp := hl
  · simp only [hp, hl, if_true]
  · simp only [hp]

theorem laneOwed_rests (hs : ¬ (s.acct.phase = .serving ∧ s.acct.serveLaunch = true)) (hp : s.acct.phase ≠ .play) :
    s.laneOwed = (s.devices[shooter]'shooter.isLt).live.owed := by
  unfold State.laneOwed
  split
  · next hk => exact if_neg fun hl => hs ⟨hk, hl⟩
  · next hk => exact absurd hk hp
  · rfl

theorem shooterEntry_lane (h : (s.devices[shooter]'shooter.isLt).live.state ≠ .disabled) :
    (shooterEntry false s).devices[shooter] = { s.devices[shooter]'shooter.isLt with
      live := { (s.devices[shooter]'shooter.isLt).live with owed := s.laneOwed } } ∧
    (shooterEntry false s).acct.phase = s.lanePhase := by
  by_cases hl : (s.acct.phase = .serving ∧ s.acct.serveLaunch = true) ∨ s.acct.phase = .play
  · have howes := addOwedCount_eq (d := shooter) (s := s.modAcct fun a => { a with phase := s.lanePhase }) h
    rw [shooterEntry_owes hl, laneOwed_owes hl, howes, State.modLive_get, if_pos rfl]
    exact ⟨rfl, rfl⟩
  · obtain ⟨hs, hp⟩ := not_or.mp hl
    rw [shooterEntry_rests hs hp, laneOwed_rests hs hp]
    exact ⟨rfl, rfl⟩

theorem supplyEntry_phase (d : DevNo) (fallback : Bool) (own : Nat) (s : State) :
    (supplyEntry d fallback own s).1.acct.phase = s.acct.phase := by
  simp only [supplyEntry]
  split
  · rfl
  · split
    · rfl
    · split
      · rfl
      · split
        · rfl
        · split
          · rfl
          · split
            · rfl
            · split <;> rfl

theorem entryRules_shooter (x : Supply) (s : State) : entryRules shooter false x s = shooterEntry false s := by
  have hdecide (u : State) : captureDecision shooter u = u := by
    rw [captureDecision, State.lockOf_eq_none (.inl (by decide))]
  have hno : ¬ (shooter = trough ∧ (x = .live ∨ x = .playfield)) := fun h => absurd h.1 (by decide)
  simp only [entryRules, if_neg hno, if_true, Bool.false_eq_true, if_false, hdecide]

theorem State.laneOwed_congr {u : State} (hp : u.acct.phase = s.acct.phase) (hl : u.acct.serveLaunch = s.acct.serveLaunch)
    (ho : (u.devices[shooter]'shooter.isLt).live.owed = (s.devices[shooter]'shooter.isLt).live.owed) :
    u.laneOwed = s.laneOwed := by
  unfold State.laneOwed
  rw [hp, hl, ho]

/-- What an entry at the shooter lane leaves that some place supplies. -/
structure Laned (t : Tally) (s : State) (r : State × Tally) : Prop where
  device : (r.1.devices[shooter]'shooter.isLt) = { s.devices[shooter]'shooter.isLt with
    live := { (s.devices[shooter]'shooter.isLt).live with owed := s.laneOwed } }
  phase : r.1.acct.phase = s.lanePhase
  all : r.2.unattributed = t.unattributed

theorem handEntry_lane {t : Tally} (h : (s.devices[shooter]'shooter.isLt).live.state ≠ .disabled)
    (hin : s.acct.installed < 16) : Laned t s (handEntry shooter false t s) := by
  obtain ⟨⟨hbooks, -, -, -⟩, hdev, -, -, -, hfull⟩ := supplyEntry_taking shooter false t.own s
  have hphase := supplyEntry_phase shooter false t.own s
  simp only [handEntry]
  generalize supplyEntry shooter false t.own s = r at hbooks hdev hfull hphase ⊢
  obtain ⟨u, own, x⟩ := r
  dsimp only at hbooks hdev hfull hphase ⊢
  have hx : x ≠ .unattributed := fun he => by
    obtain ⟨-, hmax, -⟩ := hfull he
    exact absurd hin (Nat.not_lt.mpr hmax)
  have hlaunch : u.acct.serveLaunch = s.acct.serveLaunch := by
    have hb := congrArg Accounting.serveLaunch hbooks
    exact hb
  obtain ⟨hlane, hafter⟩ := shooterEntry_lane (s := u) (by rw [hdev]; exact h)
  have howed : u.laneOwed = s.laneOwed := State.laneOwed_congr hphase hlaunch (by rw [hdev])
  have hget : u.devices[shooter] = s.devices[shooter] := by simp only [hdev]
  rw [if_neg hx, entryRules_shooter]
  refine ⟨?_, ?_, rfl⟩
  · rw [hlane, howed, hget]
  · rw [hafter]
    unfold State.lanePhase
    rw [hphase]

theorem lanePhase_serving (h : s.acct.phase = .serving) : s.lanePhase = .launchWait := if_pos h

theorem lanePhase_other (h : s.acct.phase ≠ .serving) : s.lanePhase = s.acct.phase := if_neg h

theorem laneOwed_serving (h : s.acct.phase = .serving) : s.laneOwed =
    if s.acct.serveLaunch then min 8 ((s.devices[shooter]'shooter.isLt).live.owed + 1)
    else (s.devices[shooter]'shooter.isLt).live.owed := by
  simp only [State.laneOwed, h]

theorem tallied_lane (h : (s.devices[shooter]'shooter.isLt).cfg.entry = none)
    (ho : (s.devices[shooter]'shooter.isLt).live.order = .none)
    (hd : (s.devices[shooter]'shooter.isLt).live.state ≠ .disabled) (hin : s.acct.installed < 16)
    (hc : s.closedCount shooter = (s.devices[shooter]'shooter.isLt).live.occupancy + 1) :
    ((s.tallied shooter).1.devices[shooter]'shooter.isLt) = { s.devices[shooter]'shooter.isLt with
      live := { (s.devices[shooter]'shooter.isLt).live with
        settle := .stopped, entriesSeen := 0, owed := s.laneOwed, occupancy := s.closedCount shooter } } ∧
    (s.tallied shooter).1.acct.phase = s.lanePhase := by
  have hone : s.closedCount shooter - (s.devices[shooter]'shooter.isLt).live.occupancy = 1 := by omega
  have hget := cleared_get s shooter
  have hacct := cleared_acct s shooter
  have hlane := handEntry_lane (t := ⟨0, 0, 0⟩) (s := s.cleared shooter) (by rw [hget]; exact hd)
    (by rw [hacct]; exact hin)
  have hhand : handEntries shooter 1 false ⟨0, 0, 0⟩ (s.cleared shooter) =
      handEntry shooter false ⟨0, 0, 0⟩ (s.cleared shooter) := rfl
  have howed : (s.cleared shooter).laneOwed = s.laneOwed :=
    State.laneOwed_congr (by rw [hacct]) (by rw [hacct]) (by rw [hget])
  have hphase : (s.cleared shooter).lanePhase = s.lanePhase := by
    unfold State.lanePhase
    rw [hacct]
  rw [tallied_entries h ho (by omega), hone, hhand]
  generalize handEntry shooter false ⟨0, 0, 0⟩ (s.cleared shooter) = r at hlane ⊢
  obtain ⟨hdev, hafter, hall⟩ := hlane
  rw [howed, hget] at hdev
  refine ⟨?_, hafter.trans hphase⟩
  rw [State.modLive_get, if_pos rfl, hall, hdev]
  rfl

/-- What the evaluation of the shooter lane leaves after one ball came in. -/
theorem evaluate_lane (h : (s.devices[shooter]'shooter.isLt).cfg.entry = none)
    (ho : (s.devices[shooter]'shooter.isLt).live.order = .none)
    (hd : (s.devices[shooter]'shooter.isLt).live.state ≠ .disabled) (hin : s.acct.installed < 16)
    (hc : s.closedCount shooter = (s.devices[shooter]'shooter.isLt).live.occupancy + 1)
    (hk : (s.devices[shooter]'shooter.isLt).cfg.kind = .shooter) :
    ((evaluate shooter s).devices[shooter]).live.owed = s.laneOwed ∧
      (evaluate shooter s).acct.phase = s.lanePhase ∧ (evaluate shooter s).ballsInPlay ≠ 0 := by
  have hno : s.exitStartsPlay shooter (s.tallies shooter).1 = false := by
    rw [State.exitStartsPlay, tallies_unentered h, decide_eq_false (by dsimp only; omega), Bool.false_and]
  obtain ⟨hdev, hphase⟩ := tallied_lane h ho hd hin hc
  have hacting := evaluated_acting s shooter
  have hacct := hacting.acct
  have hnumbers := (DeviceLive.of_numbers hacting.numbers).1
  have hexits : (s.tallies shooter).1 = 0 := by
    rw [tallies_unentered h]
    dsimp only
    omega
  have hactless : actOnOrder shooter (s.tallies shooter).1 (s.fallsBack shooter) (s.tallied shooter).1 =
      (s.tallied shooter).1 := by
    rw [fallsBack_unordered ho]
    exact actOnOrder_unordered (by rw [hdev]; exact ho) (.inr hexits)
  have hholds : saucerHold shooter (s.devices[shooter]'shooter.isLt).live.occupancy (s.tallied shooter).2.ordinary
      (s.tallied shooter).1 = (s.tallied shooter).1 :=
    if_pos (by rw [hdev, hk]; exact DeviceKind.noConfusion)
  have hafter : s.evaluated shooter = takeOrder shooter (s.tallied shooter).1 := by
    rw [State.evaluated, hactless, hholds]
  have howed := (takeOrder_keeps shooter (s.tallied shooter).1).1
  rw [evaluate_eq, hno, if_neg Bool.false_ne_true]
  refine ⟨?_, by rw [hacct]; exact hphase, State.ballsInPlay_ne_zero (.inl ?_)⟩
  · simp only [hafter]
    rw [howed, hdev]
  · rw [hnumbers, hdev]
    dsimp only
    omega

end

/-- Settles O23. -/
theorem ballsInPlayDecideThePhase : Obligations.BallsInPlayDecideThePhase := by
  unfold Obligations.BallsInPlayDecideThePhase
  refine ⟨formPlay_decides, fun s hr hd h ho hs hin hc hk => ?_, fun s d hr hd h hc => ?_⟩
  · intro owed
    obtain ⟨howed, hphase, hballs⟩ := evaluate_lane h ho hs hin hc hk
    have hafter : (event (evaluate shooter) s).acct.phase = s.lanePhase := (closeEvent_phase hballs).trans hphase
    have hlane : ((event (evaluate shooter) s).devices[shooter]).live.owed = s.laneOwed := by
      simp only [event, (closeEvent_closing s _).devices]
      exact howed
    have hin := event_inPlay (evaluate shooter) s
    have htaken := evaluation_taken hr hd
    generalize event (evaluate shooter) s = t at hafter hlane hin htaken
    refine ⟨t, htaken, hin, fun hp => ⟨?_, ?_⟩, fun hp => ⟨?_, ?_⟩, fun hp hq => ⟨?_, ?_⟩⟩
    · exact hafter.trans (lanePhase_serving hp)
    · exact hlane.trans (laneOwed_serving hp)
    · exact hafter.trans ((lanePhase_other (by rw [hp]; exact PlayPhase.noConfusion)).trans hp)
    · exact hlane.trans (laneOwed_owes (.inr hp))
    · exact hafter.trans (lanePhase_other hp)
    · exact hlane.trans (laneOwed_rests (fun g => hp g.1) hq)
  · intro starts
    obtain ⟨hloose, hballs, hstarts, hstays, hmulti, hstarted⟩ := evaluate_departed h hc
    refine ⟨_, evaluation_taken hr hd, ?_, fun hy => ?_, fun hn => (closeEvent_phase hballs).trans (hstays hn)⟩
    · exact event_inPlay (evaluate d) s
    · obtain ⟨hplay, hidle⟩ := hstarts hy
      have hballs' : (event (evaluate d) s).ballsInPlay = (evaluate d s).ballsInPlay := (closeEvent_closing s _).ballsInPlay
      refine ⟨(closeEvent_phase hballs).trans hplay, ?_, fun h2 => ?_⟩
      · exact (closeEvent_idle hloose hplay hballs (by rw [hidle]; rfl)).trans hidle
      · rw [hballs'] at h2
        obtain ⟨-, hflag, hnotice⟩ := (formPlay_decides (evaluate d s)).2.1 hplay h2
        have hstill : event (evaluate d) s = holdTimers (formPlay (evaluate d s)) := closeEvent_still hloose
        rw [hstill]
        rw [hmulti, hstarted] at hnotice
        exact ⟨hflag, hnotice⟩

end Sys2Proof.Machine

/-! ### Exits and the order they are confirmed against (R29 to R31, R33) -/

namespace Sys2Proof.Machine

/-! #### Confirming exits -/

/-- A slot's count of its balls after `x` exits. -/
def Slot.sent (t : Slot) (x : Nat) : Slot := { t with ejected := min t.requested (t.ejected + x) }

/-- A device's live part once `x` exits are confirmed against its order. -/
def DeviceLive.confirmed (l : DeviceLive) (x : Nat) : DeviceLive :=
  { l with exitsInOrder := min 8 (l.exitsInOrder + x), attemptExits := min 8 (l.attemptExits + x),
           attemptConfirmed := true }

/-- A device's live part once a count of `c` balls shows `x` exits. -/
def DeviceLive.left (l : DeviceLive) (x c : Nat) : DeviceLive :=
  { l with settle := .stopped, entriesSeen := 0, occupancy := c }.confirmed x

/-- Whether `x` exits exceed the balls the attempt intends. -/
def DeviceLive.exceeds (l : DeviceLive) (x : Nat) : Bool := decide (l.intended < min 8 (l.attemptExits + x))

section
variable {s : State} {d : DevNo} {n : SlotNo} {x : Nat}

theorem confirmExits_slot (ho : (s.devices[d]'d.isLt).live.order = .slot n) : confirmExits d x s =
    ((s.modSlot n fun t => t.sent x).modLive d fun l => l.confirmed x).raiseIf
      ((s.devices[d]'d.isLt).live.exceeds x) .doubleEject := by
  have hget : ((s.modSlot n fun t => t.sent x).modLive d fun l => l.confirmed x).devices[d]'d.isLt =
      { s.devices[d]'d.isLt with live := (s.devices[d]'d.isLt).live.confirmed x } := by
    rw [State.modLive_get, if_pos rfl]
    rfl
  have hexceeds := congrArg (fun v : Device => decide (v.live.intended < v.live.attemptExits)) hget
  simp only [confirmExits, ho]
  exact congrArg (fun b => State.raiseIf ((s.modSlot n fun t => t.sent x).modLive d fun l => l.confirmed x) b .doubleEject) hexceeds

theorem confirmExits_owed (ho : (s.devices[d]'d.isLt).live.order = .owed) : confirmExits d x s =
    (s.modLive d fun l => { l with owed := l.owed - x }.confirmed x).raiseIf
      ((s.devices[d]'d.isLt).live.exceeds x) .doubleEject := by
  have hget : (s.modLive d fun l => { l with owed := l.owed - x }.confirmed x).devices[d]'d.isLt =
      { s.devices[d]'d.isLt with
        live := { (s.devices[d]'d.isLt).live with owed := (s.devices[d]'d.isLt).live.owed - x }.confirmed x } := by
    rw [State.modLive_get, if_pos rfl]
  have hexceeds := congrArg (fun v : Device => decide (v.live.intended < v.live.attemptExits)) hget
  have hmod := congrArg (fun u : State => u.raiseIf
      (decide ((u.devices[d]'d.isLt).live.intended < (u.devices[d]'d.isLt).live.attemptExits)) .doubleEject)
    (State.modLive_modLive s d (fun l => { l with owed := l.owed - x }) fun l => l.confirmed x)
  simp only [confirmExits, ho]
  refine hmod.trans ?_
  exact congrArg (fun b => State.raiseIf (s.modLive d fun l => { l with owed := l.owed - x }.confirmed x) b .doubleEject) hexceeds

/-- The exits that an evaluation with no entry counts. -/
def State.exits (s : State) (d : DevNo) : Nat := (s.devices[d]'d.isLt).live.occupancy - s.closedCount d

/-- The device counted, with its exits confirmed. -/
def State.sent (s : State) (d : DevNo) : State :=
  confirmExits d (s.exits d) (s.exited d (s.exits d) (s.closedCount d))

/-- What exits leave that are confirmed against a slot order. -/
structure Sent (d : DevNo) (n : SlotNo) (s t : State) : Prop where
  device : (t.devices[d]'d.isLt) = { s.devices[d]'d.isLt with
    live := (s.devices[d]'d.isLt).live.left (s.exits d) (s.closedCount d) }
  slots : t.slots = s.slots.set n ((s.slots[n]'n.isLt).sent (s.exits d))
  coils : t.coils = s.coils
  pending : ∀ k : Notice, k ≠ .doubleEject → t.isPending k = s.isPending k
  double : t.isPending .doubleEject = (s.isPending .doubleEject || (s.devices[d]'d.isLt).live.exceeds (s.exits d))

theorem sent_slot (ho : (s.devices[d]'d.isLt).live.order = .slot n) : Sent d n s (s.sent d) := by
  have hget := exited_get s d (s.exits d) (s.closedCount d)
  have hslots : (s.exited d (s.exits d) (s.closedCount d)).slots = s.slots := rfl
  have hcoils : (s.exited d (s.exits d) (s.closedCount d)).coils = s.coils := rfl
  have hpending (k : Notice) : (s.exited d (s.exits d) (s.closedCount d)).isPending k = s.isPending k := rfl
  unfold State.sent
  generalize s.exited d (s.exits d) (s.closedCount d) = u at *
  rw [confirmExits_slot (by rw [hget]; exact ho), hget]
  refine ⟨?_, ?_, ?_, fun k hk => ?_, ?_⟩
  · simp only [State.raiseIf_devices]
    rw [State.modLive_get, if_pos rfl, State.modSlot_devices, hget]
    rfl
  · rw [State.raiseIf_slots, State.modLive_slots, ← hslots]
    rfl
  · rw [State.raiseIf_coils, ← hcoils]
    rfl
  · rw [isPending_raiseIf, decide_eq_false hk, Bool.and_false, Bool.or_false]
    exact hpending k
  · rw [isPending_raiseIf, decide_eq_true rfl, Bool.and_true]
    exact congrArg (· || (s.devices[d]'d.isLt).live.exceeds (s.exits d)) (hpending .doubleEject)

theorem Sent.needs {t : State} (h : Sent d n s t) (ho : (s.devices[d]'d.isLt).live.order = .slot n) :
    t.needs d = (s.slots[n]'n.isLt).requested - ((s.slots[n]'n.isLt).ejected + s.exits d) := by
  have horder : (t.devices[d]'d.isLt).live.order = .slot n := by
    rw [h.device]
    exact ho
  have hslot : t.slots[n]'n.isLt = (s.slots[n]'n.isLt).sent (s.exits d) := by
    simp only [h.slots]
    exact Vector.getElem_set_self n.isLt
  simp only [State.needs, horder, hslot, Slot.sent]
  omega

/-! #### Acting on exits -/

/-- What an evaluation leaves before it looks at the hold and for an order. -/
def State.acted (s : State) (d : DevNo) : State :=
  actOnOrder d (s.tallies d).1 (s.fallsBack d) (s.tallied d).1

theorem exits_pos (hc : s.closedCount d < (s.devices[d]'d.isLt).live.occupancy) : 1 ≤ s.exits d := by
  unfold State.exits
  omega

/-- An evaluation with exits and no entry acts on what the count left. -/
theorem acted_exits (h : (s.devices[d]'d.isLt).cfg.entry = none)
    (hc : s.closedCount d < (s.devices[d]'d.isLt).live.occupancy) :
    s.acted d = actOnOrder d (s.exits d) false (s.exited d (s.exits d) (s.closedCount d)) := by
  have hcounts := tallies_unentered h
  have hentries : (s.tallies d).2 = 0 := by
    rw [hcounts]
    exact Nat.sub_eq_zero_of_le hc.le
  rw [State.acted, fallsBack_exits hentries, tallied_exits h hc.le, hcounts]
  rfl

variable (h : (s.devices[d]'d.isLt).cfg.entry = none)
  (hc : s.closedCount d < (s.devices[d]'d.isLt).live.occupancy) (ho : (s.devices[d]'d.isLt).live.order ≠ .none)
include h hc ho

theorem acted_eq : s.acted d =
    if (s.devices[d]'d.isLt).live.state = .confirming ∧ (s.devices[d]'d.isLt).live.stopPending = true
    then endOrder d resultAtCancel (s.sent d)
    else if (s.devices[d]'d.isLt).live.state = .confirming then nextBall d (s.sent d)
    else if (s.devices[d]'d.isLt).live.state = .ejecting then actEjecting d (s.sent d)
    else s.sent d := by
  have hpos := exits_pos hc
  have hget := congrArg Device.live (exited_get s d (s.exits d) (s.closedCount d))
  have horder : ((s.exited d (s.exits d) (s.closedCount d)).devices[d]).live.order = (s.devices[d]'d.isLt).live.order :=
    (congrArg DeviceLive.order hget).trans rfl
  have hstate : ((s.exited d (s.exits d) (s.closedCount d)).devices[d]).live.state = (s.devices[d]'d.isLt).live.state :=
    (congrArg DeviceLive.state hget).trans rfl
  have hstop : ((s.exited d (s.exits d) (s.closedCount d)).devices[d]).live.stopPending =
      (s.devices[d]'d.isLt).live.stopPending := (congrArg DeviceLive.stopPending hget).trans rfl
  rw [acted_exits h hc]
  simp only [actOnOrder, horder, hstate, hstop]
  rw [if_pos (And.intro ho hpos)]
  have hsent : confirmExits d (s.exits d) (s.exited d (s.exits d) (s.closedCount d)) = s.sent d := rfl
  rw [hsent]
  generalize s.sent d = u
  generalize (s.devices[d]'d.isLt).live.order = o at ho ⊢
  generalize (s.devices[d]'d.isLt).live.stopPending = stop
  cases (s.devices[d]'d.isLt).live.state with
  | confirming => cases stop <;> simp [hpos]
  | ejecting => simp [hpos, ho]
  | idle => simp
  | jammed => simp
  | disabled => simp

end

/-! #### What follows -/

/-- What an evaluation leaves of the work at an order: all but the hold. -/
structure Left (d : DevNo) (s t : State) : Prop where
  device : ∃ y : Timer, (t.devices[d]'d.isLt) =
    { s.devices[d]'d.isLt with live := { (s.devices[d]'d.isLt).live with hold := y } }
  slots : t.slots = s.slots
  coils : t.coils = s.coils
  pending : ∀ k : Notice, k.ofPlay = false → t.isPending k = s.isPending k

section
variable {s : State} {d : DevNo}

theorem Left.trans {t u : State} (h : Left d s t) (hd : u.devices = t.devices) (hs : u.slots = t.slots)
    (hc : u.coils = t.coils) (hp : ∀ k : Notice, k.ofPlay = false → u.isPending k = t.isPending k) : Left d s u where
  device := by
    obtain ⟨y, hy⟩ := h.device
    refine ⟨y, ?_⟩
    simp only [hd]
    exact hy
  slots := hs.trans h.slots
  coils := hc.trans h.coils
  pending k hk := (hp k hk).trans (h.pending k hk)

theorem Left.played {t : State} (h : Left d s t) : Left d s (enterPlay t) := h.trans rfl rfl rfl fun _ _ => rfl

theorem saucerHold_left (d : DevNo) (before : Nat) (s : State) : Left d s (saucerHold d before 0 s) := by
  have hrefl : Left d s s := ⟨⟨_, rfl⟩, rfl, rfl, fun _ _ => rfl⟩
  simp only [saucerHold]
  split
  · exact hrefl
  · split
    · refine ⟨⟨(s.devices[d]'d.isLt).live.hold.halt, ?_⟩, rfl, rfl, fun _ _ => rfl⟩
      rw [State.modLive_get, if_pos rfl]
    · rw [if_neg fun hn => Nat.not_succ_le_zero 0 hn.2.1]
      exact hrefl

/-- A device that an evaluation leaves with nothing to look for. -/
def State.busyAt (s : State) (d : DevNo) : Prop :=
  (s.devices[d]'d.isLt).live.state ≠ .idle ∨ ((s.devices[d]'d.isLt).live.owed = 0 ∧ s.queuedCount d = 0)

theorem evaluated_left (hord : (s.tallied d).2.ordinary = 0) (hb : (s.acted d).busyAt d) :
    Left d (s.acted d) (s.evaluated d) := by
  have hleft := saucerHold_left d (s.devices[d]'d.isLt).live.occupancy (s.acted d)
  have heq : s.evaluated d = takeOrder d (saucerHold d (s.devices[d]'d.isLt).live.occupancy 0 (s.acted d)) := by
    rw [State.evaluated, hord]
    rfl
  rw [heq]
  generalize s.acted d = u at *
  generalize saucerHold d (s.devices[d]'d.isLt).live.occupancy 0 u = v at hleft ⊢
  obtain ⟨y, hy⟩ := hleft.device
  have hsame : takeOrder d v = v := by
    obtain hi | ⟨h0, hq⟩ := hb
    · exact takeOrder_busy (by rw [hy]; exact hi)
    · exact takeOrder_rests (.inl (by rw [hy]; exact h0)) ((State.queuedCount_of_slots d hleft.slots).trans hq)
  rw [hsame]
  exact hleft

/-- The evaluation of a device with exits and no entry, by the work at its order. -/
theorem evaluation_left (h : (s.devices[d]'d.isLt).cfg.entry = none)
    (hc : s.closedCount d < (s.devices[d]'d.isLt).live.occupancy) (hb : (s.acted d).busyAt d) :
    Left d (s.acted d) (event (evaluate d) s) := by
  have hord : (s.tallied d).2.ordinary = 0 := by rw [tallied_exits h hc.le]
  have hleft := evaluated_left hord hb
  have hdeparted := evaluate_departed h hc
  have hcalm := closeEvent_calm hdeparted.loose fun _ => hdeparted.balls
  have hclosing := closeEvent_closing s (evaluate d s)
  have hplay : Left d (s.acted d) (evaluate d s) := by
    rw [evaluate_eq]
    split
    · exact hleft.played
    · exact hleft
  exact hplay.trans hcalm.devices hclosing.slots hcalm.coils hclosing.pending

end

/-! #### An exit in CONFIRMING (R31, R33) -/

section
variable {s : State} {d : DevNo} {n : SlotNo}

theorem startBall_coil (d : DevNo) (k : Nat) (s : State) : (startBall d k s).slots = s.slots ∧
    ∀ j : Notice, (startBall d k s).isPending j = s.isPending j := by
  rw [startBall_eq]
  exact ⟨rfl, fun _ => rfl⟩

theorem startBall_get (d : DevNo) (k : Nat) (s : State) : ∃ i : Nat, ((startBall d k s).devices[d]'d.isLt) =
    { s.devices[d]'d.isLt with live := (s.devices[d]'d.isLt).live.started k i } := by
  refine ⟨if s.profile d = .holdRelease then s.needs d else 1, ?_⟩
  rw [startBall_eq, State.modCoilLive_devices, State.modLive_get, if_pos rfl]

theorem nextBall_rests (hn : s.needs d = 0 ∨ (s.devices[d]'d.isLt).live.occupancy = 0 ∨
    (s.devices[d]'d.isLt).live.stopPending = true) : nextBall d s = s := by
  refine if_neg fun ⟨_, _, hstop, hneeds, hocc⟩ => ?_
  obtain h0 | h0 | h0 := hn
  · exact absurd h0 (Nat.ne_of_gt hneeds)
  · exact absurd h0 (Nat.ne_of_gt hocc)
  · exact hstop h0

theorem nextBall_starts (hs : (s.devices[d]'d.isLt).live.state = .confirming)
    (ha : (s.devices[d]'d.isLt).live.attemptConfirmed = true) (hp : (s.devices[d]'d.isLt).live.stopPending = false)
    (hn : s.needs d ≠ 0) (ho : 1 ≤ (s.devices[d]'d.isLt).live.occupancy) : nextBall d s = startBall d 1 s :=
  if_pos ⟨hs, ha, by rw [hp]; exact Bool.false_ne_true, Nat.pos_of_ne_zero hn, ho⟩

/-- What an evaluation leaves that counts one exit in CONFIRMING against a slot order with its ball still needed. -/
structure ExitMet (d : DevNo) (n : SlotNo) (s t : State) : Prop where
  slot : (t.slots[n]'n.isLt) = { s.slots[n]'n.isLt with ejected := (s.slots[n]'n.isLt).ejected + 1 }
  order : (t.devices[d]'d.isLt).live.order = .slot n
  exits : (t.devices[d]'d.isLt).live.exitsInOrder = min 8 ((s.devices[d]'d.isLt).live.exitsInOrder + 1)
  confirm : (t.devices[d]'d.isLt).live.confirm = (s.devices[d]'d.isLt).live.confirm
  single : s.isPending .doubleEject = false → t.isPending .doubleEject = false
  waits : (s.slots[n]'n.isLt).ejected + 1 = (s.slots[n]'n.isLt).requested ∨ s.closedCount d = 0 →
    (t.devices[d]'d.isLt).live.state = .confirming ∧ (t.devices[d]'d.isLt).live.attemptConfirmed = true ∧
      (t.devices[d]'d.isLt).live.attemptExits = 1
  starts : (s.slots[n]'n.isLt).ejected + 1 < (s.slots[n]'n.isLt).requested → 1 ≤ s.closedCount d →
    (t.devices[d]'d.isLt).live.state = .ejecting ∧ (t.devices[d]'d.isLt).live.attemptCount = 1 ∧
      (t.devices[d]'d.isLt).live.attemptConfirmed = false ∧ (t.devices[d]'d.isLt).live.attemptExits = 0

theorem ExitMet.of_left {u t : State} (h : ExitMet d n s u) (g : Left d u t) : ExitMet d n s t := by
  obtain ⟨⟨y, hy⟩, hs, -, hp⟩ := g
  have hslot : t.slots[n]'n.isLt = u.slots[n]'n.isLt := by simp only [hs]
  have hdouble := hp .doubleEject (by decide)
  obtain ⟨h1, h2, h3, h4, h5, h6, h7⟩ := h
  refine ⟨hslot.trans h1, ?_, ?_, ?_, fun hd => hdouble.trans (h5 hd), ?_, ?_⟩
  · rw [hy]
    exact h2
  · rw [hy]
    exact h3
  · rw [hy]
    exact h4
  · rw [hy]
    exact h6
  · rw [hy]
    exact h7

theorem acted_met (hs : (s.devices[d]'d.isLt).live.state = .confirming) (ho : (s.devices[d]'d.isLt).live.order = .slot n)
    (hp : (s.devices[d]'d.isLt).live.stopPending = false) (h : (s.devices[d]'d.isLt).cfg.entry = none)
    (ha : (s.devices[d]'d.isLt).live.attemptExits = 0) (hi : (s.devices[d]'d.isLt).live.intended = 1)
    (hc : (s.devices[d]'d.isLt).live.occupancy = s.closedCount d + 1)
    (he : (s.slots[n]'n.isLt).ejected < (s.slots[n]'n.isLt).requested) :
    ExitMet d n s (s.acted d) ∧ ((s.acted d).devices[d]'d.isLt).live.state ≠ .idle := by
  have hsent := sent_slot ho
  have hone : s.exits d = 1 := by rw [State.exits, hc, Nat.add_sub_cancel_left]
  have hneeds := hsent.needs ho
  have hact : s.acted d = nextBall d (s.sent d) := by
    rw [acted_eq h (by omega) (by rw [ho]; exact Order.noConfusion), if_neg (by rw [hp]; exact fun hn => nomatch hn.2), if_pos hs]
  rw [hone] at hneeds
  rw [hact]
  generalize s.sent d = u at hsent hneeds ⊢
  obtain ⟨hdev, hslots, -, hpending, hdouble⟩ := hsent
  rw [hone] at hdev hslots hdouble
  have hexits : min 8 ((s.devices[d]'d.isLt).live.attemptExits + 1) = 1 := by rw [ha]; rfl
  have hslot : u.slots[n]'n.isLt = { s.slots[n]'n.isLt with ejected := (s.slots[n]'n.isLt).ejected + 1 } := by
    simp only [hslots]
    rw [Fin.getElem_fin, Vector.getElem_set_self, Slot.sent, min_eq_right he]
  have hsingle : s.isPending .doubleEject = false → u.isPending .doubleEject = false := fun hd => by
    rw [hdouble, hd, DeviceLive.exceeds, hi, hexits]
    rfl
  by_cases hnext : (s.slots[n]'n.isLt).ejected + 1 = (s.slots[n]'n.isLt).requested ∨ s.closedCount d = 0
  · have hrests : nextBall d u = u := by
      refine nextBall_rests (hnext.imp (fun hm => ?_) fun h0 => .inl ?_)
      · rw [hneeds, hm, Nat.sub_self]
      · rw [hdev]
        exact h0
    rw [hrests]
    refine ⟨⟨hslot, ?_, ?_, ?_, hsingle, fun _ => ⟨?_, ?_, ?_⟩, fun hlt h1 => ?_⟩, ?_⟩
    · rw [hdev]
      exact ho
    · rw [hdev]
      rfl
    · rw [hdev]
      rfl
    · rw [hdev]
      exact hs
    · rw [hdev]
      rfl
    · rw [hdev]
      exact hexits
    · omega
    · rw [hdev]
      exact fun hi => DeviceState.noConfusion (hs.symm.trans hi)
  · have hstarts : nextBall d u = startBall d 1 u := by
      refine nextBall_starts ?_ ?_ ?_ (by omega) ?_
      · rw [hdev]
        exact hs
      · rw [hdev]
        rfl
      · rw [hdev]
        exact hp
      · rw [hdev]
        exact Nat.pos_of_ne_zero fun h0 => hnext (.inr h0)
    rw [hstarts]
    obtain ⟨i, hget⟩ := startBall_get d 1 u
    obtain ⟨hsame, hquiet⟩ := startBall_coil d 1 u
    rw [hdev] at hget
    refine ⟨⟨?_, ?_, ?_, ?_, fun hd => (hquiet _).trans (hsingle hd), fun hn => absurd hn hnext, fun _ _ => ?_⟩, ?_⟩
    · simp only [hsame]
      exact hslot
    · rw [hget]
      exact ho
    · rw [hget]
      rfl
    · rw [hget]
      rfl
    · rw [hget]
      exact ⟨rfl, rfl, rfl, rfl⟩
    · rw [hget]
      exact DeviceState.noConfusion

end

end Sys2Proof.Machine

/-! ### A fallback (R34, R66) -/

namespace Sys2Proof.Machine

theorem youngestAt_append {test : FlightRec → Bool} {older younger : List FlightRec} {r : FlightRec}
    (hr : test r = true) (hy : ∀ x ∈ younger, test x = false) :
    youngestAt test (older ++ r :: younger) = some older.length := by
  have hrev : (older ++ r :: younger).reverse = younger.reverse ++ r :: older.reverse := by simp
  have hfind := oldestAt_append (test := test) (older := younger.reverse) (younger := older.reverse) hr
    fun x hx => hy x (List.mem_reverse.mp hx)
  unfold oldestAt at hfind
  rw [youngestAt, hrev, hfind, List.length_append, List.length_cons, Option.map_some, List.length_reverse]
  refine congrArg some ?_
  omega

section
variable {s : State} {d : DevNo}

/-! #### The count of a ball that fell back -/

/-- What the ball of a fallback leaves, once it is handed to the device. -/
structure HandedBack (fs : List FlightRec) (s : State) (r : State × Tally) : Prop where
  devices : r.1.devices = s.devices
  flights : r.1.acct.flights = fs
  live : r.1.acct.live = s.acct.live
  missing : r.1.acct.missing = s.acct.missing
  decisions : r.1.decisions = s.decisions
  all : r.2.unattributed = 0
  ordinary : r.2.ordinary = 0

/-- The rules of a ball that fell back. -/
theorem entryRules_fallback (d : DevNo) (s : State) :
    entryRules d true .returned s = s ∨ entryRules d true .returned s = setPhase .launchWait s := by
  have hno : ¬ (d = trough ∧ (Supply.returned = .live ∨ Supply.returned = .playfield)) := fun h =>
    h.2.elim Supply.noConfusion Supply.noConfusion
  simp only [entryRules, if_neg hno, if_true]
  split
  · simp only [shooterEntry, Bool.not_true, Bool.and_false, Bool.false_eq_true, if_false, if_true]
    split
    · exact .inr rfl
    · exact .inl rfl
    · exact .inl rfl
  · exact .inl rfl

theorem handEntry_fallback {older younger : List FlightRec} {r : FlightRec} (hfl : s.acct.flights = older ++ r :: younger)
    (hr : r.source = d) (hy : ∀ x ∈ younger, x.source ≠ d) :
    HandedBack (older ++ younger) s (handEntry d true ⟨0, 0, 0⟩ s) := by
  have hyoung := youngestAt_append (test := fun x => x.source == d) (older := older) (younger := younger) (r := r)
    (by simpa using hr) fun x hx => by simpa using hy x hx
  have hsupply : supplyEntry d true 0 s =
      ({ s with acct := { s.acct with flights := older ++ younger } },
        (if s.acct.flights.length ≤ older.length + 0 then 0 - 1 else 0), .returned) := by
    rw [← hfl] at hyoung
    simp only [supplyEntry, if_true, hyoung, takeFlight, removeFlight_append hfl]
  simp only [handEntry, hsupply, if_neg (show ¬ Supply.returned = .unattributed from Supply.noConfusion), if_true]
  obtain he | he := entryRules_fallback d { s with acct := { s.acct with flights := older ++ younger } }
  · rw [he]
    exact ⟨rfl, rfl, rfl, rfl, rfl, rfl, rfl⟩
  · rw [he]
    exact ⟨rfl, rfl, rfl, rfl, rfl, rfl, rfl⟩

/-- The count of a fallback of one ball. -/
theorem tallied_fallback (h : (s.devices[d]'d.isLt).cfg.entry = none)
    (hc : s.closedCount d = (s.devices[d]'d.isLt).live.occupancy + 1) (hf : s.fallsBack d = true) : s.tallied d =
      ((handEntry d true ⟨0, 0, 0⟩ (s.cleared d)).1.modLive d
        (fun l => { l with occupancy := s.closedCount d - (handEntry d true ⟨0, 0, 0⟩ (s.cleared d)).2.unattributed }),
        (handEntry d true ⟨0, 0, 0⟩ (s.cleared d)).2) := by
  have hone : s.closedCount d - (s.devices[d]'d.isLt).live.occupancy = 1 := by omega
  have hnone : (s.devices[d]'d.isLt).live.occupancy - s.closedCount d = 0 := by omega
  rw [State.tallied, tallies_unentered h, hf, hone, hnone]
  rfl

/-- What the count of a fallback leaves. -/
structure FellBack (fs : List FlightRec) (d : DevNo) (s : State) (r : State × Tally) : Prop where
  device : (r.1.devices[d]'d.isLt) = { s.devices[d]'d.isLt with live := { (s.devices[d]'d.isLt).live with
    settle := .stopped, entriesSeen := 0, occupancy := s.closedCount d } }
  flights : r.1.acct.flights = fs
  live : r.1.acct.live = s.acct.live
  missing : r.1.acct.missing = s.acct.missing
  decisions : r.1.decisions = s.decisions
  ordinary : r.2.ordinary = 0

theorem tallied_fellBack {older younger : List FlightRec} {r : FlightRec} (h : (s.devices[d]'d.isLt).cfg.entry = none)
    (hc : s.closedCount d = (s.devices[d]'d.isLt).live.occupancy + 1) (hf : s.fallsBack d = true)
    (hfl : s.acct.flights = older ++ r :: younger) (hr : r.source = d) (hy : ∀ x ∈ younger, x.source ≠ d) :
    FellBack (older ++ younger) d s (s.tallied d) := by
  have hacct := cleared_acct s d
  have hget := cleared_get s d
  have hdec : (s.cleared d).decisions = s.decisions := rfl
  have hhand := handEntry_fallback (s := s.cleared d) (by rw [hacct]; exact hfl) hr hy
  rw [tallied_fallback h hc hf]
  generalize handEntry d true ⟨0, 0, 0⟩ (s.cleared d) = r at hhand ⊢
  obtain ⟨hdev, hflights, hlive, hmissing, hdecisions, hall, hord⟩ := hhand
  rw [hacct] at hlive hmissing
  refine ⟨?_, hflights, hlive, hmissing, hdecisions.trans hdec, hord⟩
  have hsame : r.1.devices[d] = (s.cleared d).devices[d] := by simp only [hdev]
  rw [State.modLive_get, if_pos rfl, hall, hsame, hget]
  rfl

/-! #### The ball started again -/

/-- A device's live part when a ball fell back against an owed eject. -/
def DeviceLive.fellBack (l : DeviceLive) : DeviceLive :=
  { l with owed := min 8 (l.owed + 1), exitsInOrder := l.exitsInOrder - 1 }

theorem uncountExit_owed (ho : (s.devices[d]'d.isLt).live.order = .owed) :
    uncountExit d s = s.modLive d DeviceLive.fellBack := by
  simp only [uncountExit, ho]
  rw [State.modLive_modLive]
  rfl

theorem actFallback_again (ho : (s.devices[d]'d.isLt).live.order = .owed)
    (hs : (s.devices[d]'d.isLt).live.state = .confirming) (hp : (s.devices[d]'d.isLt).live.stopPending = false)
    (ha : (s.devices[d]'d.isLt).live.attemptCount < (s.devices[d]'d.isLt).cfg.maxAttempts) :
    actFallback d s = startBall d ((s.devices[d]'d.isLt).live.attemptCount + 1) (s.modLive d DeviceLive.fellBack) := by
  have hget : (s.modLive d DeviceLive.fellBack).devices[d]'d.isLt =
      { s.devices[d]'d.isLt with live := (s.devices[d]'d.isLt).live.fellBack } := by
    rw [State.modLive_get, if_pos rfl]
  have hcount : ((s.modLive d DeviceLive.fellBack).devices[d]'d.isLt).live.attemptCount =
      (s.devices[d]'d.isLt).live.attemptCount := by
    rw [hget]
    rfl
  have hagain := failedAttempt_again (d := d) (s := s.modLive d DeviceLive.fellBack) (by rw [hget]; exact hp)
    (by rw [hget]; exact ha)
  rw [hcount] at hagain
  have hconf : ((s.modLive d DeviceLive.fellBack).devices[d]'d.isLt).live.state = .confirming := by
    rw [hget]
    exact hs
  unfold actFallback
  rw [uncountExit_owed ho]
  exact (if_pos hconf).trans hagain

theorem actOnOrder_fallback (hs : (s.devices[d]'d.isLt).live.state = .confirming)
    (hp : (s.devices[d]'d.isLt).live.stopPending = false) : actOnOrder d 0 true s = actFallback d s := by
  have hnone : ¬ (1 : Nat) ≤ 0 := Nat.not_succ_le_zero 0
  simp only [actOnOrder, hs, hp, hnone, and_false, if_false, true_and, Bool.false_eq_true, false_and, reduceCtorEq,
    not_true_eq_false, if_true]

/-- What a fallback against an owed eject leaves. -/
structure Restarted (d : DevNo) (s t : State) : Prop where
  owed : (t.devices[d]'d.isLt).live.owed = min 8 ((s.devices[d]'d.isLt).live.owed + 1)
  exits : (t.devices[d]'d.isLt).live.exitsInOrder = (s.devices[d]'d.isLt).live.exitsInOrder - 1
  state : (t.devices[d]'d.isLt).live.state = .ejecting
  order : (t.devices[d]'d.isLt).live.order = .owed
  attempt : (t.devices[d]'d.isLt).live.attemptCount = (s.devices[d]'d.isLt).live.attemptCount + 1
  hold : (t.devices[d]'d.isLt).live.hold = (s.devices[d]'d.isLt).live.hold

theorem evaluated_restarted {fs : List FlightRec}
    (hs : (s.devices[d]'d.isLt).live.state = .confirming) (ho : (s.devices[d]'d.isLt).live.order = .owed)
    (hp : (s.devices[d]'d.isLt).live.stopPending = false)
    (ha : (s.devices[d]'d.isLt).live.attemptCount < (s.devices[d]'d.isLt).cfg.maxAttempts)
    (h : (s.devices[d]'d.isLt).cfg.entry = none) (hc : s.closedCount d = (s.devices[d]'d.isLt).live.occupancy + 1)
    (hf : s.fallsBack d = true) (hfell : FellBack fs d s (s.tallied d)) :
    Restarted d s (s.evaluated d) := by
  have hexits : (s.tallies d).1 = 0 := by
    rw [tallies_unentered h]
    dsimp only
    omega
  rw [State.evaluated, hexits, hf]
  generalize s.tallied d = r at hfell ⊢
  obtain ⟨u, t⟩ := r
  obtain ⟨hget, -, -, -, -, hord⟩ := hfell
  dsimp only at hget hord ⊢
  rw [actOnOrder_fallback (by rw [hget]; exact hs) (by rw [hget]; exact hp),
    actFallback_again (by rw [hget]; exact ho) (by rw [hget]; exact hs) (by rw [hget]; exact hp) (by rw [hget]; exact ha), hord]
  obtain ⟨i, hstart⟩ := startBall_get d ((u.devices[d]'d.isLt).live.attemptCount + 1) (u.modLive d DeviceLive.fellBack)
  rw [State.modLive_get, if_pos rfl, hget] at hstart
  rw [hget]
  generalize startBall d _ (u.modLive d DeviceLive.fellBack) = w at hstart ⊢
  have hocc : (w.devices[d]'d.isLt).live.occupancy ≠ 0 := by
    rw [hstart]
    exact fun h0 => Nat.succ_ne_zero _ (hc.symm.trans h0)
  have hhold : saucerHold d (s.devices[d]'d.isLt).live.occupancy 0 w = w := by
    by_cases hk : (w.devices[d]'d.isLt).cfg.kind ≠ .saucer
    · exact if_pos hk
    · exact (if_neg hk).trans ((if_neg hocc).trans (if_neg fun hn => Nat.not_succ_le_zero 0 hn.2.1))
  rw [hhold, takeOrder_busy (by rw [hstart]; exact DeviceState.noConfusion)]
  constructor <;> rw [hstart]
  · rfl
  · rfl
  · rfl
  · exact ho
  · rfl
  · rfl

theorem evaluation_decisions (s : State) (d : DevNo) :
    (event (evaluate d) s).decisions = (s.tallied d).1.decisions := by
  have hplay (c : Prop) [Decidable c] (t : State) : (if c then enterPlay t else t).decisions = t.decisions := by
    split <;> rfl
  obtain ⟨v, c, x, n, hf⟩ := (evaluated_acting s d).frame
  rw [event, (closeEvent_closing s _).decisions, evaluate_eq, hplay, hf]

end

/-- Settles O14. -/
theorem exitsAndFallbacksMeetTheOrder : Obligations.ExitsAndFallbacksMeetTheOrder := by
  unfold Obligations.ExitsAndFallbacksMeetTheOrder
  refine ⟨fun s d n hr hd hs ho hp h ha hi hc _ he => ?_, fun s d older younger r hr hd hs ho hp h1 hconf ha h hc hfl hsrc hy => ?_⟩
  · refine ⟨_, evaluation_taken hr hd, ?_⟩
    obtain ⟨hmet, hbusy⟩ := acted_met hs ho hp h ha hi hc he
    have hleft := evaluation_left h (by omega) (.inl hbusy)
    obtain ⟨g1, g2, g3, g4, g5, g6, g7⟩ := hmet.of_left hleft
    exact ⟨g1, g2, g3, g4, g5, g6, g7⟩
  · have htaken := evaluation_taken hr hd
    have hf : s.fallsBack d = true := by
      have hone : (s.tallies d).2 = 1 := by
        rw [tallies_unentered h]
        dsimp only
        omega
      rw [State.fallsBack, hone, DeviceLive.fallsBack, ho, hconf, decide_eq_true h1]
      rfl
    have hfell := tallied_fellBack h hc hf hfl hsrc hy
    have hagain := evaluated_restarted hs ho hp ha h hc hf hfell
    obtain ⟨hlive, hmissing, -, hflights⟩ := evaluation_acct s d
    have hdecisions := evaluation_decisions s d
    have hdev : (event (evaluate d) s).devices[d] = (s.evaluated d).devices[d] := by simp only [evaluation_devices]
    obtain ⟨-, f2, f3, f4, f5, -⟩ := hfell
    generalize event (evaluate d) s = t at htaken hlive hmissing hflights hdecisions hdev
    generalize s.evaluated d = w at hagain hdev
    obtain ⟨g1, g2, g3, g4, g5, g6⟩ := hagain
    refine ⟨t, htaken, ?_⟩
    rw [hdev]
    exact ⟨hflights.trans f2, hlive.trans f3, hmissing.trans f4, g1, g2, g3, g4, g5, g6, hdecisions.trans f5⟩

end Sys2Proof.Machine

/-! ### Exits counted in EJECTING, by the stage of the request (R29, R30, R54) -/

namespace Sys2Proof.Machine

/-! #### The stages -/

section
variable {s : State} {c : CoilNo} {d : DevNo}

theorem stage_own (h : s.stage c d ≠ .queued) (hc : s.stage c d ≠ .closed) :
    (s.coils[c]'c.isLt).live.held ≠ some d ∧ (s.coils[c]'c.isLt).live.owner = some (.device d) := by
  refine ⟨fun hh => h (if_pos hh), not_not.mp fun hn => ?_⟩
  by_cases hh : (s.coils[c]'c.isLt).live.held = some d
  · exact h (if_pos hh)
  · exact hc ((if_neg hh).trans (if_pos hn))

theorem stage_of_own (hh : (s.coils[c]'c.isLt).live.held ≠ some d)
    (ho : (s.coils[c]'c.isLt).live.owner = some (.device d)) : s.stage c d =
      match (s.coils[c]'c.isLt).live.state with
      | .waiting => if (s.coils[c]'c.isLt).live.pulses = 0 then .queued else .between
      | .firing => .firing
      | .holding => .holding
      | .recovering => if (s.coils[c]'c.isLt).live.interval then .between else .closed
      | .idle => .closed := (if_neg hh).trans (if_neg (not_not.mpr ho))

theorem stage_firing_state (h : s.stage c d = .firing) : (s.coils[c]'c.isLt).live.state = .firing := by
  obtain ⟨hh, ho⟩ := stage_own (by rw [h]; exact Stage.noConfusion) (by rw [h]; exact Stage.noConfusion)
  rw [stage_of_own hh ho] at h
  revert h
  split
  · split <;> exact fun h => nomatch h
  · next hs => exact fun _ => hs
  · exact fun h => nomatch h
  · split <;> exact fun h => nomatch h
  · exact fun h => nomatch h

theorem stage_holding_state (h : s.stage c d = .holding) : (s.coils[c]'c.isLt).live.state = .holding := by
  obtain ⟨hh, ho⟩ := stage_own (by rw [h]; exact Stage.noConfusion) (by rw [h]; exact Stage.noConfusion)
  rw [stage_of_own hh ho] at h
  revert h
  split
  · split <;> exact fun h => nomatch h
  · exact fun h => nomatch h
  · next hs => exact fun _ => hs
  · split <;> exact fun h => nomatch h
  · exact fun h => nomatch h

theorem stage_queued_state (h : s.stage c d = .queued) (hh : (s.coils[c]'c.isLt).live.held = none) :
    (s.coils[c]'c.isLt).live.state = .waiting ∧ (s.coils[c]'c.isLt).live.owner = some (.device d) ∧
      (s.coils[c]'c.isLt).live.pulses = 0 := by
  have hn : (s.coils[c]'c.isLt).live.held ≠ some d := by
    rw [hh]
    exact Option.some_ne_none d |>.symm
  have ho : (s.coils[c]'c.isLt).live.owner = some (.device d) := not_not.mp fun hno =>
    Stage.noConfusion (h.symm.trans ((if_neg hn).trans (if_pos hno)))
  rw [stage_of_own hn ho] at h
  revert h
  split
  · next hs =>
    split
    · next hp => exact fun _ => ⟨hs, ho, hp⟩
    · exact fun h => nomatch h
  · exact fun h => nomatch h
  · exact fun h => nomatch h
  · split <;> exact fun h => nomatch h
  · exact fun h => nomatch h

theorem stage_between_state (h : s.stage c d = .between) :
    ((s.coils[c]'c.isLt).live.state = .waiting ∧ (s.coils[c]'c.isLt).live.pulses ≠ 0) ∨
      ((s.coils[c]'c.isLt).live.state = .recovering ∧ (s.coils[c]'c.isLt).live.interval = true) := by
  obtain ⟨hh, ho⟩ := stage_own (by rw [h]; exact Stage.noConfusion) (by rw [h]; exact Stage.noConfusion)
  rw [stage_of_own hh ho] at h
  revert h
  split
  · next hs =>
    split
    · exact fun h => nomatch h
    · next hp => exact fun _ => .inl ⟨hs, hp⟩
  · exact fun h => nomatch h
  · exact fun h => nomatch h
  · next hs =>
    split
    · next hi => exact fun _ => .inr ⟨hs, hi⟩
    · exact fun h => nomatch h
  · exact fun h => nomatch h

/-! #### The end of the request at each stage -/

theorem endRequest_atFiring (h : s.stage c d = .firing) :
    endRequest c d s = s.modCoilLive c fun l => { l with ending := true } := by
  obtain ⟨hh, ho⟩ := stage_own (by rw [h]; exact Stage.noConfusion) (by rw [h]; exact Stage.noConfusion)
  exact endRequest_firing hh ho (stage_firing_state h)

theorem endRequest_atHolding (h : s.stage c d = .holding) : endRequest c d s = enterRecovering c s := by
  obtain ⟨hh, ho⟩ := stage_own (by rw [h]; exact Stage.noConfusion) (by rw [h]; exact Stage.noConfusion)
  exact endRequest_holding hh ho (stage_holding_state h)

theorem endRequest_atBetween (h : s.stage c d = .between) : endRequest c d s = enterRecovering c s := by
  obtain ⟨hh, ho⟩ := stage_own (by rw [h]; exact Stage.noConfusion) (by rw [h]; exact Stage.noConfusion)
  obtain ⟨hs, hp⟩ | ⟨hs, hi⟩ := stage_between_state h
  · rw [endRequest_waiting hh ho hs, if_neg hp]
  · rw [endRequest_recovering hh ho hs, if_pos hi]

theorem endRequest_atQueued (h : s.stage c d = .queued) (hh : (s.coils[c]'c.isLt).live.held = none) :
    endRequest c d s = s.modCoilLive c CoilLive.idled := by
  obtain ⟨hs, ho, hp⟩ := stage_queued_state h hh
  exact endRequest_withdrawn hs ho hp hh

/-! #### What the device does at each stage -/

theorem actEjecting_queued (h : s.stage (s.devices[d]'d.isLt).cfg.coil d = .queued) : actEjecting d s =
    if s.needs d = 0 then enterConfirming d (endRequest (s.devices[d]'d.isLt).cfg.coil d s) else reuseRequest d s := by
  simp only [actEjecting, h]

theorem actEjecting_between (h : s.stage (s.devices[d]'d.isLt).cfg.coil d = .between) :
    actEjecting d s = nextBall d (enterConfirming d (endRequest (s.devices[d]'d.isLt).cfg.coil d s)) := by
  simp only [actEjecting, h]

theorem actEjecting_holding (h : s.stage (s.devices[d]'d.isLt).cfg.coil d = .holding) : actEjecting d s =
    if s.needs d = 0 then deviceRelease true d (endRequest (s.devices[d]'d.isLt).cfg.coil d s) else s := by
  simp only [actEjecting, h]

theorem actEjecting_pulse (h : s.stage (s.devices[d]'d.isLt).cfg.coil d = .firing) (hp : s.profile d = .pulse) :
    actEjecting d s = if s.needs d = 0 then s else reuseRequest d s := by
  simp only [actEjecting, h, hp]

theorem actEjecting_repeating (h : s.stage (s.devices[d]'d.isLt).cfg.coil d = .firing) (hp : s.profile d = .repeating) :
    actEjecting d s = if s.laterPulse (s.devices[d]'d.isLt).cfg.coil = true ∨ s.needs d = 0
      then endRequest (s.devices[d]'d.isLt).cfg.coil d s else reuseRequest d s := by
  simp only [actEjecting, h, hp]

theorem actEjecting_holdRelease (h : s.stage (s.devices[d]'d.isLt).cfg.coil d = .firing)
    (hp : s.profile d = .holdRelease) : actEjecting d s =
      if s.needs d = 0 then endRequest (s.devices[d]'d.isLt).cfg.coil d s else s := by
  simp only [actEjecting, h, hp]

end

/-! #### What the order and the slots keep -/

/-- Work at the current ball of device `d`, which keeps the order and what it counts. -/
structure Working (d : DevNo) (s t : State) : Prop where
  slots : t.slots = s.slots
  order : (t.devices[d]'d.isLt).live.order = (s.devices[d]'d.isLt).live.order
  exits : (t.devices[d]'d.isLt).live.exitsInOrder = (s.devices[d]'d.isLt).live.exitsInOrder
  owed : (t.devices[d]'d.isLt).live.owed = (s.devices[d]'d.isLt).live.owed
  busy : (s.devices[d]'d.isLt).live.state ≠ .idle → (t.devices[d]'d.isLt).live.state ≠ .idle
  pending : ∀ k : Notice, t.isPending k = s.isPending k

section
variable {s : State} {d : DevNo}

theorem Working.refl (d : DevNo) (s : State) : Working d s s := ⟨rfl, rfl, rfl, rfl, id, fun _ => rfl⟩

theorem Working.trans {t u : State} (h : Working d s t) (g : Working d t u) : Working d s u where
  slots := g.slots.trans h.slots
  order := g.order.trans h.order
  exits := g.exits.trans h.exits
  owed := g.owed.trans h.owed
  busy := g.busy ∘ h.busy
  pending k := (g.pending k).trans (h.pending k)

theorem endRequest_working (c : CoilNo) (d : DevNo) (s : State) : Working d s (endRequest c d s) := by
  have hdev := endRequest_devices c d s
  obtain ⟨v, hv⟩ := endRequest_frame c d s
  refine ⟨endRequest_slots c d s, by rw [hdev], by rw [hdev], by rw [hdev], fun hb => by rw [hdev]; exact hb, fun k => ?_⟩
  rw [hv]
  rfl

theorem restartSettle_working (d : DevNo) (s : State) : Working d s (restartSettle d s) := by
  have hget := restartSettle_get d d s
  rw [if_pos rfl] at hget
  exact ⟨rfl, by rw [hget], by rw [hget], by rw [hget], fun hb => by rw [hget]; exact hb, fun _ => rfl⟩

theorem enterConfirming_working (d : DevNo) (s : State) : Working d s (enterConfirming d s) := by
  have hget := enterConfirming_get d d s
  rw [if_pos rfl] at hget
  exact ⟨rfl, by rw [hget], by rw [hget], by rw [hget], fun _ => by rw [hget]; exact DeviceState.noConfusion, fun _ => rfl⟩

theorem deviceRelease_working (own : Bool) (d : DevNo) (s : State) : Working d s (deviceRelease own d s) := by
  simp only [deviceRelease]
  split
  · exact .refl d s
  · split
    · exact (restartSettle_working d s).trans (enterConfirming_working d _)
    · exact restartSettle_working d s

theorem startBall_working (d : DevNo) (k : Nat) (s : State) : Working d s (startBall d k s) := by
  obtain ⟨i, hget⟩ := startBall_get d k s
  obtain ⟨hslots, hpending⟩ := startBall_coil d k s
  exact ⟨hslots, by rw [hget]; rfl, by rw [hget]; rfl, by rw [hget]; rfl,
    fun _ => by rw [hget]; exact DeviceState.noConfusion, hpending⟩

theorem nextBall_working (d : DevNo) (s : State) : Working d s (nextBall d s) := by
  simp only [nextBall]
  split
  · exact startBall_working d 1 s
  · exact .refl d s

theorem reuseRequest_get (d : DevNo) (s : State) : ((reuseRequest d s).devices[d]'d.isLt) = { s.devices[d]'d.isLt with
    live := if (s.devices[d]'d.isLt).live.stopPending then (s.devices[d]'d.isLt).live
      else { (s.devices[d]'d.isLt).live with attemptExits := 0, attemptConfirmed := false } } := by
  unfold reuseRequest
  rw [State.modLive_get, if_pos rfl]

theorem reuseRequest_working (d : DevNo) (s : State) : Working d s (reuseRequest d s) := by
  have hget := congrArg Device.live (reuseRequest_get d s)
  refine ⟨rfl, ?_, ?_, ?_, fun hb => ?_, fun _ => rfl⟩
  all_goals
    rw [hget]
    dsimp only
    split
  · rfl
  · rfl
  · rfl
  · rfl
  · rfl
  · rfl
  · exact hb
  · exact hb

theorem actEjecting_working (d : DevNo) (s : State) : Working d s (actEjecting d s) := by
  have hend := endRequest_working (s.devices[d]'d.isLt).cfg.coil d s
  have hreuse := reuseRequest_working d s
  simp only [actEjecting]
  split
  · split
    · exact hend.trans (enterConfirming_working d _)
    · exact hreuse
  · exact (hend.trans (enterConfirming_working d _)).trans (nextBall_working d _)
  · split
    · split
      · exact .refl d s
      · exact hreuse
    · split
      · exact hend
      · exact hreuse
    · split
      · exact hend
      · exact .refl d s
  · split
    · exact hend.trans (deviceRelease_working true d _)
    · exact .refl d s
  · exact .refl d s

/-! #### The device and its coil in each case -/

theorem confirming_get (c : CoilNo) (d : DevNo) (s : State) :
    ((enterConfirming d (endRequest c d s)).devices[d]'d.isLt) = { s.devices[d]'d.isLt with
      live := { (s.devices[d]'d.isLt).live with
        state := .confirming, confirm := .load (s.devices[d]'d.isLt).cfg.confirmTimeout } } := by
  rw [enterConfirming_get, if_pos rfl]
  simp only [endRequest_devices]

theorem releasing_get (c : CoilNo) (h : (s.devices[d]'d.isLt).live.state = .ejecting) :
    ((deviceRelease true d (endRequest c d s)).devices[d]'d.isLt) = { s.devices[d]'d.isLt with
      live := { (s.devices[d]'d.isLt).live with
        state := .confirming, settle := .load (s.devices[d]'d.isLt).cfg.settleTime,
        confirm := .load (s.devices[d]'d.isLt).cfg.confirmTimeout } } ∧
    (deviceRelease true d (endRequest c d s)).coils = (endRequest c d s).coils := by
  have hdev := endRequest_devices c d s
  rw [deviceRelease_ejecting (by rw [hdev]; exact h)]
  refine ⟨?_, rfl⟩
  rw [released_get, if_pos rfl, hdev]

/-- A coil that an ended request leaves RECOVERING. -/
def Coil.recovers (x y : Coil) : Prop :=
  y.live.state = .recovering ∧ y.live.interval = false ∧ y.live.timer = ⟨x.cfg.recovery, true, false⟩

theorem enterRecovering_recovers {c : CoilNo} (h : (s.coils[c]'c.isLt).cfg.recovery ≠ 0) :
    (s.coils[c]'c.isLt).recovers ((enterRecovering c s).coils[c]'c.isLt) := by
  rw [enterRecovering_of_pos h, State.modCoilLive_get, if_pos rfl]
  exact ⟨rfl, rfl, rfl⟩

theorem startBall_held {c : CoilNo} (hc : (s.devices[d]'d.isLt).cfg.coil = c)
    (h : (s.coils[c]'c.isLt).live.state ≠ .idle) (k : Nat) : ((startBall d k s).coils[c]'c.isLt) =
      { s.coils[c]'c.isLt with live := { (s.coils[c]'c.isLt).live with held := some d } } := by
  subst hc
  rw [startBall_eq, State.modCoilLive_get, if_pos rfl]
  exact congrArg (fun l => { s.coils[(s.devices[d]'d.isLt).cfg.coil] with live := l }) (if_neg h)

end

end Sys2Proof.Machine

/-! ### The table of exits in EJECTING (R29, R30, R38, R54) -/

namespace Sys2Proof.Machine

/-- The coil of the device. -/
abbrev State.kicker (s : State) (d : DevNo) : CoilNo := (s.devices[d]'d.isLt).cfg.coil

/-- The coil of the device, with its record. -/
abbrev State.kickCoil (s : State) (d : DevNo) : Coil := s.coils[s.kicker d]'(s.kicker d).isLt

/-- Whether the exits of an evaluation meet the slot order of device `d`. -/
def State.meets (s : State) (d : DevNo) (n : SlotNo) : Prop :=
  (s.slots[n]'n.isLt).requested ≤ (s.slots[n]'n.isLt).ejected + s.exits d

/-- The ball is confirmed, in CONFIRMING. -/
def Device.Confirms (v : Device) (x : Nat) (l : DeviceLive) : Prop :=
  l.state = .confirming ∧ l.confirm = ⟨v.cfg.confirmTimeout, true, false⟩ ∧ l.attemptConfirmed = true ∧
    l.attemptExits = min 8 (v.live.attemptExits + x) ∧ l.attemptCount = v.live.attemptCount

/-- The ball is confirmed, with its request still at work. -/
def Device.GoesOn (v : Device) (x : Nat) (l : DeviceLive) : Prop :=
  l.state = .ejecting ∧ l.attemptConfirmed = true ∧ l.attemptExits = min 8 (v.live.attemptExits + x) ∧
    l.attemptCount = v.live.attemptCount

/-- The request serves the next ball. -/
def Device.ServesNext (v : Device) (l : DeviceLive) : Prop :=
  l.state = .ejecting ∧ l.attemptConfirmed = false ∧ l.attemptExits = 0 ∧ l.attemptCount = v.live.attemptCount

/-- The coils with the request of device `d` marked as ending. -/
def State.endingAt (s : State) (d : DevNo) : Vector Coil 24 :=
  s.coils.set (s.kicker d) { s.kickCoil d with live := { (s.kickCoil d).live with ending := true } }

/-- What exits counted in EJECTING make of the device and the coils, by the stage of the request and the profile. -/
structure Profiled (d : DevNo) (n : SlotNo) (s : State) (l : DeviceLive) (v : Vector Coil 24) : Prop where
  withdrawn : s.stage (s.kicker d) d = .queued → s.meets d n → (s.devices[d]'d.isLt).Confirms (s.exits d) l ∧
    ((s.kickCoil d).live.held = some d → v = s.coils.set (s.kicker d)
      { s.kickCoil d with live := { (s.kickCoil d).live with held := none } }) ∧
    ((s.kickCoil d).live.held = none → (v[s.kicker d]'(s.kicker d).isLt).live.state = .idle ∧
      (v[s.kicker d]'(s.kicker d).isLt).live.owner = none)
  reused : s.stage (s.kicker d) d = .queued → ¬ s.meets d n → (s.devices[d]'d.isLt).live.stopPending = false →
    (s.devices[d]'d.isLt).ServesNext l ∧ v = s.coils
  completes : s.stage (s.kicker d) d = .firing → (s.kickCoil d).cfg.profile = .pulse → s.meets d n →
    (s.devices[d]'d.isLt).GoesOn (s.exits d) l ∧ v = s.coils
  completesNext : s.stage (s.kicker d) d = .firing → (s.kickCoil d).cfg.profile = .pulse → ¬ s.meets d n →
    (s.devices[d]'d.isLt).live.stopPending = false → (s.devices[d]'d.isLt).ServesNext l ∧ v = s.coils
  repeatEnds : s.stage (s.kicker d) d = .firing → (s.kickCoil d).cfg.profile = .repeating →
    2 ≤ (s.kickCoil d).live.pulses ∨ s.meets d n →
    (s.devices[d]'d.isLt).GoesOn (s.exits d) l ∧ v = s.endingAt d
  repeatNext : s.stage (s.kicker d) d = .firing → (s.kickCoil d).cfg.profile = .repeating →
    (s.kickCoil d).live.pulses ≤ 1 → ¬ s.meets d n → (s.devices[d]'d.isLt).live.stopPending = false →
    (s.devices[d]'d.isLt).ServesNext l ∧ v = s.coils
  holdEnds : s.stage (s.kicker d) d = .firing → (s.kickCoil d).cfg.profile = .holdRelease → s.meets d n →
    (s.devices[d]'d.isLt).GoesOn (s.exits d) l ∧ v = s.endingAt d
  holdCounts : s.stage (s.kicker d) d = .firing → (s.kickCoil d).cfg.profile = .holdRelease → ¬ s.meets d n →
    (s.devices[d]'d.isLt).GoesOn (s.exits d) l ∧ v = s.coils
  releases : s.stage (s.kicker d) d = .holding → s.meets d n → (s.devices[d]'d.isLt).Confirms (s.exits d) l ∧
    l.settle = ⟨(s.devices[d]'d.isLt).cfg.settleTime, true, false⟩ ∧ ((s.kickCoil d).cfg.recovery ≠ 0 →
      (s.kickCoil d).recovers (v[s.kicker d]'(s.kicker d).isLt))
  holds : s.stage (s.kicker d) d = .holding → ¬ s.meets d n → (s.devices[d]'d.isLt).GoesOn (s.exits d) l ∧ v = s.coils
  betweenStops : s.stage (s.kicker d) d = .between →
    s.meets d n ∨ s.closedCount d = 0 ∨ (s.devices[d]'d.isLt).live.stopPending = true →
    (s.devices[d]'d.isLt).Confirms (s.exits d) l ∧ ((s.kickCoil d).cfg.recovery ≠ 0 →
      (s.kickCoil d).recovers (v[s.kicker d]'(s.kicker d).isLt))
  betweenNext : s.stage (s.kicker d) d = .between → ¬ s.meets d n → 1 ≤ s.closedCount d →
    (s.devices[d]'d.isLt).live.stopPending = false → l.state = .ejecting ∧ l.attemptCount = 1 ∧ l.attemptExits = 0 ∧
      l.attemptConfirmed = false ∧ l.confirm = ⟨(s.devices[d]'d.isLt).cfg.confirmTimeout, true, false⟩ ∧
      ((s.kickCoil d).cfg.recovery ≠ 0 → (s.kickCoil d).recovers (v[s.kicker d]'(s.kicker d).isLt) ∧
        (v[s.kicker d]'(s.kicker d).isLt).live.held = some d)

section
variable {s u : State} {d : DevNo} {n : SlotNo}

theorem Profiled.rehold {l : DeviceLive} {v : Vector Coil 24} (h : Profiled d n s l v) (y : Timer) :
    Profiled d n s { l with hold := y } v :=
  ⟨h.withdrawn, h.reused, h.completes, h.completesNext, h.repeatEnds, h.repeatNext, h.holdEnds, h.holdCounts, h.releases,
    h.holds, h.betweenStops, h.betweenNext⟩

/-- What the count of exits leaves in EJECTING, seen from the state before it. -/
structure Counting (d : DevNo) (n : SlotNo) (s u : State) : Prop where
  device : (u.devices[d]'d.isLt) = { s.devices[d]'d.isLt with
    live := (s.devices[d]'d.isLt).live.left (s.exits d) (s.closedCount d) }
  coils : u.coils = s.coils
  needs : u.needs d = 0 ↔ s.meets d n
  state : (s.devices[d]'d.isLt).live.state = .ejecting

variable (h : Counting d n s u)
include h

theorem Counting.kicker : u.kicker d = s.kicker d := by
  have hcoil := congrArg (fun v : Device => v.cfg.coil) h.device
  exact hcoil

theorem Counting.stage : u.stage (u.kicker d) d = s.stage (s.kicker d) d := by rw [h.kicker, stage_congr h.coils]

theorem Counting.kickCoil : u.coils[s.kicker d]'(s.kicker d).isLt = s.kickCoil d := by simp only [h.coils]

theorem Counting.profile : u.profile d = (s.kickCoil d).cfg.profile := by
  have hsame : u.profile d = (s.coils[u.kicker d]'(u.kicker d).isLt).cfg.profile := by
    unfold State.profile
    simp only [h.coils]
  exact hsame.trans (congrArg (fun c : CoilNo => (s.coils[c]'c.isLt).cfg.profile) h.kicker)

theorem Counting.servesNext (hp : (s.devices[d]'d.isLt).live.stopPending = false) :
    (s.devices[d]'d.isLt).ServesNext ((reuseRequest d u).devices[d]'d.isLt).live ∧ (reuseRequest d u).coils = s.coils := by
  have hstop : (u.devices[d]'d.isLt).live.stopPending = false := by
    rw [h.device]
    exact hp
  rw [reuseRequest_get, hstop, h.device]
  exact ⟨⟨h.state, rfl, rfl, rfl⟩, h.coils⟩

theorem Counting.goesOn : (s.devices[d]'d.isLt).GoesOn (s.exits d) (u.devices[d]'d.isLt).live := by
  rw [h.device]
  exact ⟨h.state, rfl, rfl, rfl⟩

theorem Counting.ends (hs : s.stage (s.kicker d) d = .firing) :
    (s.devices[d]'d.isLt).GoesOn (s.exits d) ((endRequest (u.kicker d) d u).devices[d]'d.isLt).live ∧
      (endRequest (u.kicker d) d u).coils = s.endingAt d := by
  have hend := endRequest_atFiring (h.stage.trans hs)
  refine ⟨?_, ?_⟩
  · simp only [endRequest_devices]
    exact h.goesOn
  · rw [hend, h.kicker, State.modCoilLive]
    unfold State.modCoil State.endingAt
    simp only [h.coils]

theorem Counting.confirms : (s.devices[d]'d.isLt).Confirms (s.exits d)
    ((enterConfirming d (endRequest (u.kicker d) d u)).devices[d]'d.isLt).live := by
  rw [confirming_get, h.device]
  exact ⟨rfl, rfl, rfl, rfl, rfl⟩

theorem Counting.recovers (hr : (s.kickCoil d).cfg.recovery ≠ 0) (hs : s.stage (s.kicker d) d = .holding ∨
    s.stage (s.kicker d) d = .between) :
    (s.kickCoil d).recovers ((endRequest (u.kicker d) d u).coils[s.kicker d]'(s.kicker d).isLt) := by
  have hend : endRequest (u.kicker d) d u = enterRecovering (u.kicker d) u :=
    hs.elim (fun g => endRequest_atHolding (h.stage.trans g)) fun g => endRequest_atBetween (h.stage.trans g)
  have hcoil := h.kickCoil
  rw [hend, h.kicker, ← hcoil]
  exact enterRecovering_recovers (by rw [hcoil]; exact hr)

theorem Counting.withdrawn (hs : s.stage (s.kicker d) d = .queued) :
    ((s.kickCoil d).live.held = some d → (endRequest (u.kicker d) d u).coils = s.coils.set (s.kicker d)
      { s.kickCoil d with live := { (s.kickCoil d).live with held := none } }) ∧
    ((s.kickCoil d).live.held = none →
      ((endRequest (u.kicker d) d u).coils[s.kicker d]'(s.kicker d).isLt).live.state = .idle ∧
      ((endRequest (u.kicker d) d u).coils[s.kicker d]'(s.kicker d).isLt).live.owner = none) := by
  have hcoil := h.kickCoil
  refine ⟨fun hh => ?_, fun hh => ?_⟩
  · have hend := endRequest_held (c := s.kicker d) (d := d) (s := u) (by rw [hcoil]; exact hh)
    rw [h.kicker, hend, State.modCoilLive]
    unfold State.modCoil
    simp only [h.coils]
  · have hend := endRequest_atQueued (s := u) (c := s.kicker d) (d := d) ((stage_congr h.coils).trans hs)
      (by rw [hcoil]; exact hh)
    rw [h.kicker, hend, State.modCoilLive_get, if_pos rfl]
    exact ⟨rfl, rfl⟩

theorem Counting.between (hn : ¬ s.meets d n) (hc : 1 ≤ s.closedCount d)
    (hp : (s.devices[d]'d.isLt).live.stopPending = false) :
    nextBall d (enterConfirming d (endRequest (u.kicker d) d u)) =
      startBall d 1 (enterConfirming d (endRequest (u.kicker d) d u)) := by
  have hwork := (endRequest_working (u.kicker d) d u).trans (enterConfirming_working d _)
  have hget := confirming_get (u.kicker d) d u
  have hneeds : (enterConfirming d (endRequest (u.kicker d) d u)).needs d = u.needs d := by
    unfold State.needs
    rw [hwork.order, hwork.owed, hwork.slots]
  have hdev := h.device
  generalize enterConfirming d (endRequest (u.kicker d) d u) = w at *
  rw [hdev] at hget
  refine nextBall_starts ?_ ?_ ?_ ?_ ?_
  · rw [hget]
  · rw [hget]
    rfl
  · rw [hget]
    exact hp
  · rw [hneeds]
    exact mt h.needs.mp hn
  · rw [hget]
    exact hc

theorem Counting.stops (hn : s.meets d n ∨ s.closedCount d = 0 ∨ (s.devices[d]'d.isLt).live.stopPending = true) :
    nextBall d (enterConfirming d (endRequest (u.kicker d) d u)) = enterConfirming d (endRequest (u.kicker d) d u) := by
  have hwork := (endRequest_working (u.kicker d) d u).trans (enterConfirming_working d _)
  have hget := confirming_get (u.kicker d) d u
  have hneeds : (enterConfirming d (endRequest (u.kicker d) d u)).needs d = u.needs d := by
    unfold State.needs
    rw [hwork.order, hwork.owed, hwork.slots]
  have hdev := h.device
  generalize enterConfirming d (endRequest (u.kicker d) d u) = w at *
  rw [hdev] at hget
  refine nextBall_rests (hn.imp (fun hm => hneeds.trans (h.needs.mpr hm)) (Or.imp (fun h0 => ?_) fun hp => ?_))
  · rw [hget]
    exact h0
  · rw [hget]
    exact hp

theorem actEjecting_profiled : Profiled d n s ((actEjecting d u).devices[d]'d.isLt).live (actEjecting d u).coils := by
  have hstage := h.stage
  have hpulses : u.laterPulse (u.kicker d) = decide (2 ≤ (s.kickCoil d).live.pulses) := by
    rw [h.kicker, State.laterPulse]
    exact congrArg (fun c : Coil => decide (2 ≤ c.live.pulses)) h.kickCoil
  have hmet (hm : s.meets d n) := h.needs.mpr hm
  have hunmet (hm : ¬ s.meets d n) := mt h.needs.mp hm
  constructor
  case withdrawn =>
    intro hs hm
    rw [actEjecting_queued (hstage.trans hs), if_pos (hmet hm)]
    exact ⟨h.confirms, h.withdrawn hs⟩
  case reused =>
    intro hs hm hp
    rw [actEjecting_queued (hstage.trans hs), if_neg (hunmet hm)]
    exact h.servesNext hp
  case completes =>
    intro hs hp hm
    rw [actEjecting_pulse (hstage.trans hs) (h.profile.trans hp), if_pos (hmet hm)]
    exact ⟨h.goesOn, h.coils⟩
  case completesNext =>
    intro hs hp hm hstop
    rw [actEjecting_pulse (hstage.trans hs) (h.profile.trans hp), if_neg (hunmet hm)]
    exact h.servesNext hstop
  case repeatEnds =>
    intro hs hp hm
    rw [actEjecting_repeating (hstage.trans hs) (h.profile.trans hp), hpulses, if_pos (hm.imp decide_eq_true hmet)]
    exact h.ends hs
  case repeatNext =>
    intro hs hp hl hm hstop
    have hno : ¬ (decide (2 ≤ (s.kickCoil d).live.pulses) = true ∨ u.needs d = 0) := fun hn =>
      hn.elim (fun g => absurd (of_decide_eq_true g) (Nat.not_le.mpr (Nat.lt_succ_of_le hl))) (hunmet hm)
    rw [actEjecting_repeating (hstage.trans hs) (h.profile.trans hp), hpulses, if_neg hno]
    exact h.servesNext hstop
  case holdEnds =>
    intro hs hp hm
    rw [actEjecting_holdRelease (hstage.trans hs) (h.profile.trans hp), if_pos (hmet hm)]
    exact h.ends hs
  case holdCounts =>
    intro hs hp hm
    rw [actEjecting_holdRelease (hstage.trans hs) (h.profile.trans hp), if_neg (hunmet hm)]
    exact ⟨h.goesOn, h.coils⟩
  case releases =>
    intro hs hm
    have hejects : (u.devices[d]'d.isLt).live.state = .ejecting := by
      rw [h.device]
      exact h.state
    obtain ⟨hget, hcoils⟩ := releasing_get (u.kicker d) hejects
    rw [actEjecting_holding (hstage.trans hs), if_pos (hmet hm), hcoils, hget, h.device]
    exact ⟨⟨rfl, rfl, rfl, rfl, rfl⟩, rfl, fun hr => h.recovers hr (.inl hs)⟩
  case holds =>
    intro hs hm
    rw [actEjecting_holding (hstage.trans hs), if_neg (hunmet hm)]
    exact ⟨h.goesOn, h.coils⟩
  case betweenStops =>
    intro hs hm
    rw [actEjecting_between (hstage.trans hs), h.stops hm]
    exact ⟨h.confirms, fun hr => h.recovers hr (.inr hs)⟩
  case betweenNext =>
    intro hs hm hc hp
    rw [actEjecting_between (hstage.trans hs), h.between hm hc hp]
    obtain ⟨i, hget⟩ := startBall_get d 1 (enterConfirming d (endRequest (u.kicker d) d u))
    rw [confirming_get, h.device] at hget
    have hheld := startBall_held (c := s.kicker d) (s := enterConfirming d (endRequest (u.kicker d) d u)) (d := d)
      (by rw [confirming_get]; exact h.kicker)
    have hrecovers := fun hr => h.recovers hr (.inr hs)
    rw [hget]
    refine ⟨rfl, rfl, rfl, rfl, rfl, fun hr => ?_⟩
    obtain ⟨g1, g2, g3⟩ := hrecovers hr
    have hcoil := hheld (fun hi => CoilState.noConfusion (g1.symm.trans hi)) 1
    rw [hcoil]
    exact ⟨⟨g1, g2, g3⟩, rfl⟩

end

end Sys2Proof.Machine

/-! ### Exits in EJECTING and a cancelled order that ends (R29 to R31, R38) -/

namespace Sys2Proof.Machine

section
variable {s : State} {d : DevNo} {n : SlotNo}

/-! #### Every evaluation with exits -/

theorem OrderFrame.doubleEject {t : State} (h : OrderFrame s t) : t.isPending .doubleEject = s.isPending .doubleEject := by
  obtain ⟨v, c, x, b, rfl⟩ := h
  rw [isPending_raiseIf, decide_eq_false Notice.noConfusion, Bool.and_false, Bool.or_false]
  rfl

theorem acted_doubleEject (h : (s.devices[d]'d.isLt).cfg.entry = none)
    (hc : s.closedCount d < (s.devices[d]'d.isLt).live.occupancy) (ho : (s.devices[d]'d.isLt).live.order ≠ .none) :
    (s.acted d).isPending .doubleEject = (s.sent d).isPending .doubleEject := by
  rw [acted_eq h hc ho]
  split
  · exact (OrderFrame.of_endOrder d resultAtCancel (s.sent d)).doubleEject
  · split
    · exact (nextBall_working d _).pending _
    · split
      · exact (actEjecting_working d _).pending _
      · rfl

/-- What every evaluation with exits against a slot order leaves. -/
structure Evaluated (d : DevNo) (s t : State) : Prop where
  cfg : (t.devices[d]'d.isLt).cfg = (s.devices[d]'d.isLt).cfg
  occupancy : (t.devices[d]'d.isLt).live.occupancy = s.closedCount d
  double : t.isPending .doubleEject = (s.isPending .doubleEject || (s.devices[d]'d.isLt).live.exceeds (s.exits d))

theorem evaluation_evaluated (h : (s.devices[d]'d.isLt).cfg.entry = none)
    (hc : s.closedCount d < (s.devices[d]'d.isLt).live.occupancy) (ho : (s.devices[d]'d.isLt).live.order = .slot n) :
    Evaluated d s (event (evaluate d) s) := by
  have hacting := evaluated_acting s d
  have hget := exited_get s d (s.exits d) (s.closedCount d)
  have hdouble := acted_doubleEject h hc (by rw [ho]; exact Order.noConfusion)
  have hhold := (saucerHold_left d (s.devices[d]'d.isLt).live.occupancy (s.acted d)).pending .doubleEject (by decide)
  have htallied : s.tallied d = (s.exited d (s.exits d) (s.closedCount d), ⟨s.exits d, 0, 0⟩) := tallied_exits h hc.le
  have htake : s.evaluated d = takeOrder d (saucerHold d (s.devices[d]'d.isLt).live.occupancy 0 (s.acted d)) := by
    have hord : (s.tallied d).2.ordinary = 0 := by rw [htallied]
    unfold State.evaluated State.acted
    rw [hord]
  have horder : (s.evaluated d).isPending .doubleEject = (s.acted d).isPending .doubleEject := by
    rw [htake]
    exact (OrderFrame.of_takeOrderFuel 9 d _).doubleEject.trans hhold
  have hplay (c : Prop) [Decidable c] (t : State) : (if c then enterPlay t else t).isPending .doubleEject =
      t.isPending .doubleEject := by split <;> rfl
  have hdev : (event (evaluate d) s).devices[d] = (s.evaluated d).devices[d] := by simp only [evaluation_devices]
  have hpending : (event (evaluate d) s).isPending .doubleEject = (s.evaluated d).isPending .doubleEject := by
    rw [event, (closeEvent_closing s _).pending .doubleEject rfl, evaluate_eq, hplay]
  rw [htallied] at hacting
  have hcfg := hacting.cfg
  have hocc := (DeviceLive.of_numbers hacting.numbers).1
  have hsent := (sent_slot ho).double
  generalize event (evaluate d) s = t at hdev hpending ⊢
  generalize s.evaluated d = w at *
  refine ⟨?_, ?_, hpending.trans (horder.trans (hdouble.trans hsent))⟩
  · rw [hdev, hcfg, hget]
  · rw [hdev, hocc, hget]

/-! #### In EJECTING -/

theorem counting_slot (hs : (s.devices[d]'d.isLt).live.state = .ejecting)
    (ho : (s.devices[d]'d.isLt).live.order = .slot n) : Counting d n s (s.sent d) where
  device := (sent_slot ho).device
  coils := (sent_slot ho).coils
  needs := by
    rw [(sent_slot ho).needs ho]
    exact Nat.sub_eq_zero_iff_le
  state := hs

/-- What an evaluation with exits leaves in EJECTING against a slot order. -/
structure Ejected (d : DevNo) (n : SlotNo) (s t : State) : Prop where
  slots : t.slots = s.slots.set n ((s.slots[n]'n.isLt).sent (s.exits d))
  order : (t.devices[d]'d.isLt).live.order = .slot n
  exits : (t.devices[d]'d.isLt).live.exitsInOrder = min 8 ((s.devices[d]'d.isLt).live.exitsInOrder + s.exits d)
  owed : (t.devices[d]'d.isLt).live.owed = (s.devices[d]'d.isLt).live.owed
  table : Profiled d n s (t.devices[d]'d.isLt).live t.coils

theorem evaluation_ejected (h : (s.devices[d]'d.isLt).cfg.entry = none)
    (hc : s.closedCount d < (s.devices[d]'d.isLt).live.occupancy) (ho : (s.devices[d]'d.isLt).live.order = .slot n)
    (hs : (s.devices[d]'d.isLt).live.state = .ejecting) : Ejected d n s (event (evaluate d) s) := by
  have hcount := counting_slot hs ho
  have htable := actEjecting_profiled hcount
  have hwork := actEjecting_working d (s.sent d)
  have hslots := (sent_slot ho).slots
  have hconf : ¬ (s.devices[d]'d.isLt).live.state = .confirming := fun hn => DeviceState.noConfusion (hs.symm.trans hn)
  have hact : s.acted d = actEjecting d (s.sent d) := by
    rw [acted_eq h hc (by rw [ho]; exact Order.noConfusion), if_neg fun hn => hconf hn.1, if_neg hconf, if_pos hs]
  have hdev := hcount.device
  have hbusy : ((s.sent d).devices[d]'d.isLt).live.state ≠ .idle := by
    rw [hdev]
    exact fun hn => DeviceState.noConfusion (hs.symm.trans hn)
  rw [← hact] at hwork htable
  have hleft := evaluation_left h hc (.inl (hwork.busy hbusy))
  generalize s.sent d = u at hwork hdev hslots
  generalize s.acted d = w at hwork htable hleft
  generalize event (evaluate d) s = t at hleft ⊢
  obtain ⟨⟨y, hy⟩, gslots, gcoils, -⟩ := hleft
  obtain ⟨g1, g2, g3, g4, -, -⟩ := hwork
  rw [hdev] at g2 g3 g4
  refine ⟨gslots.trans (g1.trans hslots), ?_, ?_, ?_, ?_⟩
  · rw [hy]
    exact g2.trans ho
  · rw [hy]
    exact g3
  · rw [hy]
    exact g4
  · rw [hy, gcoils]
    exact htable.rehold y

/-! #### A cancelled order that ends -/

/-- What an exit counted in CONFIRMING leaves with stop pending. -/
structure StopEnded (d : DevNo) (n : SlotNo) (s t : State) : Prop where
  slots : t.slots = s.slots.set n { (s.slots[n]'n.isLt).sent (s.exits d) with
    state := .idle, result := resultAtCancel ((s.slots[n]'n.isLt).sent (s.exits d)) }
  finished : t.isPending .ejectFinished = true
  device : ∃ y : Timer, (t.devices[d]'d.isLt).live =
    { ((s.devices[d]'d.isLt).live.left (s.exits d) (s.closedCount d)).ended with hold := y }
  coils : t.coils = s.coils

theorem Sent.queuedCount {t : State} (h : Sent d n s t) (hq : s.queuedCount d = 0) : t.queuedCount d = 0 := by
  refine State.queuedCount_eq_zero.mpr fun m hm => ?_
  have hslot : t.slots[m] = if n = m then (s.slots[n]'n.isLt).sent (s.exits d) else (s.slots[m]'m.isLt) := by
    simp only [h.slots]
    simp only [Fin.getElem_fin, Vector.getElem_set, Fin.val_inj]
  rw [hslot] at hm
  split at hm
  · next he =>
    subst he
    exact State.queuedCount_eq_zero.mp hq n hm
  · exact State.queuedCount_eq_zero.mp hq m hm

/-- The end of a cancelled order whose exits are counted. -/
theorem Sent.stopped {u : State} (h : Sent d n s u) (ho : (s.devices[d]'d.isLt).live.order = .slot n)
    (ha : (s.slots[n]'n.isLt).state = .active) (hw : (s.devices[d]'d.isLt).live.owed = 0) (hq : s.queuedCount d = 0) :
    StopEnded d n s (endOrder d resultAtCancel u) ∧ (endOrder d resultAtCancel u).busyAt d := by
  have hcount := h.queuedCount hq
  obtain ⟨hdev, hslots, hcoils, -, -⟩ := h
  have hslot : u.slots[n]'n.isLt = (s.slots[n]'n.isLt).sent (s.exits d) := by
    simp only [hslots]
    exact Vector.getElem_set_self n.isLt
  have hend := endOrder_slot (d := d) (n := n) (r := resultAtCancel) (s := u) (by rw [hdev]; exact ho)
    (by rw [hslot]; exact fun hn => SlotState.noConfusion (ha.symm.trans hn)) (.inl (by rw [hdev]; exact hw)) hcount
  have hget : ((endOrder d resultAtCancel u).devices[d]'d.isLt) = { s.devices[d]'d.isLt with
      live := ((s.devices[d]'d.isLt).live.left (s.exits d) (s.closedCount d)).ended } := by
    rw [hend, State.raise_devices, State.modLive_get, if_pos rfl, State.modSlot_devices, hdev]
  refine ⟨⟨?_, ?_, ⟨_, by rw [hget]⟩, ?_⟩, .inr ⟨by rw [hget]; exact hw, State.queuedCount_eq_zero.mpr fun m hm => ?_⟩⟩
  · rw [hend, State.raise_slots, State.modLive_slots, State.modSlot, hslot]
    simp only [hslots]
    exact Vector.set_set ..
  · rw [hend, isPending_raise, decide_eq_true rfl, Bool.or_true]
  · rw [hend, State.raise_coils, State.modLive_coils, State.modSlot_coils, hcoils]
  · rw [hend, State.raise_slots, State.modLive_slots, State.modSlot_get] at hm
    split at hm
    · exact SlotState.noConfusion hm.1
    · exact State.queuedCount_eq_zero.mp hcount m hm

theorem StopEnded.of_left {u t : State} (h : StopEnded d n s u) (g : Left d u t) : StopEnded d n s t := by
  obtain ⟨hslots, hfinished, ⟨y, hy⟩, hcoils⟩ := h
  obtain ⟨⟨z, hz⟩, gslots, gcoils, gpending⟩ := g
  refine ⟨gslots.trans hslots, (gpending .ejectFinished (by decide)).trans hfinished, ⟨z, ?_⟩, gcoils.trans hcoils⟩
  rw [hz, hy]

theorem evaluation_cancelled (h : (s.devices[d]'d.isLt).cfg.entry = none)
    (hc : s.closedCount d < (s.devices[d]'d.isLt).live.occupancy) (ho : (s.devices[d]'d.isLt).live.order = .slot n)
    (hs : (s.devices[d]'d.isLt).live.state = .confirming) (hp : (s.devices[d]'d.isLt).live.stopPending = true)
    (ha : (s.slots[n]'n.isLt).state = .active) (hw : (s.devices[d]'d.isLt).live.owed = 0) (hq : s.queuedCount d = 0) :
    StopEnded d n s (event (evaluate d) s) := by
  have hact : s.acted d = endOrder d resultAtCancel (s.sent d) := by
    rw [acted_eq h hc (by rw [ho]; exact Order.noConfusion), if_pos ⟨hs, hp⟩]
  have hstopped := (sent_slot ho).stopped ho ha hw hq
  rw [← hact] at hstopped
  exact hstopped.1.of_left (evaluation_left h hc hstopped.2)

theorem enterConfirming_coils (d : DevNo) (s : State) : (enterConfirming d s).coils = s.coils := rfl

/-! #### An owed eject whose request still waits -/

theorem sent_owed (ho : (s.devices[d]'d.isLt).live.order = .owed) : ((s.sent d).devices[d]'d.isLt) =
    { s.devices[d]'d.isLt with live := { (s.devices[d]'d.isLt).live with
      owed := (s.devices[d]'d.isLt).live.owed - s.exits d }.left (s.exits d) (s.closedCount d) } ∧
    (s.sent d).coils = s.coils := by
  have hget := exited_get s d (s.exits d) (s.closedCount d)
  have hcoils : (s.exited d (s.exits d) (s.closedCount d)).coils = s.coils := rfl
  unfold State.sent
  generalize s.exited d (s.exits d) (s.closedCount d) = u at *
  rw [confirmExits_owed (by rw [hget]; exact ho)]
  refine ⟨?_, by rw [State.raiseIf_coils]; exact hcoils⟩
  simp only [State.raiseIf_devices]
  rw [State.modLive_get, if_pos rfl, hget]
  rfl

/-- What an evaluation leaves whose exits meet the owed ejects of a device with its request still waiting. -/
structure Repaid (d : DevNo) (s t : State) : Prop where
  owed : (t.devices[d]'d.isLt).live.owed = 0
  state : (t.devices[d]'d.isLt).live.state = .confirming
  order : (t.devices[d]'d.isLt).live.order = .owed
  confirmed : (t.devices[d]'d.isLt).live.attemptConfirmed = true
  confirm : (t.devices[d]'d.isLt).live.confirm = ⟨(s.devices[d]'d.isLt).cfg.confirmTimeout, true, false⟩
  exits : (t.devices[d]'d.isLt).live.exitsInOrder = min 8 ((s.devices[d]'d.isLt).live.exitsInOrder + s.exits d)
  coil : (t.coils[s.kicker d]'(s.kicker d).isLt).live.state = .idle
  owner : (t.coils[s.kicker d]'(s.kicker d).isLt).live.owner = none

theorem evaluation_repaid (h : (s.devices[d]'d.isLt).cfg.entry = none)
    (hc : s.closedCount d < (s.devices[d]'d.isLt).live.occupancy) (ho : (s.devices[d]'d.isLt).live.order = .owed)
    (hs : (s.devices[d]'d.isLt).live.state = .ejecting) (hq : s.stage (s.kicker d) d = .queued)
    (hh : (s.kickCoil d).live.held = none) (hle : (s.devices[d]'d.isLt).live.owed ≤ s.exits d) :
    Repaid d s (event (evaluate d) s) := by
  obtain ⟨hdev, hcoils⟩ := sent_owed ho
  have hconf : ¬ (s.devices[d]'d.isLt).live.state = .confirming := fun hn => DeviceState.noConfusion (hs.symm.trans hn)
  have hact : s.acted d = actEjecting d (s.sent d) := by
    rw [acted_eq h hc (by rw [ho]; exact Order.noConfusion), if_neg fun hn => hconf hn.1, if_neg hconf, if_pos hs]
  have hleft := evaluation_left (s := s) (d := d) h hc
  have hkick : (s.sent d).kicker d = s.kicker d := by
    have hcoil := congrArg (fun v : Device => v.cfg.coil) hdev
    exact hcoil
  have howed : ((s.sent d).devices[d]'d.isLt).live.owed = 0 := by
    rw [hdev]
    exact Nat.sub_eq_zero_of_le hle
  have hneeds : (s.sent d).needs d = 0 := by
    have horder : ((s.sent d).devices[d]'d.isLt).live.order = .owed := by
      rw [hdev]
      exact ho
    rw [State.needs, horder]
    exact howed
  have hstage : (s.sent d).stage ((s.sent d).kicker d) d = .queued := by rw [hkick, stage_congr hcoils, hq]
  rw [actEjecting_queued hstage, if_pos hneeds] at hact
  have hcoil : (s.sent d).coils[s.kicker d]'(s.kicker d).isLt = s.kickCoil d := by simp only [hcoils]
  have hend := endRequest_atQueued (s := s.sent d) (c := s.kicker d) (d := d) ((stage_congr hcoils).trans hq)
    (by rw [hcoil]; exact hh)
  have hidle : ((s.acted d).coils[s.kicker d]'(s.kicker d).isLt).live = (s.kickCoil d).live.idled := by
    have hsame : (s.acted d).coils = (endRequest ((s.sent d).kicker d) d (s.sent d)).coils := by
      rw [hact, enterConfirming_coils]
    simp only [hsame, hkick, hend]
    rw [State.modCoilLive_get, if_pos rfl, hcoil]
  have hget := confirming_get ((s.sent d).kicker d) d (s.sent d)
  rw [← hact, hdev] at hget
  clear hact hend
  generalize s.sent d = u at *
  generalize s.acted d = w at *
  have hafter := hleft (.inl (by rw [hget]; exact DeviceState.noConfusion))
  clear hleft
  generalize event (evaluate d) s = t at hafter ⊢
  obtain ⟨⟨y, hy⟩, -, gcoils, -⟩ := hafter
  rw [hget] at hy
  have hlast : (t.coils[s.kicker d]'(s.kicker d).isLt).live = (s.kickCoil d).live.idled := by
    simp only [gcoils]
    exact hidle
  constructor
  case coil => rw [hlast]; rfl
  case owner => rw [hlast]; rfl
  all_goals rw [hy]
  · exact Nat.sub_eq_zero_of_le hle
  · exact ho
  · rfl
  · rfl
  · rfl

end

/-- Settles O15. -/
theorem exitsInEjectingFollowTheProfile : Obligations.ExitsInEjectingFollowTheProfile := by
  unfold Obligations.ExitsInEjectingFollowTheProfile
  refine ⟨fun s d n hr hd h hc ho => ?_, fun s d hr hd h hc ho hs hq hh hle => ?_⟩
  · intro v c exits ejected met
    have htaken := evaluation_taken hr hd
    obtain ⟨h1, h2, h3⟩ := evaluation_evaluated h hc ho
    have hejected := evaluation_ejected h hc ho
    have hcancelled := evaluation_cancelled h hc ho
    generalize event (evaluate d) s = t at *
    refine ⟨t, htaken, h1, h2, h3, fun hs => ?_, fun hs hp ha hw hq => ?_⟩
    · obtain ⟨g1, g2, g3, g4, htable⟩ := hejected hs
      obtain ⟨k1, k2, k3, k4, k5, k6, k7, k8, k9, k10, k11, k12⟩ := htable
      refine ⟨g1, g2, g3, g4, k1, fun hst hm hp => ?_, k3, fun hst hpr hm hp => ?_, k5, fun hst hpr hl hm hp => ?_, k7, k8,
        k9, k10, k11, fun hst hm h1 hp => ?_⟩
      · obtain ⟨⟨e1, e2, e3, e4⟩, e5⟩ := k2 hst hm hp
        exact ⟨e1, e2, e3, e4, e5⟩
      · obtain ⟨⟨e1, e2, e3, e4⟩, e5⟩ := k4 hst hpr hm hp
        exact ⟨e1, e2, e3, e4, e5⟩
      · obtain ⟨⟨e1, e2, e3, e4⟩, e5⟩ := k6 hst hpr hl hm hp
        exact ⟨e1, e2, e3, e4, e5⟩
      · exact k12 hst hm h1 hp
    · obtain ⟨g1, g2, ⟨y, hy⟩, g4⟩ := hcancelled hs hp ha hw hq
      rw [hy]
      exact ⟨g1, g2, rfl, rfl, rfl, rfl, rfl, rfl, rfl, g4⟩
  · obtain ⟨g1, g2, g3, g4, g5, g6, g7, g8⟩ := evaluation_repaid h hc ho hs hq hh hle
    exact ⟨_, evaluation_taken hr hd, g1, g2, g3, g4, g5, g6, g7, g8⟩

end Sys2Proof.Machine
